-- ==== Sys2Proof/Word.lean ====
section
/-! DEFINITION. The words of the link: a byte as it travels on RXD and TXD (spec 11, section 11.1). -/

namespace Sys2Proof

/-- One byte of the RS-485 link (spec 11, section 11.1: 8 data bits). -/
abbrev Byte := BitVec 8

end Sys2Proof
end

