-- ==== Sys2Proof/Config.lean ====
section
/-! DEFINITION. The capacities, codes and fixed times of the UJ-340, each from the rule named beside it. -/

namespace Sys2Proof.Config

/-- R1: most entries of the Anchor Register. -/
def maxAnchors : Nat := 48
/-- R23: slots of the Plan Table. -/
def planSlots : Nat := 4
/-- R131: places of the grout queue. -/
def groutPlaces : Nat := 8
/-- R175: most entries of the pending-notice set. -/
def maxNotices : Nat := 32
/-- R185: frames of the input queue. -/
def inputFrames : Nat := 2
/-- R163: record slots of the Archive. -/
def slotCount : Nat := 1024
/-- R163: slots of one block. -/
def blockSize : Nat := 128
/-- R163: blocks of the Archive. -/
def blockCount : Nat := 8
/-- R151: monitor points. -/
def pointCount : Nat := 16
/-- R31: samples of one whole second. -/
def samplesPerSecond : Nat := 50
/-- R78: most values of a running average window. -/
def windowSize : Nat := 16
/-- R124: the brake interval, in s. -/
def brakeInterval : Nat := 2
/-- R42: the hold of a LOCKOFF step, in s. -/
def lockoffHold : Nat := 10
/-- R80: the end of the encoder count. -/
def encoderEnd : Int := 30000
/-- R83: the end of the drum count. -/
def drumEnd : Int := 9999999
/-- R84: the end of the pass volume. -/
def volumeEnd : Nat := 9999999
/-- R85: the stray count stops here. -/
def strayEnd : Nat := 255
/-- R94: a guard count is held here. -/
def guardEnd : Nat := 32
/-- R197, R164: the clock and the record number stop here. -/
def wordEnd : Nat := 4294967295
/-- R27 check 8, R7: most tests and most primary passes of an anchor. -/
def maxAttempts : Nat := 3
/-- R121: paid length from which the slack guard is active, in cm. -/
def slackFrom : Int := 200
/-- R76: a code below this is OPEN. -/
def openBelow : Nat := 9830
/-- R76: a code above this is OVER. -/
def overAbove : Nat := 57344
/-- R188: most bytes of fields on one page. -/
def pageBytes : Nat := 230
/-- R201: vendor code. -/
def vendorCode : Nat := 0x2E47
/-- R201: part code. -/
def partCode : Nat := 340
/-- R201: design revision. -/
def revision : Nat := 3
/-- Section 11.1: the first byte of a frame. -/
def sync : Byte := 0x5A#8
/-- The detail of the EMERGENCY notice that start-up hands when both lines are LOW: R113 hands the notice with "the
line" as detail and states no value for two lines. A free value (log 28). -/
opaque bothLinesDetail : BitVec 16
/-- The detail with which R53 refuses an extended flag on a relock plan: check 7 names the index of the CREEP step, and a
relock plan has none. A free value (log 29). -/
opaque noCreepDetail : BitVec 16
/-- The level of DRUM_DIR, HIGH or not, at the moment the n-th reply is formed. The line is the rig's: a level comes into the
model with each DRUM pulse (R83), and no command says where it stands between two pulses, while GET_INPUTS shows it as it
is (R91). A free value, fresh at every reply (log 31). -/
opaque drumDirHigh : Nat → Bool

end Sys2Proof.Config
end

