-- ==== Sys2Proof/Syntax.lean ====
section
/-! DEFINITION. The commands of the UJ-340: one constructor of `Instr` for each row of spec/opcode_table.json.
A request carries its tag and the fields of its BODY as the numbers that travel on the link (R193), so that a value
outside its codes or range reaches the check that refuses it. An event carries what the rig gives it. -/

namespace Sys2Proof

/-- The two stressing stations (R23 onward). -/
inductive Stn where
  | s1 | s2
  deriving DecidableEq, Repr, Inhabited

/-- The four channels sampled every 20 ms (R73, selectors 1 to 4). -/
inductive Chan where
  | load1 | load2 | tension | pressure
  deriving DecidableEq, Repr, Inhabited

/-- Which level of an encoder pair an accepted change moved (R80). -/
inductive EncLine where
  | a | b | both
  deriving DecidableEq, Repr, Inhabited

/-- The two emergency lines (R113), coded 1 and 2. -/
inductive EmLine where
  | estop | wallTrip
  deriving DecidableEq, Repr, Inhabited

/-- The eighteen fields of a DECLARE body, in BODY order (R3, R5, R193). -/
structure DeclareBody where
  id : Nat
  row : Nat
  lFree : Nat
  lBond : Nat
  area : Nat
  modulus : Nat
  pw : Nat
  pp : Nat
  pa : Nat
  plo : Nat
  volCap : Nat
  refusal : Nat
  passes : Nat
  postInterval : Nat
  postVolCap : Nat
  postRefusal : Nat
  cure : Nat
  /-- the count of field 18 -/
  nbrCount : Nat
  /-- the four id places of field 18 -/
  nbrIds : List Nat
  deriving DecidableEq, Repr, Inhabited

/-- One item of an AMEND body (R12, R186): an index with its value, or index 18 with its list. -/
inductive AmendItem where
  | value (index val : Nat)
  | neighbours (count : Nat) (ids : List Nat)
  deriving DecidableEq, Repr, Inhabited

/-- One step of a LOAD_PLAN body (R23, R186), every field as it travels. -/
structure RawStep where
  kind : Nat
  target : Nat
  hold : Nat
  ext : Nat
  deriving DecidableEq, Repr, Inhabited

/-- An optional part of a request (R193): its presence byte and its value bytes. -/
structure RawOption where
  present : Nat
  val : Nat
  deriving DecidableEq, Repr, Inhabited

/-- The commands, in the order of spec/opcode_table.json. -/
inductive Instr where
  -- requests of the catalogue (section 11.4): `tag` is the frame's TAG
  | identify (tag : Nat)
  | reset (tag : Nat)
  | resumeLink (tag : Nat)
  | takeNotice (tag : Nat)
  | getNotices (tag : Nat) (page : Option Nat)
  | setNoticeLevel (tag selector level : Nat)
  | declare (tag : Nat) (body : DeclareBody)
  | amend (tag id : Nat) (items : List AmendItem)
  | void (tag id : Nat)
  | getAnchor (tag id part first : Nat)
  | listAnchors (tag filter : Nat)
  | loadPlan (tag slot : Nat) (steps : List RawStep)
  | getPlan (tag slot : Nat)
  | startTest (tag station anchor slot : Nat)
  | holdTest (tag station : Nat)
  | resumeTest (tag station rebase : Nat)
  | abortTest (tag station : Nat)
  | adjustTest (tag station : Nat) (plo ext : RawOption)
  | getStation (tag station : Nat)
  | setCalibration (tag selector : Nat) (zero : Int) (span signed invert : Nat)
  | getCalibration (tag selector : Nat)
  | getInputs (tag : Nat) (page : Option Nat)
  | getOutputs (tag : Nat) (page : Option Nat)
  | getScan (tag : Nat) (page : Option Nat)
  | setStations (tag s1 s2 w g : Nat)
  | getGuards (tag : Nat) (page : Option Nat)
  | getFaults (tag : Nat) (page : Option Nat)
  | clearFault (tag group code : Nat)
  | clearGroup (tag group : Nat)
  | runSelftest (tag guard : Nat)
  | clearEmergency (tag : Nat)
  | winchRun (tag anchor : Nat)
  | winchStop (tag : Nat)
  | getWinch (tag : Nat) (page : Option Nat)
  | assignPort (tag port anchor : Nat)
  | releasePort (tag port : Nat)
  | groutRequest (tag anchor : Nat)
  | groutCancel (tag anchor : Nat)
  | groutStop (tag : Nat)
  | groutPause (tag : Nat)
  | groutResume (tag : Nat)
  | getGrout (tag : Nat) (page : Option Nat)
  | setPoint (tag point kind linked limit : Nat)
  | baseline (tag point action : Nat)
  | getPoints (tag : Nat) (page : Option Nat)
  | getRows (tag : Nat) (page : Option Nat)
  | closeAnchor (tag anchor : Nat)
  | readArchive (tag number part : Nat)
  | readReadings (tag number first : Nat)
  | markExported (tag block : Nat)
  | eraseOldest (tag : Nat)
  | getArchive (tag : Nat) (page : Option Nat)
  | setLimits (tag : Nat) (items : List (Nat × Nat))
  | getLimits (tag : Nat) (page : Option Nat)
  | lockLimits (tag : Nat)
  | setSettings (tag : Nat) (items : List (Nat × Nat))
  | getSettings (tag : Nat) (page : Option Nat)
  | setTime (tag time : Nat)
  | getTime (tag : Nat) (page : Option Nat)
  | setTag (tag word val : Nat)
  | getTags (tag : Nat) (page : Option Nat)
  -- a good frame whose KIND the catalogue does not list
  | unknownKind (kind tag : Nat) (body : List Byte)
  -- the link
  | byteReceived (b : Byte) (stopError : Bool)
  | receiverGap
  | replySent
  | linkWatchExpiry
  -- resets and lines
  | powerReset (supplyUp backupLost : Bool)
  | pinReset
  | startUpEnd (eraseOk : Bool)
  | emergencyFallingEdge (line : EmLine)
  -- sampling and the timed events of the stations
  | sample (chan : Chan) (code : Nat) (guardFirst : Bool)
  | holdEnd (stn : Stn)
  | creepReading (stn : Stn)
  | rampTimeout (stn : Stn)
  | wholeSecond (stn : Stn)
  | releaseDutyEnd (stn : Stn)
  | seatPulseEnd (stn : Stn)
  | encoderEdge (stn : Stn) (line : EncLine)
  | drumPulse (dirHigh : Bool)
  | flowPulse (period : Nat)
  | noFlowTime
  | noFlow
  | siteMinute
  | scanComplete (codes : List Nat) (wallFirst : Bool)
  -- guard trips
  | jackOverloadTrip (stn : Stn)
  | groutRefusalTrip
  | groutOverpressureTrip
  | winchJamTrip
  | winchSlackTrip
  | neighbourRiseTrip (stn : Stn) (point : Nat)
  | wallTiltTrip (point : Nat)
  | selftestFail (guard : Nat)
  -- ends of timed operations
  | brakeIntervalExpiry
  | arbiterServe
  | valveTravelEnd (port : Nat)
  | pauseExpired
  | appendEnd (ok : Bool)
  | eraseEnd (ok : Bool)
  | emergencyLineRise (line : EmLine)
  | pwmPeriodStart
  | siteClockSecond
  | resetPinRelease
  deriving DecidableEq, Repr, Inhabited

end Sys2Proof
end

