-- ==== Sys2Proof/Machine/State.lean ====
section
/-! DEFINITION. The state of the UJ-340, all of it as plain data, and its value right after reset.
Each field names the rule of spec/ that gives it; INVENTORY.md lists them with their reset values. -/

namespace Sys2Proof.Machine

/-! ## Enumerations -/

/-- R6: the stage of an anchor. -/
inductive Stage where
  | declared | placed | grouting | grouted | stressing | rejected | locked | lockFault | voided | closing
  deriving DecidableEq, Repr, Inhabited

/-- R6: the interrupted field. -/
inductive Interrupted where
  | test | grout | close
  deriving DecidableEq, Repr, Inhabited

/-- R25: the two shapes of a plan. -/
inductive PlanShape where
  | full | relock
  deriving DecidableEq, Repr, Inhabited

/-- R23: the kind of a step. -/
inductive StepKind where
  | datum | load | creep | unload | lockoff | liftoff
  deriving DecidableEq, Repr, Inhabited

/-- R6: the kind of a grout pass. -/
inductive PassKind where
  | primary | post
  deriving DecidableEq, Repr, Inhabited

/-- R7, R144: how a grout pass ended. -/
inductive PassEnd where
  | volumeReached | noFlow | refusal | stopped | fault | pauseExpired | interrupted
  deriving DecidableEq, Repr, Inhabited

/-- R117: how a winch run ended. -/
inductive RunEnd where
  | reached | jammed | slack | stopped | halted
  deriving DecidableEq, Repr, Inhabited

/-- R123: what halted a winch run. -/
inductive HaltCause where
  | trip | emergency | linkLost
  deriving DecidableEq, Repr, Inhabited

/-- R8: the abort cause of a test. -/
inductive AbortCause where
  | host | holdLoss | rampTimeout | strokeEnd | overload | reset
  deriving DecidableEq, Repr, Inhabited

/-- R8: the end kind of a test. -/
inductive EndKind where
  | passed | failed | aborted
  deriving DecidableEq, Repr, Inhabited

/-- R8: the reasons of a judgement. -/
inductive Reason where
  | creepExceeded | elasticNonpositive | lappLow | lappHigh | lappClamped | liftoffLow | liftoffHigh
  deriving DecidableEq, Repr, Inhabited

/-- R8: the kind of a reading. -/
inductive ReadingKind where
  | step | creep
  deriving DecidableEq, Repr, Inhabited

/-- R30: the state of a stressing station. -/
inductive StnState where
  | idle | ramping | holding | seating | releasing | seeking | held | fault | unloading | selftest
  deriving DecidableEq, Repr, Inhabited

/-- R29: the phase within a step. -/
inductive TestPhase where
  | ramp | hold | seat | release | seek
  deriving DecidableEq, Repr, Inhabited

/-- R116: the state of the winch station. -/
inductive WinchState where
  | idle | paying | stopping | selftest
  deriving DecidableEq, Repr, Inhabited

/-- R136: the state of the grout station. -/
inductive GroutState where
  | idle | starting | pumping | paused | ending | selftest
  deriving DecidableEq, Repr, Inhabited

/-- R90: the state of a port valve. -/
inductive ValveState where
  | closed | opening | opened | closing
  deriving DecidableEq, Repr, Inhabited

/-- R76: the mark of a sample. -/
inductive Mark where
  | valid | isOpen | isOver
  deriving DecidableEq, Repr, Inhabited

/-- R87: the entry of a point in the published scan. -/
inductive PointReading where
  | notScanned | valid (v : Int) | isOpen | isOver | unused
  deriving DecidableEq, Repr, Inhabited

/-- R151: the kind of a monitor point. -/
inductive PointKind where
  | unused | loadCell | tilt
  deriving DecidableEq, Repr, Inhabited

/-- R163: the state of an archive block. -/
inductive BlockState where
  | empty | filling | full | exported | erasing
  deriving DecidableEq, Repr, Inhabited

/-- R175: the kinds of notice, in the order of their codes 1 to 16. -/
inductive NoticeKind where
  | stepDone | testEnded | testHeld | runEnded | passStarted | passEnded | postgroutDue | cureComplete
  | faultRaised | emergency | linkLost | selftestDone | archiveDone | archiveFull | clockLost | resetDone
  deriving DecidableEq, Repr, Inhabited

/-- R175: where a notice comes from. -/
inductive Origin where
  | s1 | s2 | w | g | wall | system | archive
  deriving DecidableEq, Repr, Inhabited

/-- R178: the level of a notice kind. -/
inductive Level where
  | off | low | mid | high
  deriving DecidableEq, Repr, Inhabited

/-- R199: the cause of a reset. -/
inductive ResetCause where
  | power | pin | command
  deriving DecidableEq, Repr, Inhabited

/-- R199, R200: whether the part runs, starts up, or is held in reset. -/
inductive Phase where
  | running | startUp | inReset
  deriving DecidableEq, Repr, Inhabited

/-- R187: the response codes 0 to 28. -/
inductive Resp where
  | ok | accepted | unknownKind | badLength | outOfRange | noSuchAnchor | noSuchRecord | duplicate | full
  | wrongStage | busy | disabled | limitsLocked | clockUnset | timeBack | notCured | noPort | neighbourBusy
  | rowCeiling | selftestDue | faulted | emergency | linkLost | planInvalid | attemptsExhausted
  | conditionPresent | flagsRemain | archiveFull | notExported
  deriving DecidableEq, Repr, Inhabited

/-- Section 5.2: the twenty detailed flags; the jack groups carry their own copies. -/
inductive Flag where
  | overload (stn : Stn) | loadOpen (stn : Stn) | loadOver (stn : Stn) | encoderRange (stn : Stn)
  | tensionOpen | tensionOver
  | overpressure | pressureOpen | pressureOver | valveLeak
  | tiltExceeded | monitorSensor
  | linkLost | selftestFailed | archiveWrite | clockLost
  deriving DecidableEq, Repr, Inhabited

/-! ## The Anchor Register (spec 01) -/

/-- R3: fields 14 to 16, present only when field 13 is above 0. -/
structure PostDecl where
  interval : Nat
  volCap : Nat
  refusal : Nat
  deriving DecidableEq, Repr, Inhabited

/-- R3: the declaration of an anchor. -/
structure Decl where
  id : Nat
  row : Nat
  lFree : Nat
  lBond : Nat
  area : Nat
  modulus : Nat
  pw : Nat
  pp : Nat
  pa : Nat
  plo : Nat
  volCap : Nat
  refusal : Nat
  passes : Nat
  post : Option PostDecl
  cure : Nat
  neighbours : List Nat
  deriving DecidableEq, Repr, Inhabited

/-- R6: test in progress. -/
structure TestMark where
  stn : Stn
  slot : Nat
  shape : PlanShape
  start : Nat
  deriving DecidableEq, Repr, Inhabited

/-- R6: pass in progress. -/
structure PassMark where
  kind : PassKind
  port : Nat
  start : Nat
  deriving DecidableEq, Repr, Inhabited

/-- R7: the winch result. -/
structure WinchResult where
  reason : RunEnd
  paid : Int
  peak : Nat
  deriving DecidableEq, Repr, Inhabited

/-- R7: one entry of the grout pass list. -/
structure PassEntry where
  kind : PassKind
  port : Nat
  start : Nat
  endTime : Option Nat
  volume : Option Nat
  peakPressure : Option Nat
  peakFlow : Option Nat
  reason : PassEnd
  deriving DecidableEq, Repr, Inhabited

/-- R8: a reading. -/
structure Reading where
  step : Nat
  kind : ReadingKind
  due : Nat
  load : Nat
  disp : Int
  time : Nat
  deriving DecidableEq, Repr, Inhabited

/-- R8, R64: L_app with its bounds, in cm. -/
structure LAppFigures where
  lApp : Nat
  lower : Nat
  upper : Nat
  deriving DecidableEq, Repr, Inhabited

/-- R8: the test result. -/
structure TestResult where
  stn : Stn
  slot : Nat
  shape : PlanShape
  start : Nat
  endTime : Option Nat
  endKind : EndKind
  abort : Option AbortCause
  seatDone : Bool
  readings : List Reading
  ksPrimary : Option Int
  ksExtended : Option Int
  extendedUsed : Bool
  figures : Option LAppFigures
  lockTarget : Option Nat
  liftLoad : Option Nat
  verdict : Option EndKind
  reasons : List Reason
  deriving DecidableEq, Repr, Inhabited

/-- R3, R6, R7, R8: one entry of the Anchor Register. -/
structure Entry where
  decl : Decl
  stage : Stage
  prior : Option Stage
  test : Option TestMark
  pass : Option PassMark
  attempts : Nat
  counted : Bool
  primaryEnd : Option Nat
  postDone : Nat
  postDue : Bool
  interrupted : Option Interrupted
  winch : Option WinchResult
  passes : List PassEntry
  result : Option TestResult
  deriving DecidableEq, Repr, Inhabited

/-! ## Plans and stressing stations (spec 02, 03) -/

/-- R23: one step of a plan, its fields as stored. -/
structure PlanStep where
  kind : StepKind
  target : Nat
  hold : Nat
  ext : Nat
  deriving DecidableEq, Repr, Inhabited

/-- R23, R25: a plan in a slot. -/
structure Plan where
  shape : PlanShape
  steps : List PlanStep
  deriving DecidableEq, Repr, Inhabited

/-- R94, R97: a guard: its consecutive count, and its threshold as last evaluated. -/
structure Guard where
  count : Nat
  last : Option Nat
  deriving DecidableEq, Repr, Inhabited

/-- R78: a channel with a running average: the window, oldest first, and the mark of the latest sample. -/
structure Channel where
  win : List Int
  mark : Option Mark
  deriving DecidableEq, Repr, Inhabited

/-- R78, R80, R82: a ram encoder: its count, its displacement window with the mark of the latest sample, and the levels of
its two lines. -/
structure Encoder where
  count : Int
  win : List Int
  mark : Option Mark
  a : Bool
  b : Bool
  deriving DecidableEq, Repr, Inhabited

/-- R88: a pump output: the commanded and the applied demand, in per mille. -/
structure PumpOut where
  cmd : Nat
  applied : Nat
  deriving DecidableEq, Repr, Inhabited

/-- R89: a running seat pulse: its time in s and the samples it has run. -/
structure SeatPulse where
  total : Nat
  samples : Nat
  deriving DecidableEq, Repr, Inhabited

/-- R109: a self-test context; the guard is the one of the station that holds it. -/
structure SelfTest where
  count : Nat
  tripSeen : Option Nat
  injected : Bool
  deriving DecidableEq, Repr, Inhabited

/-- R111: a self-test record: PASS or FAIL, the sample count at the trip, the time of the end. -/
structure SelfRecord where
  passed : Bool
  tripAt : Option Nat
  time : Option Nat
  deriving DecidableEq, Repr, Inhabited

/-- R49: the hold cause set of a test; R141 uses the first four for a pass. -/
structure CauseSet where
  host : Bool
  trip : Bool
  emergency : Bool
  linkLost : Bool
  neighbour : Bool
  deriving DecidableEq, Repr, Inhabited

/-- R29: the settings a test captures at its acceptance. -/
structure Captured where
  loadTol : Nat
  rateLimit : Nat
  topUpMax : Nat
  stroke : Nat
  strokeMargin : Nat
  creepLimit : Nat
  loPct : Nat
  hiPct : Nat
  liftThreshold : Nat
  liftTol : Nat
  overdrive : Nat
  seatTime : Nat
  rampDemand : Nat
  releaseDemand : Nat
  nbrLimit : Nat
  deriving DecidableEq, Repr, Inhabited

/-- R31 to R34, R44: what moves the load. `ramp` is a ramp whose first sample has not fixed its direction. -/
inductive MotionKind where
  | ramp | rampUp | rampDown | topUp | correction | release | seek
  deriving DecidableEq, Repr, Inhabited

/-- R31, R33, R35: the movement in progress: the load at its first sample, the samples since it, the samples since the
last whole second, and the load at that second. -/
structure Motion where
  kind : MotionKind
  startLoad : Nat
  samples : Nat
  second : Nat
  secLoad : Nat
  deriving DecidableEq, Repr, Inhabited

/-- R45: the end decision with its reason set. -/
inductive Decision where
  | passed
  | failed (reasons : List Reason)
  | aborted (cause : AbortCause)
  deriving DecidableEq, Repr, Inhabited

/-- R61: the creep outcome; `peak` is the place of the peak reading in the readings list, counted from 0. -/
structure CreepOutcome where
  ksPrimary : Option Int
  ksExtended : Option Int
  peak : Option Nat
  failed : Bool
  deriving DecidableEq, Repr, Inhabited

/-- R29: the test context. -/
structure TestCtx where
  anchor : Nat
  row : Nat
  pp : Nat
  pa : Nat
  plo : Nat
  steps : List PlanStep
  shape : PlanShape
  slot : Nat
  cap : Captured
  /-- step index, from 1 -/
  step : Nat
  begun : Bool
  phase : TestPhase
  target : Nat
  motion : Option Motion
  /-- samples since the hold's reference sample -/
  holdSamples : Nat
  topUps : Nat
  readings : List Reading
  /-- CREEP readings taken in the present hold -/
  creepTaken : Nat
  creep : CreepOutcome
  extInForce : Bool
  figures : Option LAppFigures
  lockTarget : Option Nat
  liftLoad : Option Nat
  stagedPlo : Option Nat
  stagedExt : Option Bool
  seatDone : Bool
  causes : CauseSet
  decision : Option Decision
  /-- R156: the test baseline of each monitor point -/
  baselines : List (Option Int)
  deriving DecidableEq, Repr, Inhabited

/-- R29, R30: a stressing station with its inputs, outputs and guards. -/
structure Station where
  state : StnState
  ctx : Option TestCtx
  self : Option SelfTest
  /-- R111: the self-test standing is PASSED -/
  passed : Bool
  ovl : Guard
  nbr : List Guard
  pump : PumpOut
  relCmd : Bool
  seat : Option SeatPulse
  load : Channel
  enc : Encoder
  deriving DecidableEq, Repr, Inhabited

/-! ## The winch (spec 06) -/

/-- R117: the run context; the brake timer counts samples of TENSION. -/
structure Run where
  anchor : Nat
  target : Nat
  reason : Option RunEnd
  halt : Option HaltCause
  peak : Nat
  brakeSamples : Nat
  deriving DecidableEq, Repr, Inhabited

/-- R116, R117, R83: the winch station. -/
structure Winch where
  state : WinchState
  run : Option Run
  self : Option SelfTest
  jam : Guard
  slack : Guard
  tension : Channel
  drum : Int
  paid : Int
  deriving DecidableEq, Repr, Inhabited

/-! ## The grout manifold (spec 07) -/

/-- R131: one request of the grout queue. -/
structure GroutReq where
  anchor : Nat
  kind : PassKind
  joined : Nat
  deriving DecidableEq, Repr, Inhabited

/-- R136: the pass context; its timers count samples of PRESSURE. `noFlow` holds the no-flow timer while it runs,
with the limit in s it read when it started. -/
structure Pass where
  anchor : Nat
  kind : PassKind
  port : Nat
  start : Nat
  cap : Nat
  refusal : Nat
  volume : Nat
  peakPressure : Nat
  peakFlow : Nat
  causes : CauseSet
  pauseSamples : Nat
  pauseLimit : Nat
  noFlow : Option (Nat × Nat)
  reason : Option PassEnd
  endTime : Option Nat
  deriving DecidableEq, Repr, Inhabited

/-- R90: a port valve with its command (true: open). -/
structure Valve where
  state : ValveState
  cmd : Bool
  deriving DecidableEq, Repr, Inhabited

/-- R84 to R86: flow and stray pulses. -/
structure Flow where
  published : Nat
  isOpen : Bool
  timed : Bool
  stray : Nat
  lowered : Bool
  deriving DecidableEq, Repr, Inhabited

/-- R128, R131, R136, R147, R148: the grout station. -/
structure Grout where
  state : GroutState
  ports : List (Option Nat)
  queue : List GroutReq
  pass : Option Pass
  cure : List Nat
  waiting : Nat
  lastRun : Option Nat
  refusal : Guard
  overp : Guard
  self : Option SelfTest
  pressure : Channel
  pump : PumpOut
  valves : List Valve
  flow : Flow
  deriving DecidableEq, Repr, Inhabited

/-! ## Front end, Guard Unit, Wall Watch, rows (spec 04, 05, 08) -/

/-- R74: a calibration record of an analogue channel. -/
structure Cal where
  zero : Int
  span : Nat
  signed : Bool
  deriving DecidableEq, Repr, Inhabited

/-- R74, R87: calibrations and the published scan. -/
structure FrontEnd where
  /-- selectors 1 to 20 -/
  cals : List Cal
  /-- selectors 21 and 22 -/
  invert1 : Bool
  invert2 : Bool
  scanCount : Nat
  scan : List PointReading
  deriving DecidableEq, Repr, Inhabited

/-- R113: the emergency state with its sources and its set time. -/
structure Emergency where
  set : Bool
  estop : Bool
  wallTrip : Bool
  time : Option Nat
  deriving DecidableEq, Repr, Inhabited

/-- R98, R100, R106, R111, R113: the Guard Unit. Bit n of `det` is the flag of bit n of the combined mask (R194); bit
g - 1 of `comb` is group g. -/
structure Faults where
  det : BitVec 20
  comb : BitVec 6
  trip : Bool
  emergency : Emergency
  records : List (Option SelfRecord)
  deriving DecidableEq, Repr, Inhabited

/-- R151: an entry of the monitor point table. `fresh`: its baseline was captured after the latest completed scan, so its
tilt guard is not active yet (R153). -/
structure Point where
  kind : PointKind
  linked : Option Nat
  baseline : Option Int
  limit : Nat
  fresh : Bool
  deriving DecidableEq, Repr, Inhabited

/-- R151, R155: the Wall Watch. -/
structure Wall where
  points : List Point
  tilt : List Guard
  deriving DecidableEq, Repr, Inhabited

/-- R159: the two sums of a row; its ceiling is a site limit. -/
structure Row where
  locked : Nat
  reserved : Nat
  deriving DecidableEq, Repr, Inhabited

/-! ## The Archive (spec 09) -/

/-- R165: a test record. -/
structure Record where
  number : Nat
  slot : Nat
  closeTime : Nat
  closingStage : Stage
  interruptedAtClose : Option Interrupted
  decl : Decl
  attempts : Nat
  counted : Bool
  primaryEnd : Option Nat
  postDone : Nat
  postDue : Bool
  winch : Option WinchResult
  passes : List PassEntry
  result : Option TestResult
  deriving DecidableEq, Repr, Inhabited

/-- R163: a slot that is not ERASED, with the record it holds, or the number it consumed. -/
inductive Slot where
  | writing (r : Record)
  | valid (r : Record)
  | torn (number : Nat)
  deriving DecidableEq, Repr, Inhabited

/-- R163, R172: the activity of the Archive. -/
inductive Activity where
  | idle
  | appending (anchor number slot : Nat)
  | erasing (block : Nat)
  deriving DecidableEq, Repr, Inhabited

/-- R163, R164: the Archive. `slots` lists the slots that are not ERASED, slot numbers strictly rising. -/
structure Archive where
  slots : List (Nat × Slot)
  blocks : List BlockState
  nextNumber : Nat
  nextSlot : Nat
  activity : Activity
  deriving DecidableEq, Repr, Inhabited

/-! ## Notices and the link (spec 10, 11) -/

/-- R175: a pending notice. -/
structure Notice where
  kind : NoticeKind
  origin : Origin
  anchor : Option Nat
  detail : Nat
  time : Option Nat
  again : Nat
  acked : Bool
  deriving DecidableEq, Repr, Inhabited

/-- R175, R176, R178: the Notice Unit. `levels` stands in code order. -/
structure NoticeUnit where
  entries : List Notice
  levels : List Level
  floor : Level
  overflow : Bool
  deriving DecidableEq, Repr, Inhabited

/-- Section 11.1: a good frame without SYNC, LEN and CRC. -/
structure Frame where
  kind : Nat
  tag : Nat
  body : List Byte
  deriving DecidableEq, Repr, Inhabited

/-- R183: the receiver, with what it has kept of the partial frame. -/
inductive Rx where
  | waiting
  | length
  | header (len : Byte) (kind : Option Byte)
  | body (len kind tag : Byte) (data : List Byte)
  | check (len kind tag : Byte) (data : List Byte) (low : Option Byte)
  deriving DecidableEq, Repr, Inhabited

/-- R193: one field of a reply BODY, its width and sign with its value. -/
inductive WField where
  | u8 (n : Nat)
  | u16 (n : Nat)
  | u32 (n : Nat)
  | i16 (z : Int)
  | i32 (z : Int)
  deriving DecidableEq, Repr, Inhabited

/-- R187: the status block. -/
structure Status where
  code : Resp
  comb : BitVec 6
  emergency : Bool
  linkLost : Bool
  limitsLocked : Bool
  trip : Bool
  attn : Bool
  overflow : Bool
  overrun : Bool
  clockValid : Bool
  s1 : Nat
  s2 : Nat
  w : Nat
  g : Nat
  pendingCount : Nat
  detail : Nat
  deriving DecidableEq, Repr, Inhabited

/-- R186: a reply. -/
structure Reply where
  kind : Nat
  tag : Nat
  status : Status
  fields : List WField
  deriving DecidableEq, Repr, Inhabited

/-- R189: the link watch, with the window in s it runs with. -/
inductive Watch where
  | stopped
  | running (window : Nat)
  deriving DecidableEq, Repr, Inhabited

/-- R183, R185, R189, R199: the Link Port. -/
structure Link where
  rx : Rx
  queue : List Frame
  reply : Option Reply
  overrun : Bool
  lost : Bool
  watch : Watch
  resetAfterReply : Bool
  deriving DecidableEq, Repr, Inhabited

/-! ## Site store and clock (spec 12) -/

/-- R194: the site limits. -/
structure Limits where
  rating1 : Nat
  rating2 : Nat
  rateLimit : Nat
  maxPressure : Nat
  /-- rows 1 to 8 -/
  ceilings : List Nat
  minCure : Nat
  creepLimit : Nat
  loPct : Nat
  hiPct : Nat
  liftTol : Nat
  combMask : BitVec 20
  tripMask : BitVec 6
  deriving DecidableEq, Repr, Inhabited

/-- R196: the site settings, in index order. -/
structure Settings where
  loadTol : Nat
  rampDemand : Nat
  releaseDemand : Nat
  topUpMax : Nat
  stroke : Nat
  strokeMargin : Nat
  liftThreshold : Nat
  overdrive : Nat
  seatTime : Nat
  pauseLimit : Nat
  noFlowTime : Nat
  leakLimit : Nat
  nbrLimit : Nat
  jamTension : Nat
  slackTension : Nat
  headAllowance : Nat
  drumMm : Nat
  quantum : Nat
  nOverload : Nat
  nRefusal : Nat
  nOverpressure : Nat
  nJam : Nat
  nSlack : Nat
  nNeighbour : Nat
  nTilt : Nat
  filterEnc1 : Nat
  filterEnc2 : Nat
  filterDrum : Nat
  filterFlow : Nat
  linkWindow : Nat
  deriving DecidableEq, Repr, Inhabited

/-- R92: the station enables. -/
structure Enables where
  s1 : Bool
  s2 : Bool
  w : Bool
  g : Bool
  deriving DecidableEq, Repr, Inhabited

/-- R92, R194 to R198: limits, settings, enables, clock and tags. -/
structure Site where
  limits : Limits
  locked : Bool
  settings : Settings
  enables : Enables
  clock : Nat
  clockValid : Bool
  tags : List Nat
  deriving DecidableEq, Repr, Inhabited

/-- R199: the reset record, the causes gathered, and what holds the part in reset. -/
structure Resets where
  recorded : ResetCause
  power : Bool
  pin : Bool
  command : Bool
  pinLow : Bool
  supplyLow : Bool
  backupLost : Bool
  deriving DecidableEq, Repr, Inhabited

/-! ## The whole state -/

/-- The UJ-340 with the commands that wait. `draws` is the model's own: it counts the replies formed, so that each reply
that shows a level no command gives draws a free value of its own (log 31). -/
structure State where
  phase : Phase
  resets : Resets
  estopHigh : Bool
  wallTripHigh : Bool
  reg : List Entry
  plans : List (Option Plan)
  s1 : Station
  s2 : Station
  winch : Winch
  grout : Grout
  fe : FrontEnd
  faults : Faults
  wall : Wall
  rows : List Row
  archive : Archive
  notices : NoticeUnit
  link : Link
  site : Site
  draws : Nat
  pending : List Instr
  deriving DecidableEq, Repr, Inhabited

/-- The reasons a command could stop the part. It stops for none: every command answers a next state (a refused
request is answered with its response code, R186). No constructor, so no claim can rest on one: safe. -/
inductive Fault where
  deriving DecidableEq, Repr

/-- Why a command has no meaning. -/
inductive Refusal where
  /-- raised by no arm of `exec`: every row of the table has its meaning; safe -/
  | notModelled (mnemonic : String)
  deriving DecidableEq, Repr

/-! ## Reset values -/

/-- A guard that has counted nothing and has not been evaluated (R94, R97). -/
def Guard.rest : Guard := { count := 0, last := none }

/-- A channel whose window is empty (R79). -/
def Channel.empty : Channel := { win := [], mark := none }

/-- An encoder at 0; the line levels LOW are the model's choice (log 5). -/
def Encoder.rest : Encoder := { count := 0, win := [], mark := none, a := false, b := false }

/-- A pump commanded and applied at 0 (R88). -/
def PumpOut.off : PumpOut := { cmd := 0, applied := 0 }

/-- The empty cause set. -/
def CauseSet.none : CauseSet :=
  { host := false, trip := false, emergency := false, linkLost := false, neighbour := false }

/-- R30, R111: a stressing station after a POWER or PIN reset. -/
def Station.rest : Station where
  state := .idle
  ctx := none
  self := none
  passed := false
  ovl := .rest
  nbr := List.replicate 16 .rest
  pump := .off
  relCmd := false
  seat := none
  load := .empty
  enc := .rest

/-- R116: the winch after a reset. R83 gives the drum count 0 and the published length nothing until the first sample: it is
0 too (DESIGN CHOICE, log 37). -/
def Winch.rest : Winch where
  state := .idle
  run := none
  self := none
  jam := .rest
  slack := .rest
  tension := .empty
  drum := 0
  paid := 0

/-- R84 to R86: flow after a reset. -/
def Flow.rest : Flow := { published := 0, isOpen := false, timed := false, stray := 0, lowered := false }

/-- R90: a valve after a reset. -/
def Valve.rest : Valve := { state := .closed, cmd := false }

/-- R128, R131, R136: the manifold of a new part. -/
def Grout.rest : Grout where
  state := .idle
  ports := List.replicate 6 none
  queue := []
  pass := none
  cure := []
  waiting := 0
  lastRun := none
  refusal := .rest
  overp := .rest
  self := none
  pressure := .empty
  pump := .off
  valves := List.replicate 6 .rest
  flow := .rest

/-- R74: the factory calibration of a selector's span. -/
def Cal.factory (span : Nat) : Cal := { zero := 0, span := span, signed := false }

/-- R74, R87: the front end of a new part. -/
def FrontEnd.rest : FrontEnd where
  cals := [.factory 30000, .factory 30000, .factory 2000, .factory 10000] ++ List.replicate 16 (.factory 30000)
  invert1 := false
  invert2 := false
  scanCount := 0
  scan := List.replicate 16 .notScanned

/-- R113: the emergency state clear. -/
def Emergency.clear : Emergency := { set := false, estop := false, wallTrip := false, time := none }

/-- R151: an UNUSED point. -/
def Point.unused : Point := { kind := .unused, linked := none, baseline := none, limit := 0, fresh := false }

/-- R151: the Wall Watch of a new part. -/
def Wall.rest : Wall := { points := List.replicate 16 .unused, tilt := List.replicate 16 .rest }

/-- R163, R164: the Archive of a new part. -/
def Archive.rest : Archive :=
  { slots := [], blocks := List.replicate 8 .empty, nextNumber := 1, nextSlot := 1, activity := .idle }

/-- R175: the default levels, in code order. -/
def defaultLevels : List Level :=
  [.low, .mid, .mid, .mid, .low, .mid, .low, .low, .high, .high, .high, .low, .low, .mid, .high, .mid]

/-- R183, R185, R189: the Link Port after start-up with the window OFF. -/
def Link.rest : Link :=
  { rx := .waiting, queue := [], reply := none, overrun := false, lost := false, watch := .stopped,
    resetAfterReply := false }

/-- R194: the default limits. -/
def Limits.factory : Limits where
  rating1 := 15000
  rating2 := 15000
  rateLimit := 50
  maxPressure := 4000
  ceilings := List.replicate 8 0
  minCure := 72
  creepLimit := 200
  loPct := 80
  hiPct := 50
  liftTol := 50
  combMask := 0#20
  tripMask := 0x20#6

/-- R196: the factory settings. -/
def Settings.factory : Settings where
  loadTol := 20
  rampDemand := 400
  releaseDemand := 400
  topUpMax := 5
  stroke := 25000
  strokeMargin := 500
  liftThreshold := 100
  overdrive := 30
  seatTime := 5
  pauseLimit := 900
  noFlowTime := 30
  leakLimit := 10
  nbrLimit := 100
  jamTension := 1500
  slackTension := 50
  headAllowance := 100
  drumMm := 25
  quantum := 50
  nOverload := 3
  nRefusal := 5
  nOverpressure := 3
  nJam := 5
  nSlack := 25
  nNeighbour := 3
  nTilt := 3
  filterEnc1 := 0
  filterEnc2 := 0
  filterDrum := 0
  filterFlow := 0
  linkWindow := 0

/-- R92, R194, R196 to R198: the site store of a new part whose clock backup was found lost (log 4). -/
def Site.factory : Site where
  limits := .factory
  locked := false
  settings := .factory
  enables := { s1 := true, s2 := true, w := true, g := true }
  clock := 0
  clockValid := false
  tags := [0, 0, 0, 0]

/-- The part as it left the factory, right after its first POWER reset: the clock backup was found lost, and start-up has
ended (log 4). R182: RESET_DONE and CLOCK_LOST are pending, in that order; R197, R100: CLOCK_LOST is set in SYSTEM and
with it the combined flag; R106: SYSTEM is masked in the trip mask, so TRIP is deasserted. -/
def State.reset : State where
  phase := .running
  resets :=
    { recorded := .power, power := false, pin := false, command := false, pinLow := false, supplyLow := false,
      backupLost := false }
  estopHigh := true
  wallTripHigh := true
  reg := []
  plans := [none, none, none, none]
  s1 := .rest
  s2 := .rest
  winch := .rest
  grout := .rest
  fe := .rest
  faults :=
    { det := 0x80000#20, comb := 0x20#6, trip := false, emergency := .clear, records := [none, none, none, none] }
  wall := .rest
  rows := List.replicate 8 { locked := 0, reserved := 0 }
  archive := .rest
  notices :=
    { entries :=
        [{ kind := .resetDone, origin := .system, anchor := none, detail := 1, time := none, again := 0, acked := false },
         { kind := .clockLost, origin := .system, anchor := none, detail := 0, time := none, again := 0, acked := false }],
      levels := defaultLevels, floor := .low, overflow := false }
  link := .rest
  site := .factory
  draws := 0
  pending := []

end Sys2Proof.Machine
end

