-- ==== Sys2Proof/Machine/Arith.lean ====
section
/-! DEFINITION. The integer arithmetic of the manual: the rounding words of its conventions (spec 00, Arithmetic), the
conversion of loop codes (R76, R77), the running average (R78), and the figures of Acceptance Arithmetic (spec 03). -/

namespace Sys2Proof.Machine

/-- Rounded half up, of a quotient of natural numbers. -/
def roundHalfUp (num den : Nat) : Nat := (2 * num + den) / (2 * den)

/-- Round: nearest integer, halves away from zero. -/
def roundAway (num : Int) (den : Nat) : Int :=
  if 0 ≤ num then (roundHalfUp num.toNat den : Int) else -(roundHalfUp (-num).toNat den : Int)

/-- Ceiling of a quotient. -/
def ceilDiv (num den : Nat) : Nat := (num + den - 1) / den

/-- Clamped to [lo, hi]. -/
def clamp (lo hi z : Int) : Int := if z < lo then lo else if hi < z then hi else z

/-! ## Samples -/

/-- R76: the mark of a code. -/
def markOf (code : Nat) : Mark :=
  if code < Config.openBelow then .isOpen else if Config.overAbove < code then .isOver else .valid

/-- R77: the value of a VALID code under a calibration. -/
def convert (cal : Cal) (code : Nat) : Int :=
  let c : Int := code - cal.zero
  if cal.signed then clamp (-cal.span) cal.span (roundAway ((c - 32768) * cal.span) 21845)
  else clamp 0 cal.span (roundAway ((c - 10923) * cal.span) 43690)

/-- R78: the new value joins the window, and the oldest leaves a full one. -/
def pushWindow (win : List Int) (v : Int) : List Int :=
  if Config.windowSize ≤ win.length then win.tail ++ [v] else win ++ [v]

/-- R78: the published average; 0 while the window is empty. -/
def average (win : List Int) : Int := if win = [] then 0 else roundAway win.sum win.length

/-- R78: one sample of a channel. -/
def Channel.sample (c : Channel) (cal : Cal) (code : Nat) : Channel :=
  match markOf code with
  | .valid => { win := pushWindow c.win (convert cal code), mark := some .valid }
  | m => { win := c.win, mark := some m }

/-- The published average of an unsigned channel, as the natural number it is. -/
def Channel.level (c : Channel) : Nat := (average c.win).toNat

/-- R83: the paid length in cm of a drum count. -/
def paidLength (drum : Int) (mm : Nat) : Int := roundAway (drum * mm) 100

/-- R86: the flow of a period in us, in 0.1 L/min. A period is at least 1 us (log 25). -/
def flowOf (quantum period : Nat) : Nat := min 2000 (roundHalfUp (quantum * 600000) (max 1 period))

/-! ## Acceptance arithmetic -/

/-- R4, R66: the lock-off target. -/
def lockTargetOf (plo overdrive : Nat) : Nat := roundHalfUp (plo * (1000 + overdrive)) 1000

/-- R4, R67: the lift-off tolerance. -/
def liftTolOf (plo tol : Nat) : Nat := roundHalfUp (plo * tol) 1000

/-- R4, R67: the lift-off cap. -/
def liftCapOf (plo tol loadTol : Nat) : Nat := plo + liftTolOf plo tol + loadTol

/-- R39: the target of a LOAD step. -/
def loadTargetOf (pp permille : Nat) : Nat := roundHalfUp (pp * permille) 1000

/-- R33: the seek rate. -/
def seekRate (rateLimit : Nat) : Nat := max 1 (rateLimit / 4)

/-- R35: the allowed time of a ramp, in s. -/
def allowedTime (target start rate : Nat) : Nat :=
  ceilDiv ((target - start) + (start - target)) rate * 3 + 60

/-- R63: the apparent free length in cm with the reasons of its formation. -/
def lAppOf (area modulus pp pa : Nat) (ds : Int) : Nat × List Reason :=
  if ds ≤ 0 then (0, [.elasticNonpositive])
  else
    let q := roundHalfUp (area * modulus * ds.toNat) ((pp - pa) * 100000)
    if 65535 < q then (65535, [.lappClamped]) else (q, [])

/-- R64: the lower bound of L_app, in cm. -/
def lAppLower (lFree loPct : Nat) : Nat := ceilDiv (lFree * loPct) 100

/-- R64: the upper bound of L_app, in cm. -/
def lAppUpper (lFree lBond hiPct : Nat) : Nat := lFree + lBond * hiPct / 100

/-- R64: the reasons of a comparison with the bounds. -/
def boundReasons (f : LAppFigures) : List Reason :=
  if f.lApp < f.lower then [.lappLow] else if f.upper < f.lApp then [.lappHigh] else []

/-- R63, R64: the figures and reasons of an UNLOAD judgement, without creep. -/
def unloadFigures (d : Decl) (pp pa loPct hiPct : Nat) (ds : Int) : LAppFigures × List Reason :=
  let a := lAppOf d.area d.modulus pp pa ds
  let f : LAppFigures := { lApp := a.1, lower := lAppLower d.lFree loPct, upper := lAppUpper d.lFree d.lBond hiPct }
  (f, a.2 ++ boundReasons f)

/-- R68: the reasons of a lift-off judgement. -/
def liftReasons (plo tol : Nat) (liftLoad : Option Nat) : List Reason :=
  match liftLoad with
  | none => [.liftoffHigh]
  | some l => if l + tol < plo then [.liftoffLow] else if plo + tol < l then [.liftoffHigh] else []

/-! ## CRC (R184) -/

/-- One bit of the CRC: the register shifts left, and takes the polynomial when the bit that leaves differs from the
data bit. -/
def crcBit (reg : BitVec 16) (bit : Bool) : BitVec 16 :=
  if reg.msb != bit then (reg <<< 1) ^^^ 0x1021#16 else reg <<< 1

/-- One byte, its most significant bit first. -/
def crcByte (reg : BitVec 16) (b : Byte) : BitVec 16 :=
  [7, 6, 5, 4, 3, 2, 1, 0].foldl (fun r i => crcBit r (b.getLsbD i)) reg

/-- R184: the CRC of a run of bytes. -/
def crc (bytes : List Byte) : BitVec 16 := bytes.foldl crcByte 0xFFFF#16

/-- The low byte of a CRC, sent first. -/
def crcLow (c : BitVec 16) : Byte := c.setWidth 8

/-- The high byte of a CRC. -/
def crcHigh (c : BitVec 16) : Byte := (c >>> 8).setWidth 8

end Sys2Proof.Machine
end

