-- ==== Sys2Proof/Machine/Ops.lean ====
section
/-! DEFINITION. The named operations that read and change the state: codes, accessors, the Register, the notice set, the
drive outputs and the sparse slots of the Archive. -/

namespace Sys2Proof

/-- The number of a stressing station. -/
def Stn.code : Stn → Nat
  | .s1 => 1 | .s2 => 2

/-- R27: the stressing station of field 1. -/
def Stn.ofCode : Nat → Option Stn
  | 1 => some .s1 | 2 => some .s2 | _ => none

/-- The other stressing station. -/
def Stn.other : Stn → Stn
  | .s1 => .s2 | .s2 => .s1

/-- The notice origin of a stressing station. -/
def Stn.origin : Stn → Machine.Origin
  | .s1 => .s1 | .s2 => .s2

/-- R113: the code of an emergency line. -/
def EmLine.code : EmLine → Nat
  | .estop => 1 | .wallTrip => 2

namespace Machine

/-! ## Codes -/

/-- R187: the number of a response code. -/
def Resp.code : Resp → Nat
  | .ok => 0 | .accepted => 1 | .unknownKind => 2 | .badLength => 3 | .outOfRange => 4 | .noSuchAnchor => 5
  | .noSuchRecord => 6 | .duplicate => 7 | .full => 8 | .wrongStage => 9 | .busy => 10 | .disabled => 11
  | .limitsLocked => 12 | .clockUnset => 13 | .timeBack => 14 | .notCured => 15 | .noPort => 16
  | .neighbourBusy => 17 | .rowCeiling => 18 | .selftestDue => 19 | .faulted => 20 | .emergency => 21
  | .linkLost => 22 | .planInvalid => 23 | .attemptsExhausted => 24 | .conditionPresent => 25 | .flagsRemain => 26
  | .archiveFull => 27 | .notExported => 28

/-- R193, R6: the code of a stage, from 1. -/
def Stage.code : Stage → Nat
  | .declared => 1 | .placed => 2 | .grouting => 3 | .grouted => 4 | .stressing => 5 | .rejected => 6
  | .locked => 7 | .lockFault => 8 | .voided => 9 | .closing => 10

/-- R175: the code of a notice kind. -/
def NoticeKind.code : NoticeKind → Nat
  | .stepDone => 1 | .testEnded => 2 | .testHeld => 3 | .runEnded => 4 | .passStarted => 5 | .passEnded => 6
  | .postgroutDue => 7 | .cureComplete => 8 | .faultRaised => 9 | .emergency => 10 | .linkLost => 11
  | .selftestDone => 12 | .archiveDone => 13 | .archiveFull => 14 | .clockLost => 15 | .resetDone => 16

/-- R175: whether a kind is of class CONDITION. -/
def NoticeKind.isCondition : NoticeKind → Bool
  | .postgroutDue | .emergency | .archiveFull | .clockLost => true
  | _ => false

/-- R175: the code of an origin, from 1 in the order of R175. -/
def Origin.code : Origin → Nat
  | .s1 => 1 | .s2 => 2 | .w => 3 | .g => 4 | .wall => 5 | .system => 6 | .archive => 7

/-- R178: levels compare by this number, OFF 0 to HIGH 3. -/
def Level.rank : Level → Nat
  | .off => 0 | .low => 1 | .mid => 2 | .high => 3

/-- R178: the level of a code. -/
def Level.ofCode : Nat → Option Level
  | 0 => some .off | 1 => some .low | 2 => some .mid | 3 => some .high | _ => none

/-- R199: the code of a reset cause. -/
def ResetCause.code : ResetCause → Nat
  | .power => 1 | .pin => 2 | .command => 3

/-- R125: the code of a run end. -/
def RunEnd.code : RunEnd → Nat
  | .reached => 1 | .jammed => 2 | .slack => 3 | .stopped => 4 | .halted => 5

/-- R125: the code of a halt cause. -/
def HaltCause.code : HaltCause → Nat
  | .trip => 1 | .emergency => 2 | .linkLost => 3

/-- R135: the code of a pass kind. -/
def PassKind.code : PassKind → Nat
  | .primary => 1 | .post => 2

/-- R144: the code of a pass end. -/
def PassEnd.code : PassEnd → Nat
  | .volumeReached => 1 | .noFlow => 2 | .refusal => 3 | .stopped => 4 | .fault => 5 | .pauseExpired => 6
  | .interrupted => 7

/-- R46: the code of an end kind. -/
def EndKind.code : EndKind → Nat
  | .passed => 1 | .failed => 2 | .aborted => 3

/-- R46, R8: the code of an abort cause. -/
def AbortCause.code : AbortCause → Nat
  | .host => 1 | .holdLoss => 2 | .rampTimeout => 3 | .strokeEnd => 4 | .overload => 5 | .reset => 6

/-- R24, R25: the code of a plan shape. -/
def PlanShape.code : PlanShape → Nat
  | .full => 1 | .relock => 2

/-- R23, R193: the code of a step kind. -/
def StepKind.code : StepKind → Nat
  | .datum => 1 | .load => 2 | .creep => 3 | .unload => 4 | .lockoff => 5 | .liftoff => 6

/-- R23, R193: the step kind of a code. -/
def StepKind.ofCode : Nat → Option StepKind
  | 1 => some .datum | 2 => some .load | 3 => some .creep | 4 => some .unload | 5 => some .lockoff
  | 6 => some .liftoff | _ => none

/-- R170: the code of a block state. -/
def BlockState.code : BlockState → Nat
  | .empty => 1 | .filling => 2 | .full => 3 | .exported => 4 | .erasing => 5

/-- R175: a detail of two parts, the first in its low byte. -/
def detail2 (low high : Nat) : Nat := low + 256 * high

/-! ## Cause sets (R49, R143) -/

/-- The causes of a hold; the first four also pause a pass. -/
inductive Cause where
  | host | trip | emergency | linkLost | neighbour
  deriving DecidableEq, Repr, Inhabited

/-- A cause joins a set. -/
def CauseSet.add (cs : CauseSet) : Cause → CauseSet
  | .host => { cs with host := true }
  | .trip => { cs with trip := true }
  | .emergency => { cs with emergency := true }
  | .linkLost => { cs with linkLost := true }
  | .neighbour => { cs with neighbour := true }

/-- A cause leaves a set. -/
def CauseSet.remove (cs : CauseSet) : Cause → CauseSet
  | .host => { cs with host := false }
  | .trip => { cs with trip := false }
  | .emergency => { cs with emergency := false }
  | .linkLost => { cs with linkLost := false }
  | .neighbour => { cs with neighbour := false }

/-- Whether the set holds no cause. -/
def CauseSet.isEmpty (cs : CauseSet) : Bool :=
  !(cs.host || cs.trip || cs.emergency || cs.linkLost || cs.neighbour)

/-- R50 check 5, R143 check 3: a condition cause is in the set. -/
def CauseSet.hasCondition (cs : CauseSet) : Bool := cs.trip || cs.emergency || cs.linkLost

/-- R49: the set as a detail, bit 0 HOST to bit 4 NEIGHBOUR_RISE. -/
def CauseSet.bits (cs : CauseSet) : Nat :=
  cs.host.toNat + 2 * cs.trip.toNat + 4 * cs.emergency.toNat + 8 * cs.linkLost.toNat + 16 * cs.neighbour.toNat

/-! ## Accessors -/

/-- A stressing station. -/
def State.stn (s : State) : Stn → Station
  | .s1 => s.s1
  | .s2 => s.s2

/-- A stressing station replaced. -/
def State.setStn (s : State) (st : Stn) (x : Station) : State :=
  match st with
  | .s1 => { s with s1 := x }
  | .s2 => { s with s2 := x }

/-- A stressing station changed. -/
def State.modStn (s : State) (st : Stn) (f : Station → Station) : State := s.setStn st (f (s.stn st))

/-- A test context changed, where there is one. -/
def State.modCtx (s : State) (st : Stn) (f : TestCtx → TestCtx) : State :=
  s.modStn st fun x => { x with ctx := x.ctx.map f }

/-- R92: the enable of a stressing station. -/
def State.enabled (s : State) : Stn → Bool
  | .s1 => s.site.enables.s1
  | .s2 => s.site.enables.s2

/-- R194: the jack rating of a stressing station, as it stands. -/
def State.rating (s : State) : Stn → Nat
  | .s1 => s.site.limits.rating1
  | .s2 => s.site.limits.rating2

/-- R197: the site time as an optional time stamp, absent while the clock is not valid. -/
def State.now (s : State) : Option Nat := if s.site.clockValid then some s.site.clock else none

/-- R1: the entry of an id. -/
def State.entry (s : State) (id : Nat) : Option Entry := s.reg.find? fun e => e.decl.id == id

/-- The entry of an id changed in its place (R2). -/
def State.modEntry (s : State) (id : Nat) (f : Entry → Entry) : State :=
  { s with reg := s.reg.map fun e => if e.decl.id == id then f e else e }

/-- R159: a row, numbered from 1. -/
def State.row (s : State) (r : Nat) : Row := s.rows.getD (r - 1) default

/-- A row changed. -/
def State.modRow (s : State) (r : Nat) (f : Row → Row) : State :=
  { s with rows := s.rows.set (r - 1) (f (s.row r)) }

/-- R159: the ceiling of a row, numbered from 1. -/
def State.ceiling (s : State) (r : Nat) : Nat := s.site.limits.ceilings.getD (r - 1) 0

/-- R23: a plan slot, numbered from 1. -/
def State.plan (s : State) (slot : Nat) : Option Plan := s.plans.getD (slot - 1) none

/-- R128: the port that holds an anchor, numbered from 1. -/
def State.portOf (s : State) (anchor : Nat) : Option Nat :=
  (s.grout.ports.findIdx? fun p => p == some anchor).map (· + 1)

/-- R151: a monitor point, numbered from 1. -/
def State.point (s : State) (p : Nat) : Point := s.wall.points.getD (p - 1) default

/-- R87: a point's entry in the published scan, numbered from 1. -/
def State.scanned (s : State) (p : Nat) : PointReading := s.fe.scan.getD (p - 1) .notScanned

/-- R78: the running load of a stressing station. -/
def Station.runLoad (x : Station) : Nat := x.load.level

/-- R82: the running displacement of a stressing station. -/
def Station.runDisp (x : Station) : Int := average x.enc.win

/-- R94: a guard's count returns to 0. -/
def Guard.zero (g : Guard) : Guard := { g with count := 0 }

/-- R94, R95: one evaluation of an active guard: the guard after it, and whether it trips. -/
def Guard.eval (g : Guard) (threshold n : Nat) (valid outOfBand : Bool) : Guard × Bool :=
  let c := if valid && outOfBand then min Config.guardEnd (g.count + 1) else 0
  if valid && outOfBand && decide (n ≤ c) then ({ count := 0, last := some threshold }, true)
  else ({ count := c, last := some threshold }, false)

/-! ## The pending-notice set (R175 to R180) -/

/-- R178: the level of a kind. -/
def NoticeUnit.level (u : NoticeUnit) (k : NoticeKind) : Level := u.levels.getD (k.code - 1) .off

/-- Whether an entry has this kind and origin. -/
def Notice.same (n : Notice) (k : NoticeKind) (o : Origin) : Bool := n.kind == k && n.origin == o

/-- R176 step 4: the lowest level present, as a rank; 3 where the set is empty. -/
def NoticeUnit.lowestRank (u : NoticeUnit) : Nat :=
  u.entries.foldl (fun m n => min m (u.level n.kind).rank) 3

/-- R176: a raise taken by the Notice Unit. -/
def NoticeUnit.raise (u : NoticeUnit) (k : NoticeKind) (o : Origin) (anchor : Option Nat) (detail : Nat)
    (time : Option Nat) : NoticeUnit :=
  let fresh : Notice :=
    { kind := k, origin := o, anchor := anchor, detail := detail, time := time, again := 0, acked := false }
  if u.level k = .off then u
  else if u.entries.any (·.same k o) then
    { u with entries := u.entries.map fun n => if n.same k o then { n with again := min 15 (n.again + 1) } else n }
  else if u.entries.length < Config.maxNotices then { u with entries := u.entries ++ [fresh] }
  else if u.lowestRank < (u.level k).rank then
    { u with entries := u.entries.eraseP (fun n => (u.level n.kind).rank == u.lowestRank) ++ [fresh] }
  else { u with overflow := true }

/-- A block hands a notice to the Notice Unit (R176). -/
def State.notice (s : State) (k : NoticeKind) (o : Origin) (anchor : Option Nat) (detail : Nat) : State :=
  { s with notices := s.notices.raise k o anchor detail s.now }

/-- R177: a block reports the end of a condition. -/
def State.endCondition (s : State) (k : NoticeKind) (o : Origin) : State :=
  { s with notices := { s.notices with entries := s.notices.entries.filter fun n => !n.same k o } }

/-- R179: the ATTN line; deasserted through start-up and in reset. -/
def State.attn (s : State) : Bool :=
  s.phase == .running && s.notices.entries.any fun n =>
    !n.acked && decide (s.notices.floor.rank ≤ (s.notices.level n.kind).rank)

/-! ## Fault groups (section 5.2) -/

/-- The bit of a flag in the combined mask (R194 note). -/
def Flag.bit : Flag → Nat
  | .overload .s1 => 0 | .loadOpen .s1 => 1 | .loadOver .s1 => 2 | .encoderRange .s1 => 3
  | .overload .s2 => 4 | .loadOpen .s2 => 5 | .loadOver .s2 => 6 | .encoderRange .s2 => 7
  | .tensionOpen => 8 | .tensionOver => 9
  | .overpressure => 10 | .pressureOpen => 11 | .pressureOver => 12 | .valveLeak => 13
  | .tiltExceeded => 14 | .monitorSensor => 15
  | .linkLost => 16 | .selftestFailed => 17 | .archiveWrite => 18 | .clockLost => 19

/-- The group number of a flag, 1 to 6. -/
def Flag.group : Flag → Nat
  | .overload .s1 | .loadOpen .s1 | .loadOver .s1 | .encoderRange .s1 => 1
  | .overload .s2 | .loadOpen .s2 | .loadOver .s2 | .encoderRange .s2 => 2
  | .tensionOpen | .tensionOver => 3
  | .overpressure | .pressureOpen | .pressureOver | .valveLeak => 4
  | .tiltExceeded | .monitorSensor => 5
  | .linkLost | .selftestFailed | .archiveWrite | .clockLost => 6

/-- The code of a flag, 1 to 16. -/
def Flag.code : Flag → Nat
  | .overload _ => 1 | .loadOpen _ => 2 | .loadOver _ => 3 | .encoderRange _ => 4
  | .tensionOpen => 5 | .tensionOver => 6
  | .overpressure => 7 | .pressureOpen => 8 | .pressureOver => 9 | .valveLeak => 10
  | .tiltExceeded => 11 | .monitorSensor => 12
  | .linkLost => 13 | .selftestFailed => 14 | .archiveWrite => 15 | .clockLost => 16

/-- Every flag, in bit order. -/
def Flag.all : List Flag :=
  [.overload .s1, .loadOpen .s1, .loadOver .s1, .encoderRange .s1,
   .overload .s2, .loadOpen .s2, .loadOver .s2, .encoderRange .s2,
   .tensionOpen, .tensionOver, .overpressure, .pressureOpen, .pressureOver, .valveLeak,
   .tiltExceeded, .monitorSensor, .linkLost, .selftestFailed, .archiveWrite, .clockLost]

/-- The flag of a group number and a code, where the table of section 5.2 lists it. -/
def Flag.ofCodes (group code : Nat) : Option Flag :=
  Flag.all.find? fun f => f.group == group && f.code == code

/-- R99: the origin of a flag's FAULT_RAISED notice. -/
def Flag.origin (f : Flag) : Origin :=
  match f with
  | .archiveWrite => .archive
  | _ =>
    match f.group with
    | 1 => .s1 | 2 => .s2 | 3 => .w | 4 => .g | 5 => .wall | _ => .system

/-- R99: the three flags that raise no FAULT_RAISED notice. -/
def Flag.silent : Flag → Bool
  | .linkLost | .selftestFailed | .clockLost => true
  | _ => false

/-- Whether a detailed flag is set. -/
def State.flag (s : State) (f : Flag) : Bool := s.faults.det.getLsbD f.bit

/-- Whether the combined flag of a group, numbered from 1, is set. -/
def State.combined (s : State) (group : Nat) : Bool := s.faults.comb.getLsbD (group - 1)

/-- The bits of the detailed flags of a group. -/
def groupBits : Nat → BitVec 20
  | 1 => 0x0000F#20 | 2 => 0x000F0#20 | 3 => 0x00300#20 | 4 => 0x03C00#20 | 5 => 0x0C000#20 | 6 => 0xF0000#20
  | _ => 0#20

/-- R93: whether faults of a group are latched; WALL and SYSTEM belong to no station. -/
def State.groupLive (s : State) : Nat → Bool
  | 1 => s.site.enables.s1 | 2 => s.site.enables.s2 | 3 => s.site.enables.w | 4 => s.site.enables.g | _ => true

/-! ## Drive outputs (R88 to R90, R107) -/

/-- R107: the pump force is in effect. -/
def State.pumpForce (s : State) : Bool := s.faults.trip || s.faults.emergency.set

/-- R107: the valve force is in effect. -/
def State.valveForce (s : State) : Bool := s.faults.emergency.set

/-- R90: a port valve commanded open. -/
def Valve.openCmd (v : Valve) : Valve :=
  match v.state with
  | .closed | .closing => { state := .opening, cmd := true }
  | .opening | .opened => { v with cmd := true }

/-- R90: a port valve commanded closed. -/
def Valve.closeCmd (v : Valve) : Valve :=
  match v.state with
  | .opening | .opened => { state := .closing, cmd := false }
  | .closed | .closing => { v with cmd := false }

/-- R90: the end of a valve's travel. -/
def Valve.travelEnd (v : Valve) : Valve :=
  match v.state with
  | .opening => { v with state := .opened }
  | .closing => { v with state := .closed }
  | _ => v

/-- The port valves changed at one port, numbered from 1. -/
def Grout.modValve (g : Grout) (port : Nat) (f : Valve → Valve) : Grout :=
  { g with valves := g.valves.set (port - 1) (f (g.valves.getD (port - 1) .rest)) }

/-- The port valve of a port, numbered from 1. -/
def Grout.valve (g : Grout) (port : Nat) : Valve := g.valves.getD (port - 1) .rest

/-- R84: the flow window: a port valve is OPEN and the applied demand of the grout pump is above 0. -/
def Grout.windowOpen (g : Grout) : Bool :=
  g.valves.any (fun v => v.state == .opened) && decide (0 < g.pump.applied)

/-- R86: the published flow becomes 0, and timing starts afresh, when the window opens or closes. -/
def Grout.judgeFlow (g : Grout) : Grout :=
  if g.windowOpen = g.flow.isOpen then g
  else { g with flow := { g.flow with published := 0, isOpen := g.windowOpen, timed := false } }

/-- The grout station changed, its flow window judged again. -/
def State.modGrout (s : State) (f : Grout → Grout) : State := { s with grout := (f s.grout).judgeFlow }

/-- R107: the forces act on the applied demands and the port valves at the event that brings them into effect. -/
def State.applyForces (s : State) : State :=
  let s := if s.pumpForce then
      { s with
        s1 := { s.s1 with pump := { s.s1.pump with applied := 0 } }
        s2 := { s.s2 with pump := { s.s2.pump with applied := 0 } }
        grout := { s.grout with pump := { s.grout.pump with applied := 0 } } }
    else s
  let s := if s.valveForce then { s with grout := { s.grout with valves := s.grout.valves.map Valve.closeCmd } } else s
  { s with grout := s.grout.judgeFlow }

/-- R89: the level of a release valve output: the command, but closed under the valve force and while disabled. -/
def State.relOut (s : State) (st : Stn) : Bool := (s.stn st).relCmd && !s.valveForce && s.enabled st

/-- R116: the command of WMOT, and with it of WBRK. -/
def State.winchCmd (s : State) : Bool := s.winch.state == .paying

/-- R90: the level of WMOT, and with it of WBRK (HIGH releases the brake). -/
def State.winchOut (s : State) : Bool := s.winchCmd && !s.pumpForce && s.site.enables.w

/-- R90: the level of a port valve output, numbered from 1. -/
def State.portOut (s : State) (port : Nat) : Bool :=
  (s.grout.valve port).cmd && !s.valveForce && s.site.enables.g

/-! ## The sparse slots of the Archive (R163) -/

/-- R163: a slot, or none where it is ERASED. -/
def slotAt (slots : List (Nat × Slot)) (n : Nat) : Option Slot := (slots.find? fun p => p.1 == n).map (·.2)

/-- A slot written: the list stays strictly rising. -/
def setSlot : List (Nat × Slot) → Nat → Slot → List (Nat × Slot)
  | [], n, x => [(n, x)]
  | (m, y) :: rest, n, x =>
    if n < m then (n, x) :: (m, y) :: rest
    else if n = m then (n, x) :: rest
    else (m, y) :: setSlot rest n x

/-- The slots of one block erased. -/
def eraseBlock (slots : List (Nat × Slot)) (block : Nat) : List (Nat × Slot) :=
  slots.filter fun p => !decide ((p.1 - 1) / Config.blockSize + 1 = block)

/-- The canonical form: slot numbers 1 to 1024, strictly rising. -/
def slotsWf : List (Nat × Slot) → Bool
  | [] => true
  | [(n, _)] => decide (1 ≤ n ∧ n ≤ Config.slotCount)
  | (n, _) :: (m, y) :: rest => decide (1 ≤ n ∧ n < m) && slotsWf ((m, y) :: rest)

/-- R163: the block of a slot. -/
def blockOf (slot : Nat) : Nat := (slot - 1) / Config.blockSize + 1

/-- R163: the last slot of a block. -/
def isLastSlot (slot : Nat) : Bool := slot % Config.blockSize == 0

/-- The state of a block, numbered from 1. -/
def Archive.block (a : Archive) (b : Nat) : BlockState := a.blocks.getD (b - 1) .empty

/-- A block's state set. -/
def Archive.setBlock (a : Archive) (b : Nat) (st : BlockState) : Archive :=
  { a with blocks := a.blocks.set (b - 1) st }

/-- R163: the record number that stands in a slot that is not ERASED. -/
def Slot.number : Slot → Nat
  | .writing r => r.number
  | .valid r => r.number
  | .torn n => n

/-- R173: the ARCHIVE_FULL condition: the next slot is not ERASED. -/
def Archive.isFull (a : Archive) : Bool := (slotAt a.slots a.nextSlot).isSome

/-- R163, R171: the oldest non-empty block: the first of the run of non-EMPTY blocks that ends at the block of the next
slot. Where the next slot is not ERASED the ring has come round, and the run begins with that slot's block. -/
def Archive.oldest (a : Archive) : Option Nat :=
  let b := blockOf a.nextSlot
  let ring := (List.range 8).map fun i => (b + i) % 8 + 1
  if a.isFull then some b else ring.find? fun x => a.block x != .empty

end Machine

end Sys2Proof
end

