-- ==== Sys2Proof/Machine/Handing.lean ====
section
/-! DEFINITION. What one block hands to another: holding a test (R48, R49), halting a winch run (R120, R123), ending and
pausing a grout pass (R138, R141, R144), and the arbiter (R134, R135). -/

namespace Sys2Proof.Machine

/-! ## Stressing tests -/

/-- R49: a station enters HELD: its drives stop, its movement and timeout are cancelled, TEST_HELD is raised. Hold elapsed
and top-ups, which lose their meaning there, stand at 0 (DESIGN CHOICE, log 32). -/
def State.hold (s : State) (st : Stn) : State :=
  let x := s.stn st
  let s := s.setStn st
    { x with
      state := .held
      pump := { x.pump with cmd := 0 }
      relCmd := false
      ctx := x.ctx.map fun c => { c with motion := none, holdSamples := 0, topUps := 0 } }
  match x.ctx with
  | none => s
  | some c => s.notice .testHeld st.origin (some c.anchor) c.causes.bits

/-- R48: a cause reaches the test of a station. -/
def State.addCause (s : State) (c : Cause) (st : Stn) : State :=
  let joined := s.modCtx st fun x => { x with causes := x.causes.add c }
  match (s.stn st).ctx, (s.stn st).state with
  | none, _ => s
  | some _, .ramping | some _, .holding | some _, .seeking => joined.hold st
  | some _, .held | some _, .seating | some _, .releasing => joined
  | some _, _ => s

/-- R48, R108, R115, R191: a condition cause leaves the test of a station. R52: in FAULT the hold cause set is frozen, and
keeps it (that R52 goes before the four: DEDUCED, log 27). -/
def State.removeCauseAt (s : State) (c : Cause) (st : Stn) : State :=
  if (s.stn st).state = .fault then s else s.modCtx st fun x => { x with causes := x.causes.remove c }

/-- R48, R52: the freeze of FAULT ends with FAULT. The causes whose condition has ended meanwhile leave the set then, and
those whose condition stands stay (DEDUCED, log 27). -/
def State.thawCauses (s : State) (st : Stn) : State :=
  s.modCtx st fun x =>
    { x with causes :=
      { x.causes with
        trip := x.causes.trip && s.faults.trip
        emergency := x.causes.emergency && s.faults.emergency.set
        linkLost := x.causes.linkLost && s.link.lost } }

/-! ## The winch run -/

/-- R120: the end event of a run in PAYING. -/
def State.endRun (s : State) (r : RunEnd) (halt : Option HaltCause) : State :=
  if s.winch.state = .paying then
    { s with winch :=
        { s.winch with
          state := .stopping
          run := s.winch.run.map fun x => { x with reason := some r, halt := halt, brakeSamples := 0 }
          jam := s.winch.jam.zero
          slack := s.winch.slack.zero } }
  else s

/-- R123: a condition halts a run in PAYING. -/
def State.haltRun (s : State) (h : HaltCause) : State := s.endRun .halted (some h)

/-! ## The grout pass -/

/-- R17, R144: the Register change of a pass that completed. -/
def Entry.passEnded (e : Entry) (p : Pass) (r : PassEnd) : Entry :=
  let item : PassEntry :=
    { kind := p.kind, port := p.port, start := p.start, endTime := p.endTime, volume := some p.volume,
      peakPressure := some p.peakPressure, peakFlow := some p.peakFlow, reason := r }
  let e := { e with passes := e.passes ++ [item], pass := none }
  match p.kind with
  | .post => { e with postDone := e.postDone + 1 }
  | .primary =>
    if r = .volumeReached then { e with stage := .grouted, primaryEnd := p.endTime } else { e with stage := .placed }

/-- R134: a port holds the anchor of a request. -/
def State.eligible (s : State) (r : GroutReq) : Bool := (s.portOf r.anchor).isSome

/-- R134: the arbiter's conditions, but for the eligible request. -/
def State.arbiterReady (s : State) : Bool :=
  s.grout.state == .idle && s.grout.pass.isNone && s.site.enables.g && !s.faults.trip && !s.faults.emergency.set &&
    !s.link.lost && !s.combined 4

/-- R135: the Register change of a served request. -/
def Entry.served (e : Entry) (r : GroutReq) (port start : Nat) : Entry :=
  let e := { e with pass := some { kind := r.kind, port := port, start := start }, interrupted := none }
  match r.kind with
  | .primary => { e with stage := .grouting }
  | .post => { e with postDue := false }

/-- R135, R136: the pass context of a served request. -/
def Pass.ofRequest (r : GroutReq) (port start : Nat) (e : Entry) : Pass :=
  let post := e.decl.post.getD default
  { anchor := r.anchor, kind := r.kind, port := port, start := start
    cap := if r.kind = .primary then e.decl.volCap else post.volCap
    refusal := if r.kind = .primary then e.decl.refusal else post.refusal
    volume := 0, peakPressure := 0, peakFlow := 0, causes := .none, pauseSamples := 0, pauseLimit := 0
    noFlow := none, reason := none, endTime := none }

/-- R135: a request is served. -/
def State.serve (s : State) (r : GroutReq) (port : Nat) (e : Entry) : State :=
  let s := s.modGrout fun g =>
    { g with
      queue := g.queue.eraseP fun q => q.anchor == r.anchor
      pass := some (.ofRequest r port s.site.clock e)
      state := .starting
      refusal := g.refusal.zero
      overp := g.overp.zero }.modValve port Valve.openCmd
  let s := s.modEntry r.anchor fun e => e.served r port s.site.clock
  s.notice .passStarted .g (some r.anchor) (detail2 r.kind.code port)

/-- R134: the arbiter acts: it serves the oldest eligible request, when its conditions hold. -/
def State.arbiter (s : State) : State :=
  if s.arbiterReady then
    match s.grout.queue.find? s.eligible with
    | none => s
    | some r =>
      match s.portOf r.anchor, s.entry r.anchor with
      | some port, some e => s.serve r port e
      | _, _ => s
  else s

/-- R144: the active pass completes; the arbiter then acts. -/
def State.completePass (s : State) : State :=
  match s.grout.pass with
  | none => s
  | some p =>
    match p.reason with
    | none => s
    | some r =>
      let s := s.modEntry p.anchor fun e => e.passEnded p r
      let s := { s with grout :=
        { s.grout with state := .idle, pass := none, refusal := s.grout.refusal.zero, overp := s.grout.overp.zero } }
      let s := s.notice .passEnded .g (some p.anchor) (detail2 p.kind.code r.code)
      s.arbiter

/-- R138: whether an end event finds a pass it can end. -/
def Grout.canEnd (g : Grout) : Bool := g.state == .starting || g.state == .pumping || g.state == .paused

/-- R138, R144: an end event ends the pass; the pass completes at once when its valve is already CLOSED. -/
def State.endPass (s : State) (r : PassEnd) : State :=
  match s.grout.pass with
  | none => s
  | some p =>
    if s.grout.canEnd then
      let s := s.modGrout fun g =>
        { g with
          state := .ending
          pass := some { p with reason := some r, endTime := s.now, noFlow := none }
          refusal := g.refusal.zero
          pump := { g.pump with cmd := 0 } }.modValve p.port Valve.closeCmd
      if (s.grout.valve p.port).state = .closed then s.completePass else s
    else s

/-- R141: a cause reaches the pass. -/
def State.addPassCause (s : State) (c : Cause) : State :=
  match s.grout.pass with
  | none => s
  | some p =>
    let joined := { p with causes := p.causes.add c }
    match s.grout.state with
    | .starting | .pumping =>
      s.modGrout fun g =>
        { g with
          state := .paused
          pass := some { joined with noFlow := none, pauseSamples := 0, pauseLimit := s.site.settings.pauseLimit }
          refusal := g.refusal.zero
          pump := { g.pump with cmd := 0 } }.modValve p.port Valve.closeCmd
    | .paused => { s with grout := { s.grout with pass := some joined } }
    | _ => s

/-- R141: a condition cause leaves the pass. -/
def State.removePassCause (s : State) (c : Cause) : State :=
  { s with grout := { s.grout with pass := s.grout.pass.map fun p => { p with causes := p.causes.remove c } } }

/-! ## A condition handed to every station, and its end -/

/-- R108, R114, R189: a condition arises and is handed to S1, S2, W and G (log 8). -/
def State.handCause (s : State) (c : Cause) (h : HaltCause) : State :=
  (((s.addCause c .s1).addCause c .s2).haltRun h).addPassCause c

/-- R108, R115, R191: a condition ends: its cause leaves every test whose set is not frozen (R52) and the paused pass. -/
def State.dropCause (s : State) (c : Cause) : State :=
  ((s.removeCauseAt c .s1).removeCauseAt c .s2).removePassCause c

end Sys2Proof.Machine
end

