-- ==== Sys2Proof/Machine/Flags.lean ====
section
/-! DEFINITION. The fault flags, the combined flags and the TRIP line (R98 to R108), and the emergency state (R113, R114). -/

namespace Sys2Proof.Machine

/-- R106: what the TRIP line ought to be. -/
def State.tripJudged (s : State) : Bool := decide (s.faults.comb &&& ~~~s.site.limits.tripMask ≠ 0#6)

/-- R106, R107, R108: TRIP is asserted. -/
def State.assertTrip (s : State) : State :=
  let s := { s with faults := { s.faults with trip := true } }
  s.applyForces.handCause .trip .trip

/-- R106, R108: TRIP is deasserted; the arbiter acts (R134). -/
def State.deassertTrip (s : State) : State :=
  let s := { s with faults := { s.faults with trip := false } }
  (s.dropCause .trip).arbiter

/-- R106: TRIP is judged again. Through start-up the line stays deasserted. -/
def State.judgeTrip (s : State) : State :=
  if s.phase ≠ .running then s
  else if s.tripJudged = s.faults.trip then s
  else if s.tripJudged then s.assertTrip
  else s.deassertTrip

/-- R99: the anchor of the test, run or pass that an origin has in flight. -/
def State.anchorInFlight (s : State) : Origin → Option Nat
  | .s1 => s.s1.ctx.map (·.anchor)
  | .s2 => s.s2.ctx.map (·.anchor)
  | .w => s.winch.run.map (·.anchor)
  | .g => s.grout.pass.map (·.anchor)
  | _ => none

/-- R98 to R100: a fault is raised: latched unless its station is disabled; its notice handed when it latches from
clear; the combined flag set unless the flag is masked; TRIP judged again (R106). -/
def State.raise (s : State) (f : Flag) : State :=
  if s.groupLive f.group then
    let fresh := !s.flag f
    let masked := s.site.limits.combMask.getLsbD f.bit
    let s := { s with faults :=
      { s.faults with
        det := s.faults.det ||| BitVec.twoPow 20 f.bit
        comb := if masked then s.faults.comb else s.faults.comb ||| BitVec.twoPow 6 (f.group - 1) } }
    let s := if fresh && !f.silent then
        s.notice .faultRaised f.origin (s.anchorInFlight f.origin) (detail2 f.group f.code)
      else s
    s.judgeTrip
  else s

/-- R102: a detailed flag is cleared; the combined flag stays. -/
def State.clearFlag (s : State) (f : Flag) : State :=
  { s with faults := { s.faults with det := s.faults.det &&& ~~~BitVec.twoPow 20 f.bit } }

/-- R103: a combined flag is cleared, and TRIP judged again. -/
def State.clearCombined (s : State) (group : Nat) : State :=
  let s := { s with faults := { s.faults with comb := s.faults.comb &&& ~~~BitVec.twoPow 6 (group - 1) } }
  s.judgeTrip

/-- R93: every flag of a group is cleared without a check, at the disabling of its station. -/
def State.clearGroupFlags (s : State) (group : Nat) : State :=
  { s with faults :=
      { s.faults with
        det := s.faults.det &&& ~~~groupBits group
        comb := s.faults.comb &&& ~~~BitVec.twoPow 6 (group - 1) } }

/-- R101: new masks are applied: a set flag that is unmasked sets its combined flag, and TRIP is judged again. -/
def State.applyMasks (s : State) : State :=
  let seen := s.faults.det &&& ~~~s.site.limits.combMask
  let comb := [1, 2, 3, 4, 5, 6].foldl
    (fun (c : BitVec 6) g => if seen &&& groupBits g ≠ 0#20 then c ||| BitVec.twoPow 6 (g - 1) else c) s.faults.comb
  { s with faults := { s.faults with comb := comb } }.judgeTrip

/-- R152, R155: the point with the tilt guard `g` is a TILT point with a baseline, VALID and out of band in the published scan.
Its limit is that of the guard's latest evaluation, for a new one applies from the next completed scan. -/
def outOfTilt (p : Point) (r : PointReading) (g : Guard) : Bool :=
  match p.kind, p.baseline, r, g.last with
  | .tilt, some b, .valid v, some limit => decide (limit < (v - b).natAbs)
  | _, _, _, _ => false

/-- R98: whether a flag's condition is present. -/
def State.condition (s : State) : Flag → Bool
  | .overload st => (s.stn st).state == .fault
  | .loadOpen st => (s.stn st).load.mark == some .isOpen
  | .loadOver st => (s.stn st).load.mark == some .isOver
  | .encoderRange st => decide ((s.stn st).enc.count = Config.encoderEnd ∨ (s.stn st).enc.count = -Config.encoderEnd)
  | .tensionOpen => s.winch.tension.mark == some .isOpen
  | .tensionOver => s.winch.tension.mark == some .isOver
  | .overpressure => decide (s.site.limits.maxPressure ≤ s.grout.pressure.level)
  | .pressureOpen => s.grout.pressure.mark == some .isOpen
  | .pressureOver => s.grout.pressure.mark == some .isOver
  | .valveLeak => decide (s.site.settings.leakLimit ≤ s.grout.flow.stray)
  | .tiltExceeded =>
    (List.range Config.pointCount).any fun i => outOfTilt (s.point (i + 1)) (s.scanned (i + 1)) (s.wall.tilt.getD i .rest)
  | .monitorSensor =>
    (List.range Config.pointCount).any fun i =>
      (s.point (i + 1)).kind != .unused && (s.scanned (i + 1) == .isOpen || s.scanned (i + 1) == .isOver)
  | .linkLost => s.link.lost
  | .selftestFailed => false
  | .archiveWrite => false
  | .clockLost => !s.site.clockValid

/-- R113, R114: a line sets the emergency state: the forces act, and every station is told when the state was clear. -/
def State.setEmergency (s : State) (line : EmLine) : State :=
  let e := s.faults.emergency
  let e' : Emergency :=
    { set := true
      estop := e.estop || line == .estop
      wallTrip := e.wallTrip || line == .wallTrip
      time := if e.set then e.time else s.now }
  let first := !e.set
  let s := { s with faults := { s.faults with emergency := e' } }
  let s := s.notice .emergency .system none line.code
  if first then s.applyForces.handCause .emergency .emergency else s

end Sys2Proof.Machine
end

