-- ==== Sys2Proof/Machine/Wire.lean ====
section
/-! DEFINITION. What travels on the link: the fields of a BODY and their bytes (R193), the request catalogue (section
11.4), the BODY of each request written and read, frames and replies with their CRC (section 11.1, R184 to R188). -/

namespace Sys2Proof.Machine

/-! ## Fields and bytes -/

/-- A number in `width` bytes, the least significant first (spec 00, Byte order). -/
def leBytes : Nat → Nat → List Byte
  | 0, _ => []
  | w + 1, n => BitVec.ofNat 8 n :: leBytes w (n / 256)

/-- A signed number in `width` bytes: two's complement. -/
def leSigned (width : Nat) (z : Int) : List Byte := leBytes width (z % (256 ^ width : Nat)).toNat

/-- R193: the bytes of a field. -/
def WField.bytes : WField → List Byte
  | .u8 n => leBytes 1 n
  | .u16 n => leBytes 2 n
  | .u32 n => leBytes 4 n
  | .i16 z => leSigned 2 z
  | .i32 z => leSigned 4 z

/-- R193: how many bytes a field takes. -/
def WField.width : WField → Nat
  | .u8 _ => 1
  | .u16 _ | .i16 _ => 2
  | .u32 _ | .i32 _ => 4

/-- R193: a set/clear field. -/
def WField.flag (b : Bool) : WField := .u8 b.toNat

/-- R193: a field of two listed values: 1 for the one named first, 2 for the other. -/
def WField.either (first : Bool) : WField := .u8 (if first then 1 else 2)

/-- An optional field of a reply: its presence byte, and its value when present (log 11). -/
def WField.opt {α : Type} (f : α → List WField) : Option α → List WField
  | none => [.u8 0]
  | some a => .u8 1 :: f a

/-- A list field of a reply: its count, and its items (log 11). -/
def WField.list {α : Type} (f : α → List WField) (l : List α) : List WField :=
  .u8 l.length :: l.flatMap f

/-- A byte of a BODY. -/
def u8At (b : List Byte) (i : Nat) : Nat := (b.getD i 0#8).toNat

/-- Two bytes of a BODY. -/
def u16At (b : List Byte) (i : Nat) : Nat := u8At b i + 256 * u8At b (i + 1)

/-- Four bytes of a BODY. -/
def u32At (b : List Byte) (i : Nat) : Nat := u16At b i + 65536 * u16At b (i + 2)

/-- Two bytes of a BODY as a signed number. -/
def i16At (b : List Byte) (i : Nat) : Int :=
  if u16At b i < 32768 then (u16At b i : Int) else (u16At b i : Int) - 65536

/-! ## The request catalogue (section 11.4) -/

/-- R186: how the length of a BODY is checked. -/
inductive LengthRule where
  | fixed (n : Nat) | paged | amend | plan | items
  deriving DecidableEq, Repr

/-- One row of the catalogue: the kind, its length, and whether it is served while LINK_LOST is set. -/
structure CatalogueRow where
  kind : Nat
  length : LengthRule
  served : Bool
  deriving DecidableEq, Repr

/-- Section 11.4. -/
def catalogue : List CatalogueRow :=
  [⟨0x01, .fixed 0, true⟩, ⟨0x02, .fixed 0, false⟩, ⟨0x03, .fixed 0, true⟩, ⟨0x04, .fixed 0, true⟩,
   ⟨0x05, .paged, true⟩, ⟨0x06, .fixed 2, false⟩,
   ⟨0x10, .fixed 46, false⟩, ⟨0x11, .amend, false⟩, ⟨0x12, .fixed 2, false⟩, ⟨0x13, .fixed 4, true⟩,
   ⟨0x14, .fixed 1, true⟩, ⟨0x18, .plan, false⟩, ⟨0x19, .fixed 1, true⟩,
   ⟨0x20, .fixed 4, false⟩, ⟨0x21, .fixed 1, false⟩, ⟨0x22, .fixed 2, false⟩, ⟨0x23, .fixed 1, false⟩,
   ⟨0x24, .fixed 6, false⟩, ⟨0x25, .fixed 1, true⟩] ++
  [⟨0x28, .fixed 7, false⟩, ⟨0x29, .fixed 1, true⟩, ⟨0x2A, .paged, true⟩, ⟨0x2B, .paged, true⟩,
   ⟨0x2C, .paged, true⟩, ⟨0x2D, .fixed 4, false⟩,
   ⟨0x30, .paged, true⟩, ⟨0x31, .paged, true⟩, ⟨0x32, .fixed 2, false⟩, ⟨0x33, .fixed 1, false⟩,
   ⟨0x34, .fixed 1, false⟩, ⟨0x35, .fixed 0, false⟩,
   ⟨0x38, .fixed 2, false⟩, ⟨0x39, .fixed 0, false⟩, ⟨0x3A, .paged, true⟩] ++
  [⟨0x40, .fixed 3, false⟩, ⟨0x41, .fixed 1, false⟩, ⟨0x42, .fixed 2, false⟩, ⟨0x43, .fixed 2, false⟩,
   ⟨0x44, .fixed 0, false⟩, ⟨0x45, .fixed 0, false⟩, ⟨0x46, .fixed 0, false⟩, ⟨0x47, .paged, true⟩,
   ⟨0x48, .fixed 6, false⟩, ⟨0x49, .fixed 2, false⟩, ⟨0x4A, .paged, true⟩, ⟨0x4B, .paged, true⟩] ++
  [⟨0x50, .fixed 2, false⟩, ⟨0x51, .fixed 5, true⟩, ⟨0x52, .fixed 5, true⟩, ⟨0x53, .fixed 1, false⟩,
   ⟨0x54, .fixed 0, false⟩, ⟨0x55, .paged, true⟩,
   ⟨0x58, .items, false⟩, ⟨0x59, .paged, true⟩, ⟨0x5B, .fixed 0, false⟩, ⟨0x5C, .items, false⟩,
   ⟨0x5D, .paged, true⟩, ⟨0x5E, .fixed 4, false⟩, ⟨0x5F, .paged, true⟩, ⟨0x60, .fixed 5, false⟩,
   ⟨0x61, .paged, true⟩]

/-- The catalogue row of a kind. -/
def rowOf (kind : Nat) : Option CatalogueRow := catalogue.find? fun r => r.kind == kind

/-- R184: a known KIND is a kind listed in the catalogue. -/
def knownKind (kind : Nat) : Bool := (rowOf kind).isSome

/-- R190: a kind served while the LINK_LOST state is set. -/
def servedWhenLost (kind : Nat) : Bool := (rowOf kind).any (·.served)

/-! ## The BODY of a request, written -/

/-- The optional page byte of a paged query (R188). -/
def pageBytes : Option Nat → List Byte
  | none => []
  | some p => leBytes 1 p

/-- The list field 18 (R5, R186): a count and four id places. -/
def nbrBytes (count : Nat) (ids : List Nat) : List Byte :=
  leBytes 1 count ++ ids.flatMap (leBytes 2)

/-- R186: one item of an AMEND body. -/
def amendItemBytes : AmendItem → List Byte
  | .value i v => leBytes 1 i ++ leBytes 4 v
  | .neighbours c ids => leBytes 1 18 ++ nbrBytes c ids

/-- R186: the items of SET_LIMITS and SET_SETTINGS. -/
def itemBytes (items : List (Nat × Nat)) : List Byte :=
  leBytes 1 items.length ++ items.flatMap fun p => leBytes 1 p.1 ++ leBytes 4 p.2

/-- R3, R193: a DECLARE body. -/
def declareBytes (d : DeclareBody) : List Byte :=
  leBytes 2 d.id ++ leBytes 1 d.row ++ leBytes 2 d.lFree ++ leBytes 2 d.lBond ++ leBytes 2 d.area ++
  leBytes 4 d.modulus ++ leBytes 2 d.pw ++ leBytes 2 d.pp ++ leBytes 2 d.pa ++ leBytes 2 d.plo ++
  leBytes 4 d.volCap ++ leBytes 2 d.refusal ++ leBytes 1 d.passes ++ leBytes 1 d.postInterval ++
  leBytes 4 d.postVolCap ++ leBytes 2 d.postRefusal ++ leBytes 2 d.cure ++ nbrBytes d.nbrCount d.nbrIds

/-- R186: one step of a LOAD_PLAN body. -/
def rawStepBytes (t : RawStep) : List Byte :=
  leBytes 1 t.kind ++ leBytes 2 t.target ++ leBytes 2 t.hold ++ leBytes 1 t.ext

/-- The frame of a request; an event has none, and gives kind 0 with an empty body. -/
def frameOf : Instr → Frame
  | .identify t => ⟨0x01, t, []⟩
  | .reset t => ⟨0x02, t, []⟩
  | .resumeLink t => ⟨0x03, t, []⟩
  | .takeNotice t => ⟨0x04, t, []⟩
  | .getNotices t p => ⟨0x05, t, pageBytes p⟩
  | .setNoticeLevel t k l => ⟨0x06, t, leBytes 1 k ++ leBytes 1 l⟩
  | .declare t d => ⟨0x10, t, declareBytes d⟩
  | .amend t id items => ⟨0x11, t, leBytes 2 id ++ leBytes 1 items.length ++ items.flatMap amendItemBytes⟩
  | .void t id => ⟨0x12, t, leBytes 2 id⟩
  | .getAnchor t id p f => ⟨0x13, t, leBytes 2 id ++ leBytes 1 p ++ leBytes 1 f⟩
  | .listAnchors t f => ⟨0x14, t, leBytes 1 f⟩
  | .loadPlan t n steps => ⟨0x18, t, leBytes 1 n ++ leBytes 1 steps.length ++ steps.flatMap rawStepBytes⟩
  | .getPlan t n => ⟨0x19, t, leBytes 1 n⟩
  | .startTest t st a n => ⟨0x20, t, leBytes 1 st ++ leBytes 2 a ++ leBytes 1 n⟩
  | .holdTest t st => ⟨0x21, t, leBytes 1 st⟩
  | .resumeTest t st r => ⟨0x22, t, leBytes 1 st ++ leBytes 1 r⟩
  | .abortTest t st => ⟨0x23, t, leBytes 1 st⟩
  | .adjustTest t st p e =>
    ⟨0x24, t, leBytes 1 st ++ leBytes 1 p.present ++ leBytes 2 p.val ++ leBytes 1 e.present ++ leBytes 1 e.val⟩
  | .getStation t st => ⟨0x25, t, leBytes 1 st⟩
  | .setCalibration t sel z sp sg inv =>
    ⟨0x28, t, leBytes 1 sel ++ leSigned 2 z ++ leBytes 2 sp ++ leBytes 1 sg ++ leBytes 1 inv⟩
  | .getCalibration t sel => ⟨0x29, t, leBytes 1 sel⟩
  | .getInputs t p => ⟨0x2A, t, pageBytes p⟩
  | .getOutputs t p => ⟨0x2B, t, pageBytes p⟩
  | .getScan t p => ⟨0x2C, t, pageBytes p⟩
  | .setStations t a b c d => ⟨0x2D, t, leBytes 1 a ++ leBytes 1 b ++ leBytes 1 c ++ leBytes 1 d⟩
  | .getGuards t p => ⟨0x30, t, pageBytes p⟩
  | .getFaults t p => ⟨0x31, t, pageBytes p⟩
  | .clearFault t g c => ⟨0x32, t, leBytes 1 g ++ leBytes 1 c⟩
  | .clearGroup t g => ⟨0x33, t, leBytes 1 g⟩
  | .runSelftest t g => ⟨0x34, t, leBytes 1 g⟩
  | .clearEmergency t => ⟨0x35, t, []⟩
  | .winchRun t a => ⟨0x38, t, leBytes 2 a⟩
  | .winchStop t => ⟨0x39, t, []⟩
  | .getWinch t p => ⟨0x3A, t, pageBytes p⟩
  | .assignPort t p a => ⟨0x40, t, leBytes 1 p ++ leBytes 2 a⟩
  | .releasePort t p => ⟨0x41, t, leBytes 1 p⟩
  | .groutRequest t a => ⟨0x42, t, leBytes 2 a⟩
  | .groutCancel t a => ⟨0x43, t, leBytes 2 a⟩
  | .groutStop t => ⟨0x44, t, []⟩
  | .groutPause t => ⟨0x45, t, []⟩
  | .groutResume t => ⟨0x46, t, []⟩
  | .getGrout t p => ⟨0x47, t, pageBytes p⟩
  | .setPoint t p k l m => ⟨0x48, t, leBytes 1 p ++ leBytes 1 k ++ leBytes 2 l ++ leBytes 2 m⟩
  | .baseline t p a => ⟨0x49, t, leBytes 1 p ++ leBytes 1 a⟩
  | .getPoints t p => ⟨0x4A, t, pageBytes p⟩
  | .getRows t p => ⟨0x4B, t, pageBytes p⟩
  | .closeAnchor t a => ⟨0x50, t, leBytes 2 a⟩
  | .readArchive t n p => ⟨0x51, t, leBytes 4 n ++ leBytes 1 p⟩
  | .readReadings t n f => ⟨0x52, t, leBytes 4 n ++ leBytes 1 f⟩
  | .markExported t b => ⟨0x53, t, leBytes 1 b⟩
  | .eraseOldest t => ⟨0x54, t, []⟩
  | .getArchive t p => ⟨0x55, t, pageBytes p⟩
  | .setLimits t items => ⟨0x58, t, itemBytes items⟩
  | .getLimits t p => ⟨0x59, t, pageBytes p⟩
  | .lockLimits t => ⟨0x5B, t, []⟩
  | .setSettings t items => ⟨0x5C, t, itemBytes items⟩
  | .getSettings t p => ⟨0x5D, t, pageBytes p⟩
  | .setTime t v => ⟨0x5E, t, leBytes 4 v⟩
  | .getTime t p => ⟨0x5F, t, pageBytes p⟩
  | .setTag t w v => ⟨0x60, t, leBytes 1 w ++ leBytes 4 v⟩
  | .getTags t p => ⟨0x61, t, pageBytes p⟩
  | .unknownKind k t b => ⟨k, t, b⟩
  | .byteReceived _ _ | .receiverGap | .replySent | .linkWatchExpiry | .powerReset _ _ | .pinReset | .startUpEnd _
  | .emergencyFallingEdge _ | .sample _ _ _ | .holdEnd _ | .creepReading _ | .rampTimeout _ | .wholeSecond _
  | .releaseDutyEnd _ | .seatPulseEnd _ | .encoderEdge _ _ | .drumPulse _ | .flowPulse _ | .noFlowTime | .noFlow
  | .siteMinute | .scanComplete _ _ | .jackOverloadTrip _ | .groutRefusalTrip | .groutOverpressureTrip | .winchJamTrip
  | .winchSlackTrip | .neighbourRiseTrip _ _ | .wallTiltTrip _ | .selftestFail _ | .brakeIntervalExpiry
  | .arbiterServe | .valveTravelEnd _ | .pauseExpired | .appendEnd _ | .eraseEnd _ | .emergencyLineRise _
  | .pwmPeriodStart | .siteClockSecond | .resetPinRelease => ⟨0, 0, []⟩

/-! ## The BODY of a request, read -/

/-- R186: the items of an AMEND body; none where they do not end exactly at its end. -/
def amendItems : Nat → List Byte → Option (List AmendItem)
  | 0, [] => some []
  | 0, _ :: _ => none
  | _ + 1, [] => none
  | n + 1, i :: rest =>
    if i.toNat = 18 then
      if rest.length < 9 then none
      else (amendItems n (rest.drop 9)).map fun l =>
        .neighbours (u8At rest 0) [u16At rest 1, u16At rest 3, u16At rest 5, u16At rest 7] :: l
    else if rest.length < 4 then none
    else (amendItems n (rest.drop 4)).map fun l => .value i.toNat (u32At rest 0) :: l

/-- R186: the items of SET_LIMITS and SET_SETTINGS. -/
def limitItems : Nat → List Byte → List (Nat × Nat)
  | 0, _ => []
  | n + 1, b => (u8At b 0, u32At b 1) :: limitItems n (b.drop 5)

/-- R186: the steps of LOAD_PLAN. -/
def planSteps : Nat → List Byte → List RawStep
  | 0, _ => []
  | n + 1, b =>
    { kind := u8At b 0, target := u16At b 1, hold := u16At b 3, ext := u8At b 5 } :: planSteps n (b.drop 6)

/-- R186 check 2: the BODY length is right for its rule. -/
def lengthOk (r : LengthRule) (b : List Byte) : Bool :=
  match r with
  | .fixed n => b.length == n
  | .paged => decide (b.length ≤ 1)
  | .amend => decide (3 ≤ b.length) && (amendItems (u8At b 2) (b.drop 3)).isSome
  | .plan => decide (2 ≤ b.length) && b.length == 2 + 6 * u8At b 1
  | .items => decide (1 ≤ b.length) && b.length == 1 + 5 * u8At b 0

/-- The page of a paged query (R188). -/
def pageOf (b : List Byte) : Option Nat := if b = [] then none else some (u8At b 0)

/-- A DECLARE body read. -/
def declareOf (b : List Byte) : DeclareBody where
  id := u16At b 0
  row := u8At b 2
  lFree := u16At b 3
  lBond := u16At b 5
  area := u16At b 7
  modulus := u32At b 9
  pw := u16At b 13
  pp := u16At b 15
  pa := u16At b 17
  plo := u16At b 19
  volCap := u32At b 21
  refusal := u16At b 25
  passes := u8At b 27
  postInterval := u8At b 28
  postVolCap := u32At b 29
  postRefusal := u16At b 33
  cure := u16At b 35
  nbrCount := u8At b 37
  nbrIds := [u16At b 38, u16At b 40, u16At b 42, u16At b 44]

/-- The request of a frame whose kind is known and whose length is right (R186, R193). -/
def requestOf (f : Frame) : Instr :=
  let t := f.tag
  let b := f.body
  match f.kind with
  | 0x01 => .identify t
  | 0x02 => .reset t
  | 0x03 => .resumeLink t
  | 0x04 => .takeNotice t
  | 0x05 => .getNotices t (pageOf b)
  | 0x06 => .setNoticeLevel t (u8At b 0) (u8At b 1)
  | 0x10 => .declare t (declareOf b)
  | 0x11 => .amend t (u16At b 0) ((amendItems (u8At b 2) (b.drop 3)).getD [])
  | 0x12 => .void t (u16At b 0)
  | 0x13 => .getAnchor t (u16At b 0) (u8At b 2) (u8At b 3)
  | 0x14 => .listAnchors t (u8At b 0)
  | 0x18 => .loadPlan t (u8At b 0) (planSteps (u8At b 1) (b.drop 2))
  | 0x19 => .getPlan t (u8At b 0)
  | 0x20 => .startTest t (u8At b 0) (u16At b 1) (u8At b 3)
  | 0x21 => .holdTest t (u8At b 0)
  | 0x22 => .resumeTest t (u8At b 0) (u8At b 1)
  | 0x23 => .abortTest t (u8At b 0)
  | 0x24 => .adjustTest t (u8At b 0) ⟨u8At b 1, u16At b 2⟩ ⟨u8At b 4, u8At b 5⟩
  | 0x25 => .getStation t (u8At b 0)
  | 0x28 => .setCalibration t (u8At b 0) (i16At b 1) (u16At b 3) (u8At b 5) (u8At b 6)
  | 0x29 => .getCalibration t (u8At b 0)
  | 0x2A => .getInputs t (pageOf b)
  | 0x2B => .getOutputs t (pageOf b)
  | 0x2C => .getScan t (pageOf b)
  | 0x2D => .setStations t (u8At b 0) (u8At b 1) (u8At b 2) (u8At b 3)
  | 0x30 => .getGuards t (pageOf b)
  | 0x31 => .getFaults t (pageOf b)
  | 0x32 => .clearFault t (u8At b 0) (u8At b 1)
  | 0x33 => .clearGroup t (u8At b 0)
  | 0x34 => .runSelftest t (u8At b 0)
  | 0x35 => .clearEmergency t
  | 0x38 => .winchRun t (u16At b 0)
  | 0x39 => .winchStop t
  | 0x3A => .getWinch t (pageOf b)
  | 0x40 => .assignPort t (u8At b 0) (u16At b 1)
  | 0x41 => .releasePort t (u8At b 0)
  | 0x42 => .groutRequest t (u16At b 0)
  | 0x43 => .groutCancel t (u16At b 0)
  | 0x44 => .groutStop t
  | 0x45 => .groutPause t
  | 0x46 => .groutResume t
  | 0x47 => .getGrout t (pageOf b)
  | 0x48 => .setPoint t (u8At b 0) (u8At b 1) (u16At b 2) (u16At b 4)
  | 0x49 => .baseline t (u8At b 0) (u8At b 1)
  | 0x4A => .getPoints t (pageOf b)
  | 0x4B => .getRows t (pageOf b)
  | 0x50 => .closeAnchor t (u16At b 0)
  | 0x51 => .readArchive t (u32At b 0) (u8At b 4)
  | 0x52 => .readReadings t (u32At b 0) (u8At b 4)
  | 0x53 => .markExported t (u8At b 0)
  | 0x54 => .eraseOldest t
  | 0x55 => .getArchive t (pageOf b)
  | 0x58 => .setLimits t (limitItems (u8At b 0) (b.drop 1))
  | 0x59 => .getLimits t (pageOf b)
  | 0x5B => .lockLimits t
  | 0x5C => .setSettings t (limitItems (u8At b 0) (b.drop 1))
  | 0x5D => .getSettings t (pageOf b)
  | 0x5E => .setTime t (u32At b 0)
  | 0x5F => .getTime t (pageOf b)
  | 0x60 => .setTag t (u8At b 0) (u32At b 1)
  | 0x61 => .getTags t (pageOf b)
  | _ => .unknownKind f.kind t b

/-! ## Frames on the line (section 11.1) -/

/-- The bytes the CRC is formed over: LEN, KIND, TAG and BODY. -/
def coveredBytes (kind tag : Nat) (body : List Byte) : List Byte :=
  BitVec.ofNat 8 (body.length + 2) :: BitVec.ofNat 8 kind :: BitVec.ofNat 8 tag :: body

/-- A frame as it travels: SYNC, LEN, KIND, TAG, BODY, CRC low byte first. -/
def lineBytes (kind tag : Nat) (body : List Byte) : List Byte :=
  let c := crc (coveredBytes kind tag body)
  Config.sync :: coveredBytes kind tag body ++ [crcLow c, crcHigh c]

/-- A request frame on the line. -/
def Frame.lineBytes (f : Frame) : List Byte := Machine.lineBytes f.kind f.tag f.body

/-! ## Replies (R187, R188) -/

/-- What a block answers: response code, detail, reply fields. -/
structure Answer where
  code : Resp
  detail : Nat
  fields : List WField
  deriving DecidableEq, Repr, Inhabited

/-- An answer with no reply fields. -/
def Answer.plain (code : Resp) (detail : Nat := 0) : Answer := { code := code, detail := detail, fields := [] }

/-- OK with reply fields. -/
def Answer.reply (fields : List WField) : Answer := { code := .ok, detail := 0, fields := fields }

/-- R187: the state code of a stressing station. -/
def StnState.code : StnState → Nat
  | .idle => 0 | .ramping => 1 | .holding => 2 | .seating => 3 | .releasing => 4 | .seeking => 5 | .held => 6
  | .fault => 7 | .unloading => 8 | .selftest => 9

/-- R187: the state code of W. -/
def WinchState.code : WinchState → Nat
  | .idle => 0 | .paying => 1 | .stopping => 2 | .selftest => 9

/-- R187: the state code of G. -/
def GroutState.code : GroutState → Nat
  | .idle => 0 | .starting => 1 | .pumping => 2 | .paused => 3 | .ending => 4 | .selftest => 9

/-- R193, R30: the state of a stressing station in a reply field, from 1 in the order R30 lists the states. -/
def StnState.listed : StnState → Nat
  | .idle => 1 | .ramping => 2 | .holding => 3 | .seating => 4 | .releasing => 5 | .seeking => 6 | .held => 7
  | .fault => 8 | .unloading => 9 | .selftest => 10

/-- R193, R116: the state of W in a reply field. -/
def WinchState.listed : WinchState → Nat
  | .idle => 1 | .paying => 2 | .stopping => 3 | .selftest => 4

/-- R193, R136: the state of G in a reply field. -/
def GroutState.listed : GroutState → Nat
  | .idle => 1 | .starting => 2 | .pumping => 3 | .paused => 4 | .ending => 5 | .selftest => 6

/-- R187: the status block of a reply formed in a state. -/
def State.status (s : State) (a : Answer) : Status where
  code := a.code
  comb := s.faults.comb
  emergency := s.faults.emergency.set
  linkLost := s.link.lost
  limitsLocked := s.site.locked
  trip := s.faults.trip
  attn := s.attn
  overflow := s.notices.overflow
  overrun := s.link.overrun
  clockValid := s.site.clockValid
  s1 := if s.site.enables.s1 then s.s1.state.code else 15
  s2 := if s.site.enables.s2 then s.s2.state.code else 15
  w := if s.site.enables.w then s.winch.state.code else 15
  g := if s.site.enables.g then s.grout.state.code else 15
  pendingCount := s.notices.entries.length
  detail := a.detail

/-- R187: the eight bytes of a status block. -/
def Status.bytes (b : Status) : List Byte :=
  let flags := b.emergency.toNat + 2 * b.linkLost.toNat + 4 * b.limitsLocked.toNat + 8 * b.trip.toNat +
    16 * b.attn.toNat + 32 * b.overflow.toNat + 64 * b.overrun.toNat + 128 * b.clockValid.toNat
  leBytes 1 b.code.code ++ leBytes 1 b.comb.toNat ++ leBytes 1 flags ++ leBytes 1 (b.s1 + 16 * b.s2) ++
    leBytes 1 (b.w + 16 * b.g) ++ leBytes 1 b.pendingCount ++ leBytes 2 b.detail

/-- R186: the bytes of a reply as the part sends it. -/
def Reply.lineBytes (r : Reply) : List Byte :=
  Machine.lineBytes r.kind r.tag (r.status.bytes ++ r.fields.flatMap WField.bytes)

/-- R188: fields put on pages in order, no page above 230 bytes: `cur` is the page being filled, `room` what it can
still take. -/
def paginate : List WField → List WField → Nat → List (List WField)
  | [], cur, _ => [cur]
  | f :: fs, cur, room =>
    if f.width ≤ room then paginate fs (cur ++ [f]) (room - f.width)
    else cur :: paginate fs [f] (Config.pageBytes - f.width)

/-- R188: the answer of a paged query over a snapshot. -/
def paged (page : Option Nat) (fields : List WField) : Answer :=
  let pages := paginate fields [] Config.pageBytes
  let p := page.getD 0
  match pages[p]? with
  | some fs => .reply (.u8 p :: .u8 pages.length :: fs)
  | none => .plain .outOfRange 1

end Sys2Proof.Machine
end

