-- ==== Sys2Proof/Machine/Request.lean ====
section
/-! DEFINITION. How a request is taken and answered: the input queue (R185), the gate of LINK_LOST (R190), the reply
(R186), the link watch (R189). -/

namespace Sys2Proof.Machine

/-- What the owning block does with a request: its change of the state and its answer (R186 check 4). -/
abbrev Act := State → State × Answer

/-- R186: a request refused by its own checks changes nothing. -/
def refuse (s : State) (code : Resp) (detail : Nat := 0) : State × Answer := (s, .plain code detail)

/-- R186: a request served. -/
def accept (s : State) (a : Answer := .plain .ok) : State × Answer := (s, a)

/-- R189, R196: the seconds of a link watch window setting; none for OFF. -/
def windowSeconds : Nat → Option Nat
  | 1 => some 2 | 2 => some 5 | 3 => some 20 | 4 => some 60 | _ => none

/-- R189: the watch started with the window of the settings, or stopped when it is OFF. -/
def State.watchFromSettings (s : State) : Watch :=
  match windowSeconds s.site.settings.linkWindow with
  | some w => .running w
  | none => .stopped

/-- R189: a valid frame restarts a running watch with the full window. -/
def State.restartWatch (s : State) : State :=
  match s.link.watch with
  | .stopped => s
  | .running _ => { s with link := { s.link with watch := s.watchFromSettings } }

/-- R185, R186: a reply is formed from the state as it stands and its transmission begins; the overrun latch shows in it
and is cleared. The next reply draws free values of its own (log 31). -/
def State.formReply (s : State) (kind tag : Nat) (a : Answer) : State :=
  { s with
    link :=
      { s.link with reply := some { kind := kind, tag := tag, status := s.status a, fields := a.fields },
                    overrun := false }
    draws := s.draws + 1 }

/-- R186 checks 3 and 4, and the reply: the gate of LINK_LOST, then the request's own checks and change. -/
def State.answer (s : State) (kind tag : Nat) (act : Act) : State :=
  if s.link.lost && !servedWhenLost kind then s.formReply (kind + 0x80) tag (.plain .linkLost)
  else
    let r := act s
    r.1.formReply (kind + 0x80) tag r.2

/-- R185: no reply is being sent and no frame waits. -/
def State.linkFree (s : State) : Bool := s.link.reply.isNone && s.link.queue.isEmpty

/-- R184, R185: a good frame completes. It restarts the watch when its kind is known; it joins the queue where there is
room, and is taken at once when no reply is being sent; a third frame is discarded and sets the overrun latch. Before
start-up ends it is discarded without a trace (R192). -/
def State.frameArrives (s : State) (f : Frame) (take : State → State) : State :=
  if s.phase ≠ .running then s
  else
    let s := if knownKind f.kind then s.restartWatch else s
    if Config.inputFrames ≤ s.link.queue.length then { s with link := { s.link with overrun := true } }
    else
      let joined := { s with link := { s.link with queue := s.link.queue ++ [f] } }
      if s.linkFree then take joined else joined

/-- A request command: the frame of request `i` completes on the link, and its block acts by `act` when it is taken. -/
def State.request (s : State) (i : Instr) (act : Act) : Host.Outcome State Fault Refusal :=
  .next (s.frameArrives (frameOf i) fun s => s.answer (frameOf i).kind (frameOf i).tag act)

/-- An event of the rig or of a timer: it has its effect while the part runs, and none through start-up or in reset. -/
def State.event (s : State) (f : State → State) : Host.Outcome State Fault Refusal :=
  .next (if s.phase = .running then f s else s)

/-- The refusal of the first check that fails. -/
def firstRefusal (checks : List (Bool × Resp × Nat)) : Option (Resp × Nat) :=
  (checks.find? fun c => !c.1).map (·.2)

/-- R193: a set/clear field or presence byte outside its codes. -/
def badFlag (n : Nat) : Bool := decide (1 < n)

end Sys2Proof.Machine
end

