-- ==== Sys2Proof/Machine/Notices.lean ====
section
/-! DEFINITION. The Notice Unit's requests (spec 10): TAKE_NOTICE, GET_NOTICES, SET_NOTICE_LEVEL. -/

namespace Sys2Proof.Machine

/-- R180: an entry that can be chosen: no acknowledged condition, and not LINK_LOST while that state is set. -/
def State.takeable (s : State) (n : Notice) : Bool := !n.acked && !(s.link.lost && n.kind == .linkLost)

/-- R178: the present level of an entry, as a rank. -/
def State.rankOf (s : State) (n : Notice) : Nat := (s.notices.level n.kind).rank

/-- R180: the greatest rank among the entries that can be chosen. -/
def State.bestRank (s : State) : Nat :=
  (s.notices.entries.filter s.takeable).foldl (fun m n => max m (s.rankOf n)) 0

/-- R180: the place of the entry TAKE_NOTICE chooses: the oldest of the highest level. -/
def State.chosen (s : State) : Option Nat :=
  s.notices.entries.findIdx? fun n => s.takeable n && s.rankOf n == s.bestRank

/-- R175, R178: the code of a level. -/
def Level.code (l : Level) : Nat := l.rank

/-- R175, R180: an entry's fields and its level. An EVENT entry, which R175 gives no acknowledged field, shows it clear
(DESIGN CHOICE, log 11). -/
def noticeFields (level : Level) (n : Notice) : List WField :=
  [.u8 n.kind.code, .u8 n.origin.code] ++ WField.opt (fun a => [.u16 a]) n.anchor ++ [.u16 n.detail] ++
  WField.opt (fun t => [.u32 t]) n.time ++
  [.u8 n.again, .u8 (if n.kind.isCondition then 2 else 1), .flag n.acked, .u8 level.code]

/-- R180: an event that is taken leaves the set; a condition is acknowledged. -/
def takeEntry (l : List Notice) (i : Nat) (n : Notice) : List Notice :=
  if n.kind.isCondition then l.set i { n with acked := true } else l.eraseIdx i

/-- R180: a set of fewer than 32 entries clears NOTICE_OVERFLOW (log 30). -/
def NoticeUnit.settle (u : NoticeUnit) : NoticeUnit :=
  { u with overflow := u.overflow && decide (Config.maxNotices ≤ u.entries.length) }

/-- R180. -/
def actTakeNotice (s : State) : State × Answer :=
  match s.chosen.bind fun i => s.notices.entries[i]?.map fun n => (i, n) with
  | none => accept { s with notices := s.notices.settle } (.reply [.u8 0])
  | some (i, n) =>
    let u := { s.notices with entries := takeEntry s.notices.entries i n }
    accept { s with notices := u.settle } (.reply (.u8 1 :: noticeFields (s.notices.level n.kind) n))

/-- TAKE_NOTICE. -/
def execTakeNotice (tag : Nat) (s : State) : Host.Outcome State Fault Refusal := s.request (.takeNotice tag) actTakeNotice

/-- R181: entries by level from HIGH down, and in joining order within a level. -/
def State.byLevel (s : State) (l : List Notice) : List Notice :=
  [3, 2, 1, 0].flatMap fun r => l.filter fun n => s.rankOf n == r

/-- R181: the set in the order TAKE_NOTICE would return it, the entries it passes over listed after the rest (log 15). -/
def State.listed (s : State) : List Notice :=
  s.byLevel (s.notices.entries.filter s.takeable) ++ s.byLevel (s.notices.entries.filter fun n => !s.takeable n)

/-- R181. ATTN is asserted 1 or deasserted 2 (DESIGN CHOICE, log 11). -/
def noticeSetFields (s : State) : List WField :=
  WField.list (fun n => noticeFields (s.notices.level n.kind) n) s.listed ++
  s.notices.levels.map (fun l => .u8 l.code) ++ [.u8 s.notices.floor.code, .flag s.notices.overflow, .either s.attn]

/-- R181. -/
def actGetNotices (page : Option Nat) (s : State) : State × Answer := accept s (paged page (noticeSetFields s))

/-- GET_NOTICES. -/
def execGetNotices (tag : Nat) (page : Option Nat) (s : State) : Host.Outcome State Fault Refusal :=
  s.request (.getNotices tag page) (actGetNotices page)

/-- R178: a kind's level written; a kind set to OFF loses its pending entries. -/
def NoticeUnit.setLevel (u : NoticeUnit) (code : Nat) (l : Level) : NoticeUnit :=
  { u with
    levels := u.levels.set (code - 1) l
    entries := if l = .off then u.entries.filter fun n => n.kind.code != code else u.entries }

/-- R178. -/
def actSetNoticeLevel (selector level : Nat) (s : State) : State × Answer :=
  if 16 < selector then refuse s .outOfRange 1
  else
    match Level.ofCode level with
    | none => refuse s .outOfRange 2
    | some l =>
      if (selector = 0 ∧ l = .off) ∨ ((selector = 10 ∨ selector = 11) ∧ l ≠ .high) then refuse s .outOfRange 2
      else if selector = 0 then accept { s with notices := { s.notices with floor := l } }
      else accept { s with notices := s.notices.setLevel selector l }

/-- SET_NOTICE_LEVEL. -/
def execSetNoticeLevel (tag selector level : Nat) (s : State) : Host.Outcome State Fault Refusal :=
  s.request (.setNoticeLevel tag selector level) (actSetNoticeLevel selector level)

end Sys2Proof.Machine
end

