-- ==== Sys2Proof/Machine/Operands.lean ====
section
/-! DEFINITION. The checks that request fields go through: ranges of declaration fields (R3), neighbour lists (R5), load
relations (R4), plan steps and shapes (R23, R25), limits and settings by index (R194, R196), and the reply fields shared
by several requests (R15, R169). -/

namespace Sys2Proof.Machine

/-- The index beside the first check of a list that fails. -/
def firstFailure (checks : List (Bool × Nat)) : Option Nat := (checks.find? fun c => !c.1).map (·.2)

/-- Whether a value lies in a range. -/
def inRange (lo hi v : Nat) : Bool := decide (lo ≤ v ∧ v ≤ hi)

/-! ## Declaration fields -/

/-- R3: whether a value of a numeric declaration field, 1 to 17, lies in its range under the limits in force. -/
def fieldInRange (l : Limits) : Nat → Nat → Bool
  | 1, v => inRange 1 65000 v
  | 2, v => inRange 1 8 v
  | 3, v => inRange 300 4000 v
  | 4, v => inRange 300 2000 v
  | 5, v => inRange 100 5000 v
  | 6, v => inRange 150000 210000 v
  | 7, v => inRange 100 20000 v
  | 8, v => inRange 100 30000 v
  | 9, v => inRange 50 30000 v
  | 10, v => inRange 1 30000 v
  | 11, v => inRange 1000 5000000 v
  | 12, v => inRange 100 l.maxPressure v
  | 13, v => inRange 0 3 v
  | 14, v => inRange 4 48 v
  | 15, v => inRange 1000 5000000 v
  | 16, v => inRange 100 l.maxPressure v
  | 17, v => inRange l.minCure 720 v
  | _, _ => false

/-- R5: whether a neighbour list is acceptable for an anchor; the places beyond the count are ignored. -/
def neighboursOk (self count : Nat) (ids : List Nat) : Bool :=
  let l := ids.take count
  decide (count ≤ 4) && l.all (fun i => inRange 1 65000 i && i != self) && decide l.Nodup

/-- R10 check 3: the index of the first DECLARE field outside its range. -/
def declareFailure (l : Limits) (d : DeclareBody) : Option Nat :=
  let skip := d.passes == 0
  firstFailure
    [(fieldInRange l 1 d.id, 1), (fieldInRange l 2 d.row, 2), (fieldInRange l 3 d.lFree, 3),
     (fieldInRange l 4 d.lBond, 4), (fieldInRange l 5 d.area, 5), (fieldInRange l 6 d.modulus, 6),
     (fieldInRange l 7 d.pw, 7), (fieldInRange l 8 d.pp, 8), (fieldInRange l 9 d.pa, 9),
     (fieldInRange l 10 d.plo, 10), (fieldInRange l 11 d.volCap, 11), (fieldInRange l 12 d.refusal, 12),
     (fieldInRange l 13 d.passes, 13), (skip || fieldInRange l 14 d.postInterval, 14),
     (skip || fieldInRange l 15 d.postVolCap, 15), (skip || fieldInRange l 16 d.postRefusal, 16),
     (fieldInRange l 17 d.cure, 17), (neighboursOk d.id d.nbrCount d.nbrIds, 18)]

/-- R11: the declaration a DECLARE body gives. -/
def declOf (d : DeclareBody) : Decl where
  id := d.id
  row := d.row
  lFree := d.lFree
  lBond := d.lBond
  area := d.area
  modulus := d.modulus
  pw := d.pw
  pp := d.pp
  pa := d.pa
  plo := d.plo
  volCap := d.volCap
  refusal := d.refusal
  passes := d.passes
  post :=
    if d.passes = 0 then none
    else some { interval := d.postInterval, volCap := d.postVolCap, refusal := d.postRefusal }
  cure := d.cure
  neighbours := d.nbrIds.take d.nbrCount

/-- R4: the index of the first load relation that fails, under the limits and settings in force. -/
def relationFailure (site : Site) (d : Decl) : Option Nat :=
  let l := site.limits
  let t := site.settings
  firstFailure
    [(decide (d.pw ≤ d.pp), 8),
     ((site.enables.s1 && decide (d.pp ≤ l.rating1)) || (site.enables.s2 && decide (d.pp ≤ l.rating2)), 8),
     (decide (d.pa < d.pp), 9),
     (decide (d.pa ≤ d.pp / 5), 9),
     (decide (d.pa < d.plo), 10),
     (decide (lockTargetOf d.plo t.overdrive ≤ d.pp), 10),
     (decide (liftCapOf d.plo l.liftTol t.loadTol ≤ d.pp), 10)]

/-! ## Plans -/

/-- R24 check 5: a step whose kind is known and whose used fields lie in their ranges. -/
def planStepOf (r : RawStep) : Option PlanStep :=
  match StepKind.ofCode r.kind with
  | none => none
  | some k =>
    let holdOk := decide (r.hold ≤ 3600)
    let ok :=
      match k with
      | .datum | .unload => holdOk
      | .load => inRange 1 1000 r.target && holdOk
      | .creep => !badFlag r.ext
      | .lockoff | .liftoff => true
    if ok then some { kind := k, target := r.target, hold := r.hold, ext := r.ext } else none

/-- R24 check 5: the steps read in order, or the index of the first that is refused. -/
def planStepsOf : Nat → List RawStep → Except Nat (List PlanStep)
  | _, [] => .ok []
  | i, r :: rs =>
    match planStepOf r with
    | none => .error i
    | some t =>
      match planStepsOf (i + 1) rs with
      | .error e => .error e
      | .ok l => .ok (t :: l)

/-- R25: the place a full plan has reached in its pattern. After CREEP the target of the last LOAD is kept. -/
inductive ShapePlace where
  | start | beforeCreep | afterCreep (last : Option Nat) | lockoff | liftoff | done
  deriving DecidableEq, Repr

/-- R25: whether a step can continue the pattern at a place, and the place after it. -/
def ShapePlace.next : ShapePlace → PlanStep → Option ShapePlace
  | .start, t => if t.kind = .datum then some .beforeCreep else none
  | .beforeCreep, t =>
    match t.kind with
    | .load => some .beforeCreep
    | .creep => some (.afterCreep none)
    | _ => none
  | .afterCreep last, t =>
    match t.kind with
    | .load => if (match last with | none => true | some v => decide (t.target ≤ v)) then some (.afterCreep (some t.target)) else none
    | .unload => some .lockoff
    | _ => none
  | .lockoff, t => if t.kind = .lockoff then some .liftoff else none
  | .liftoff, t => if t.kind = .liftoff then some .done else none
  | .done, _ => none

/-- R25: the index at which a full plan departs from its pattern; none where it fits. -/
def fullFailure : Nat → ShapePlace → List PlanStep → Option Nat
  | i, p, [] => if p = .done then none else some i
  | i, p, t :: ts =>
    match p.next t with
    | none => some i
    | some p' => fullFailure (i + 1) p' ts

/-- R25: the shape of a plan, or the index at which it departs. -/
def shapeOf (steps : List PlanStep) : Except Nat PlanShape :=
  match steps with
  | [] => .error 1
  | t :: rest =>
    if t.kind = .lockoff then
      match rest with
      | [] => .error 2
      | u :: more => if u.kind ≠ .liftoff then .error 2 else if more = [] then .ok .relock else .error 3
    else
      match fullFailure 1 .start steps with
      | some i => .error i
      | none => .ok .full

/-! ## Limits and settings by index -/

/-- R194: whether a value lies in the range of a limit. -/
def limitInRange : Nat → Nat → Bool
  | 1, v | 2, v => inRange 100 30000 v
  | 3, v => inRange 1 1000 v
  | 4, v => inRange 100 10000 v
  | 5, v | 6, v | 7, v | 8, v | 9, v | 10, v | 11, v | 12, v => inRange 0 60000 v
  | 13, v => inRange 1 720 v
  | 14, v => inRange 1 5000 v
  | 15, v => inRange 50 100 v
  | 16, v => inRange 0 100 v
  | 17, v => inRange 10 100 v
  | 18, v => decide (v < 2 ^ 20)
  | 19, v => decide (v < 2 ^ 6)
  | _, _ => false

/-- R194: a limit written by its index. -/
def Limits.write (l : Limits) (index v : Nat) : Limits :=
  match index with
  | 1 => { l with rating1 := v }
  | 2 => { l with rating2 := v }
  | 3 => { l with rateLimit := v }
  | 4 => { l with maxPressure := v }
  | 5 | 6 | 7 | 8 | 9 | 10 | 11 | 12 => { l with ceilings := l.ceilings.set (index - 5) v }
  | 13 => { l with minCure := v }
  | 14 => { l with creepLimit := v }
  | 15 => { l with loPct := v }
  | 16 => { l with hiPct := v }
  | 17 => { l with liftTol := v }
  | 18 => { l with combMask := BitVec.ofNat 20 v }
  | 19 => { l with tripMask := BitVec.ofNat 6 v }
  | _ => l

/-- R196: whether a value lies in the range of a setting. -/
def settingInRange : Nat → Nat → Bool
  | 1, v => inRange 1 500 v
  | 2, v | 3, v => inRange 1 1000 v
  | 4, v => inRange 0 20 v
  | 5, v => inRange 1000 30000 v
  | 6, v => inRange 0 5000 v
  | 7, v => inRange 1 2000 v
  | 8, v => inRange 0 100 v
  | 9, v => inRange 1 30 v
  | 10, v => inRange 60 1800 v
  | 11, v => inRange 5 300 v
  | 12, v => inRange 1 255 v
  | 13, v => inRange 1 30000 v
  | 14, v => inRange 1 2000 v
  | 15, v => inRange 0 2000 v
  | 16, v => inRange 0 300 v
  | 17, v => inRange 1 10000 v
  | 18, v => inRange 1 1000 v
  | 19, v | 20, v | 21, v | 22, v | 23, v | 24, v | 25, v => inRange 1 32 v
  | 26, v | 27, v | 28, v | 29, v => inRange 0 3 v
  | 30, v => inRange 0 4 v
  | _, _ => false

/-- R196: a setting written by its index. -/
def Settings.write (t : Settings) (index v : Nat) : Settings :=
  match index with
  | 1 => { t with loadTol := v }
  | 2 => { t with rampDemand := v }
  | 3 => { t with releaseDemand := v }
  | 4 => { t with topUpMax := v }
  | 5 => { t with stroke := v }
  | 6 => { t with strokeMargin := v }
  | 7 => { t with liftThreshold := v }
  | 8 => { t with overdrive := v }
  | 9 => { t with seatTime := v }
  | 10 => { t with pauseLimit := v }
  | 11 => { t with noFlowTime := v }
  | 12 => { t with leakLimit := v }
  | 13 => { t with nbrLimit := v }
  | 14 => { t with jamTension := v }
  | 15 => { t with slackTension := v }
  | 16 => { t with headAllowance := v }
  | 17 => { t with drumMm := v }
  | 18 => { t with quantum := v }
  | 19 => { t with nOverload := v }
  | 20 => { t with nRefusal := v }
  | 21 => { t with nOverpressure := v }
  | 22 => { t with nJam := v }
  | 23 => { t with nSlack := v }
  | 24 => { t with nNeighbour := v }
  | 25 => { t with nTilt := v }
  | 26 => { t with filterEnc1 := v }
  | 27 => { t with filterEnc2 := v }
  | 28 => { t with filterDrum := v }
  | 29 => { t with filterFlow := v }
  | 30 => { t with linkWindow := v }
  | _ => t

/-- R195, R196: the index of the first item that is out of its range, unknown or repeated. -/
def itemFailure (ok : Nat → Nat → Bool) : List Nat → List (Nat × Nat) → Option Nat
  | _, [] => none
  | seen, (i, v) :: rest => if ok i v && !seen.contains i then itemFailure ok (i :: seen) rest else some i

/-! ## Reply fields shared by requests -/

/-- R15 DECLARATION: fields 1 to 18 with the presence of 14 to 16. -/
def declFields (d : Decl) : List WField :=
  [.u16 d.id, .u8 d.row, .u16 d.lFree, .u16 d.lBond, .u16 d.area, .u32 d.modulus, .u16 d.pw, .u16 d.pp, .u16 d.pa,
   .u16 d.plo, .u32 d.volCap, .u16 d.refusal, .u8 d.passes] ++
  WField.opt (fun p => [.u8 p.interval]) d.post ++ WField.opt (fun p => [.u32 p.volCap]) d.post ++
  WField.opt (fun p => [.u16 p.refusal]) d.post ++ [.u16 d.cure] ++ WField.list (fun i => [.u16 i]) d.neighbours

/-- R193: the code of the interrupted field. -/
def Interrupted.code : Interrupted → Nat
  | .test => 1 | .grout => 2 | .close => 3

/-- R7: the winch result. -/
def winchResultFields (w : WinchResult) : List WField := [.u8 w.reason.code, .i32 w.paid, .u16 w.peak]

/-- R7: one entry of the pass list. -/
def passEntryFields (p : PassEntry) : List WField :=
  [.u8 p.kind.code, .u8 p.port, .u32 p.start] ++ WField.opt (fun t => [.u32 t]) p.endTime ++
  WField.opt (fun v => [.u32 v]) p.volume ++ WField.opt (fun v => [.u16 v]) p.peakPressure ++
  WField.opt (fun v => [.u16 v]) p.peakFlow ++ [.u8 p.reason.code]

/-- R15 INSTALLATION. -/
def installationFields (w : Option WinchResult) (passes : List PassEntry) : List WField :=
  WField.opt winchResultFields w ++ WField.list passEntryFields passes

/-- R193: a reason set, one bit for each reason in the order of R8. -/
def reasonBits (l : List Reason) : Nat :=
  (l.contains .creepExceeded).toNat + 2 * (l.contains .elasticNonpositive).toNat + 4 * (l.contains .lappLow).toNat +
  8 * (l.contains .lappHigh).toNat + 16 * (l.contains .lappClamped).toNat + 32 * (l.contains .liftoffLow).toNat +
  64 * (l.contains .liftoffHigh).toNat

/-- R8, R15 RESULT: the test result without its readings list. -/
def resultFields (r : TestResult) : List WField :=
  [.u8 r.stn.code, .u8 r.slot, .u8 r.shape.code, .u32 r.start] ++ WField.opt (fun t => [.u32 t]) r.endTime ++
  [.u8 r.endKind.code] ++ WField.opt (fun c => [.u8 c.code]) r.abort ++ [.flag r.seatDone] ++
  WField.opt (fun k => [.i32 k]) r.ksPrimary ++ WField.opt (fun k => [.i32 k]) r.ksExtended ++
  [.flag r.extendedUsed] ++ WField.opt (fun f => [.u16 f.lApp, .u16 f.lower, .u16 f.upper]) r.figures ++
  WField.opt (fun v => [.u16 v]) r.lockTarget ++ WField.opt (fun v => [.u16 v]) r.liftLoad ++
  WField.opt (fun v => [.u8 v.code]) r.verdict ++ [.u8 (reasonBits r.reasons)]

/-- R8: a reading. -/
def readingFields (r : Reading) : List WField :=
  [.u8 r.step, .u8 (if r.kind = .step then 1 else 2), .u16 r.due, .u16 r.load, .i16 r.disp, .u32 r.time]

/-- R8: the readings of an optional test result. -/
def readingsOf (r : Option TestResult) : List Reading := (r.map (·.readings)).getD []

/-- R15 READINGS, R169: up to 8 readings from a 1-based index, and the number held. -/
def readingPage (l : List Reading) (first : Nat) : List WField :=
  WField.list readingFields ((l.drop (first - 1)).take 8) ++ [.u8 l.length]

end Sys2Proof.Machine
end

