-- ==== Sys2Proof/Machine/Plans.lean ====
section
/-! DEFINITION. Requests of the Plan Table (section 2.1): LOAD_PLAN, GET_PLAN. -/

namespace Sys2Proof.Machine

/-- R24 check 2: the slot is the plan slot of a running test. -/
def State.slotInUse (s : State) (slot : Nat) : Bool :=
  s.s1.ctx.any (fun c => c.slot == slot) || s.s2.ctx.any (fun c => c.slot == slot)

/-- R23: a slot written. -/
def State.setPlan (s : State) (slot : Nat) (p : Option Plan) : State :=
  { s with plans := s.plans.set (slot - 1) p }

/-- R24. -/
def actLoadPlan (slot : Nat) (steps : List RawStep) (s : State) : State × Answer :=
  if !inRange 1 Config.planSlots slot then refuse s .outOfRange 1
  else if s.slotInUse slot then refuse s .busy
  else if 16 < steps.length then refuse s .planInvalid 17
  else if steps = [] then accept (s.setPlan slot none)
  else
    match planStepsOf 1 steps with
    | .error i => refuse s .planInvalid i
    | .ok l =>
      match shapeOf l with
      | .error i => refuse s .planInvalid i
      | .ok shape => accept (s.setPlan slot (some { shape := shape, steps := l })) (.plain .ok shape.code)

/-- LOAD_PLAN. -/
def execLoadPlan (tag slot : Nat) (steps : List RawStep) (s : State) : Host.Outcome State Fault Refusal :=
  s.request (.loadPlan tag slot steps) (actLoadPlan slot steps)

/-- R26: a step with its four fields as stored. -/
def planStepFields (t : PlanStep) : List WField := [.u8 t.kind.code, .u16 t.target, .u16 t.hold, .u8 t.ext]

/-- R26. An EMPTY slot is answered with shape 0 and step count 0 (DESIGN CHOICE, log 11). -/
def actGetPlan (slot : Nat) (s : State) : State × Answer :=
  if !inRange 1 Config.planSlots slot then refuse s .outOfRange 1
  else
    match s.plan slot with
    | none => accept s (.reply [.u8 1, .u8 0, .u8 0])
    | some p => accept s (.reply ([.u8 2, .u8 p.shape.code] ++ WField.list planStepFields p.steps))

/-- GET_PLAN. -/
def execGetPlan (tag slot : Nat) (s : State) : Host.Outcome State Fault Refusal :=
  s.request (.getPlan tag slot) (actGetPlan slot)

end Sys2Proof.Machine
end

