-- ==== Sys2Proof/Machine/Archiving.lean ====
section
/-! DEFINITION. The Test Record Archive (spec 09): CLOSE_ANCHOR, READ_ARCHIVE, READ_READINGS, MARK_EXPORTED, ERASE_OLDEST,
GET_ARCHIVE; APPEND_END, ERASE_END. -/

namespace Sys2Proof.Machine

/-! ## Closing (R165 to R168) -/

/-- R165: the record of an entry, formed just before its close is accepted. -/
def Record.of (e : Entry) (number slot time : Nat) : Record where
  number := number
  slot := slot
  closeTime := time
  closingStage := e.stage
  interruptedAtClose := e.interrupted
  decl := e.decl
  attempts := e.attempts
  counted := e.counted
  primaryEnd := e.primaryEnd
  postDone := e.postDone
  postDue := e.postDue
  winch := e.winch
  passes := e.passes
  result := e.result

/-- R163: the first slot of a block. -/
def isFirstSlot (slot : Nat) : Bool := slot % Config.blockSize == 1

/-- R164, R166: the next slot becomes WRITING, both counters advance, and the append starts. -/
def Archive.startAppend (a : Archive) (r : Record) : Archive :=
  let b := if isFirstSlot a.nextSlot then a.setBlock (blockOf a.nextSlot) .filling else a
  { b with
    slots := setSlot a.slots a.nextSlot (.writing r)
    nextNumber := a.nextNumber + 1
    nextSlot := a.nextSlot % Config.slotCount + 1
    activity := .appending r.decl.id a.nextNumber a.nextSlot }

/-- R166: the Register change of an accepted close. -/
def Entry.closing (e : Entry) : Entry := { e with prior := some e.stage, interrupted := none, stage := .closing }

/-- R166 check 2. -/
def Stage.closable : Stage → Bool
  | .locked | .rejected | .lockFault | .voided => true
  | _ => false

/-- R166, R173: an accepted CLOSE_ANCHOR. -/
def State.closeAnchor (s : State) (e : Entry) : State :=
  let r := Record.of e s.archive.nextNumber s.archive.nextSlot s.site.clock
  let s := s.modEntry e.decl.id Entry.closing
  let s := { s with archive := s.archive.startAppend r }
  if s.archive.isFull then s.notice .archiveFull .archive none (blockOf s.archive.nextSlot) else s

/-- R166. -/
def actCloseAnchor (anchor : Nat) (s : State) : State × Answer :=
  match s.entry anchor with
  | none => refuse s .noSuchAnchor
  | some e =>
    let a := s.archive
    match firstRefusal
        [(e.stage.closable, .wrongStage, 0), (s.site.clockValid, .clockUnset, 0), (a.activity == .idle, .busy, 0),
         (decide (a.nextNumber < Config.wordEnd), .archiveFull, 0), (!a.isFull, .archiveFull, blockOf a.nextSlot)] with
    | some r => refuse s r.1 r.2
    | none =>
      accept (s.closeAnchor e) { code := .accepted, detail := 0, fields := [.u32 a.nextNumber, .u16 a.nextSlot] }

/-- CLOSE_ANCHOR. -/
def execCloseAnchor (tag anchor : Nat) (s : State) : Host.Outcome State Fault Refusal :=
  s.request (.closeAnchor tag anchor) (actCloseAnchor anchor)

/-- R167, R168: the slot leaves WRITING; the block of a last slot becomes FULL. -/
def Archive.settle (a : Archive) (slot : Nat) (x : Slot) : Archive :=
  let b := if isLastSlot slot then a.setBlock (blockOf slot) .full else a
  { b with slots := setSlot a.slots slot x, activity := .idle }

/-- R19, R128, R148: an entry leaves the register, with its port and its place in the cure list. -/
def State.removeEntry (s : State) (id : Nat) : State :=
  { s with
    reg := s.reg.filter fun e => e.decl.id != id
    grout :=
      { s.grout with
        ports := s.grout.ports.map fun p => if p = some id then none else p
        cure := s.grout.cure.filter fun c => c != id } }

/-- R22, R168: a CLOSING entry returns to its prior stage. -/
def Entry.reopened (e : Entry) : Entry := { e with stage := e.prior.getD e.stage, prior := none }

/-- R167: an append completes. -/
def State.appendDone (s : State) (anchor slot : Nat) (r : Record) : State :=
  let s := { s with archive := s.archive.settle slot (.valid r) }.removeEntry anchor
  s.notice .archiveDone .archive (some anchor) 1

/-- R168: an append fails verification. -/
def State.appendTorn (s : State) (anchor number slot : Nat) : State :=
  let s := { s with archive := s.archive.settle slot (.torn number) }.modEntry anchor Entry.reopened
  (s.raise .archiveWrite).notice .archiveDone .archive (some anchor) 2

/-- APPEND_END: the read-back of the append agrees, or not (R167, R168; log 9). -/
def execAppendEnd (ok : Bool) (s : State) : Host.Outcome State Fault Refusal :=
  s.event fun s =>
    match s.archive.activity with
    | .appending anchor number slot =>
      match ok, slotAt s.archive.slots slot with
      | true, some (.writing r) => s.appendDone anchor slot r
      | _, _ => s.appendTorn anchor number slot
    | .idle | .erasing _ => s

/-! ## Reading (R169) -/

/-- R164: the slot a record number was assigned to, which follows from the counters: the number before the next one went to
the slot before the next one, and so back round the ring. None where the number has not been assigned. -/
def Archive.slotOf (a : Archive) (number : Nat) : Option Nat :=
  if 1 ≤ number ∧ number < a.nextNumber then
    some ((a.nextSlot + (Config.slotCount - 1) - (a.nextNumber - number) % Config.slotCount) % Config.slotCount + 1)
  else none

/-- R169 checks 2 and 3: a slot that another number has taken since, or none, was erased since. -/
def withRecord (s : State) (number : Nat) (k : Record → State × Answer) : State × Answer :=
  match s.archive.slotOf number with
  | none => refuse s .noSuchRecord
  | some slot =>
    if s.archive.block (blockOf slot) = .erasing then refuse s .busy
    else
      match slotAt s.archive.slots slot with
      | some (.valid r) => if r.number = number then k r else refuse s .noSuchRecord
      | _ => refuse s .noSuchRecord

/-- R193, R165: the closing stage in a reply field, from 1 in the order R165 lists it; a record holds no other stage. -/
def closingCode : Stage → Nat
  | .locked => 1 | .rejected => 2 | .lockFault => 3 | .voided => 4
  | .declared | .placed | .grouting | .grouted | .stressing | .closing => 0

/-- R169 SUMMARY. -/
def summaryFields (r : Record) : List WField :=
  [.u32 r.number, .u16 r.slot, .u32 r.closeTime, .u8 (closingCode r.closingStage)] ++
  WField.opt (fun i => [.u8 i.code]) r.interruptedAtClose ++
  [.u16 r.decl.id, .u8 r.decl.row, .u8 r.attempts, .flag r.counted] ++
  WField.opt (fun t => .u8 t.endKind.code :: WField.opt (fun v => [.u8 v.code]) t.verdict ++ [.u8 (reasonBits t.reasons)])
    r.result ++
  [.u8 r.passes.length, .u8 (readingsOf r.result).length]

/-- R169. -/
def recordPart (r : Record) : Nat → List WField
  | 1 => summaryFields r
  | 2 => declFields r.decl
  | 3 => installationFields r.winch r.passes
  | _ => WField.opt resultFields r.result ++ [.u8 (readingsOf r.result).length]

/-- R169. -/
def actReadArchive (number part : Nat) (s : State) : State × Answer :=
  if !inRange 1 4 part then refuse s .outOfRange 2
  else withRecord s number fun r => accept s (.reply (recordPart r part))

/-- READ_ARCHIVE. -/
def execReadArchive (tag number part : Nat) (s : State) : Host.Outcome State Fault Refusal :=
  s.request (.readArchive tag number part) (actReadArchive number part)

/-- R169. -/
def actReadReadings (number first : Nat) (s : State) : State × Answer :=
  if first = 0 then refuse s .outOfRange 2
  else withRecord s number fun r => accept s (.reply (readingPage (readingsOf r.result) first))

/-- READ_READINGS. -/
def execReadReadings (tag number first : Nat) (s : State) : Host.Outcome State Fault Refusal :=
  s.request (.readReadings tag number first) (actReadReadings number first)

/-! ## Export and erase (R170, R171) -/

/-- R170. -/
def actMarkExported (block : Nat) (s : State) : State × Answer :=
  if !inRange 1 Config.blockCount block then refuse s .outOfRange 1
  else
    match s.archive.block block with
    | .exported => accept s
    | .full => accept { s with archive := s.archive.setBlock block .exported }
    | b => refuse s .wrongStage b.code

/-- MARK_EXPORTED. -/
def execMarkExported (tag block : Nat) (s : State) : Host.Outcome State Fault Refusal :=
  s.request (.markExported tag block) (actMarkExported block)

/-- R171. -/
def actEraseOldest (s : State) : State × Answer :=
  if s.archive.activity ≠ .idle then refuse s .busy
  else
    match s.archive.oldest with
    | none => refuse s .notExported
    | some b =>
      if s.archive.block b = .exported then
        accept { s with archive := { s.archive.setBlock b .erasing with activity := .erasing b } } (.plain .accepted b)
      else refuse s .notExported b

/-- ERASE_OLDEST. -/
def execEraseOldest (tag : Nat) (s : State) : Host.Outcome State Fault Refusal :=
  s.request (.eraseOldest tag) actEraseOldest

/-- R171: an erase ends: every slot of the block ERASED and the block EMPTY, or the block EXPORTED as it was. -/
def Archive.endErase (a : Archive) (block : Nat) (ok : Bool) : Archive :=
  if ok then { a.setBlock block .empty with slots := eraseBlock a.slots block, activity := .idle }
  else { a.setBlock block .exported with activity := .idle }

/-- ERASE_END: every slot reads back erased, or not (R171, R173; log 9). -/
def execEraseEnd (ok : Bool) (s : State) : Host.Outcome State Fault Refusal :=
  s.event fun s =>
    match s.archive.activity with
    | .erasing block =>
      let was := s.archive.isFull
      let s := { s with archive := s.archive.endErase block ok }
      if !ok then s.raise .archiveWrite
      else if was && !s.archive.isFull then s.endCondition .archiveFull .archive
      else s
    | .idle | .appending _ _ _ => s

/-! ## GET_ARCHIVE (R172) -/

/-- R172: the activity. The anchor id, record number and slot of an append stand only where one runs, with no presence byte
(DESIGN CHOICE, log 11). -/
def Activity.fields : Activity → List WField
  | .idle => [.u8 1]
  | .appending anchor number slot => [.u8 2, .u16 anchor, .u32 number, .u16 slot]
  | .erasing _ => [.u8 3]

/-- R172: one block: its state, its VALID and TORN slots, and the bounds of its numbers. -/
def Archive.blockFields (a : Archive) (b : Nat) : List WField :=
  let here := (a.slots.filter fun p => blockOf p.1 == b).map (·.2)
  let valid := (here.filter fun x => match x with | .valid _ => true | _ => false).length
  let torn := (here.filter fun x => match x with | .torn _ => true | _ => false).length
  let numbers := here.map Slot.number
  [.u8 (a.block b).code, .u8 valid, .u8 torn] ++
  WField.opt (fun n => [.u32 n]) numbers.min? ++ WField.opt (fun n => [.u32 n]) numbers.max?

/-- R172. -/
def archiveFields (s : State) : List WField :=
  let a := s.archive
  a.activity.fields ++ [.u32 a.nextNumber, .u16 a.nextSlot] ++ [1, 2, 3, 4, 5, 6, 7, 8].flatMap a.blockFields ++
  WField.opt (fun b => [.u8 b]) a.oldest ++ [.flag a.isFull]

/-- R172. -/
def actGetArchive (page : Option Nat) (s : State) : State × Answer := accept s (paged page (archiveFields s))

/-- GET_ARCHIVE. -/
def execGetArchive (tag : Nat) (page : Option Nat) (s : State) : Host.Outcome State Fault Refusal :=
  s.request (.getArchive tag page) (actGetArchive page)

end Sys2Proof.Machine
end

