-- ==== Sys2Proof/Machine/FrontEnd.lean ====
section
/-! DEFINITION. The measurement front end, the drive outputs and the station enables (spec 04): SET_CALIBRATION,
GET_CALIBRATION, GET_INPUTS, GET_OUTPUTS, GET_SCAN, SET_STATIONS; ENCODER_EDGE, DRUM_PULSE, FLOW_PULSE, NO_FLOW_TIME,
PWM_PERIOD_START. -/

namespace Sys2Proof.Machine

/-! ## Calibration (R74, R75) -/

/-- R73, R75: the stressing station that owns a selector. -/
def ownerStn : Nat → Option Stn
  | 1 | 21 => some .s1
  | 2 | 22 => some .s2
  | _ => none

/-- R75 check 2, R152 check 2: a point is the source of a test baseline of a running test. -/
def State.baselineHeld (s : State) (st : Stn) (point : Nat) : Bool :=
  (s.stn st).ctx.any fun c => (c.baselines.getD (point - 1) none).isSome

/-- R75 check 2. -/
def State.selectorBusy (s : State) (sel : Nat) : Bool :=
  match ownerStn sel with
  | some st => (s.stn st).state != .idle
  | none =>
    if sel = 3 then s.winch.state != .idle
    else if sel = 4 then s.grout.state != .idle
    else s.baselineHeld .s1 (sel - 4) || s.baselineHeld .s2 (sel - 4)

/-- R73, R75: the top of a selector's span range. For a monitor point it follows the signed flag of the request: a code other
than clear is taken as set here, a code above 1 too, of which the spec says nothing (DESIGN CHOICE, log 16). -/
def spanTop (sel signed : Nat) : Nat :=
  if sel = 3 then 2000 else if sel = 4 then 10000 else if 5 ≤ sel ∧ signed ≠ 0 then 32000 else 30000

/-- R75: the channel's average is emptied. -/
def Channel.drain (c : Channel) : Channel := { c with win := [] }

/-- R75, R79: the average of a selector is emptied. -/
def State.drainSelector (s : State) (sel : Nat) : State :=
  match sel with
  | 1 => { s with s1 := { s.s1 with load := s.s1.load.drain } }
  | 2 => { s with s2 := { s.s2 with load := s.s2.load.drain } }
  | 3 => { s with winch := { s.winch with tension := s.winch.tension.drain } }
  | 4 => { s with grout := { s.grout with pressure := s.grout.pressure.drain } }
  | 21 => { s with s1 := { s.s1 with enc := { s.s1.enc with win := [] } } }
  | 22 => { s with s2 := { s.s2 with enc := { s.s2.enc with win := [] } } }
  | _ => s

/-- R75: the record of a selector replaced. -/
def FrontEnd.setRecord (f : FrontEnd) (sel : Nat) (zero : Int) (span signed invert : Nat) : FrontEnd :=
  if sel = 21 then { f with invert1 := invert == 1 }
  else if sel = 22 then { f with invert2 := invert == 1 }
  else { f with cals := f.cals.set (sel - 1) { zero := zero, span := span, signed := signed == 1 } }

/-- R75. -/
def actSetCalibration (sel : Nat) (zero : Int) (span signed invert : Nat) (s : State) : State × Answer :=
  let encoder := sel == 21 || sel == 22
  if encoder && badFlag invert then refuse s .outOfRange 5
  else if !inRange 1 22 sel then refuse s .outOfRange 1
  else if s.selectorBusy sel then refuse s .busy
  else if !encoder && !decide (-2000 ≤ zero ∧ zero ≤ 2000) then refuse s .outOfRange 2
  else if !encoder && !inRange 1 (spanTop sel signed) span then refuse s .outOfRange 3
  else if badFlag signed || (signed == 1 && !inRange 5 20 sel) then refuse s .outOfRange 4
  else accept ({ s with fe := s.fe.setRecord sel zero span signed invert }.drainSelector sel)

/-- SET_CALIBRATION. -/
def execSetCalibration (tag sel : Nat) (zero : Int) (span signed invert : Nat) (s : State) :
    Host.Outcome State Fault Refusal :=
  s.request (.setCalibration tag sel zero span signed invert) (actSetCalibration sel zero span signed invert)

/-- R75. -/
def actGetCalibration (sel : Nat) (s : State) : State × Answer :=
  if !inRange 1 22 sel then refuse s .outOfRange 1
  else if sel = 21 then accept s (.reply [.flag s.fe.invert1])
  else if sel = 22 then accept s (.reply [.flag s.fe.invert2])
  else
    let c := s.fe.cals.getD (sel - 1) (.factory 0)
    accept s (.reply [.i16 c.zero, .u16 c.span, .flag c.signed])

/-- GET_CALIBRATION. -/
def execGetCalibration (tag sel : Nat) (s : State) : Host.Outcome State Fault Refusal :=
  s.request (.getCalibration tag sel) (actGetCalibration sel)

/-! ## Snapshots (R87, R91) -/

/-- R87, R193: the code of a mark; that of a 20 ms channel is coded so too (DESIGN CHOICE, log 11). -/
def Mark.code : Mark → Nat
  | .valid => 1 | .isOpen => 2 | .isOver => 3

/-- R78, R91: the mark of the latest sample, absent before the first. -/
def markField (m : Option Mark) : List WField := WField.opt (fun m => [.u8 m.code]) m

/-- R91: a 20 ms channel. -/
def Channel.fields (c : Channel) : List WField := [.u16 c.level, .u8 c.win.length] ++ markField c.mark

/-- R78, R91: an encoder: its count, and the displacement average with its number of values and its mark. -/
def Encoder.fields (e : Encoder) : List WField :=
  [.i16 e.count, .i16 (average e.win), .u8 e.win.length] ++ markField e.mark

/-- R91; the flow window is open 1 or closed 2, a level HIGH 1 or LOW 2, and each encoder is given whole before the
next (DESIGN CHOICE, log 11); the level of DRUM_DIR is a free value (log 31). -/
def inputFields (s : State) : List WField :=
  s.s1.load.fields ++ s.s2.load.fields ++ s.winch.tension.fields ++ s.grout.pressure.fields ++
  s.s1.enc.fields ++ s.s2.enc.fields ++
  [.i32 s.winch.drum, .i32 s.winch.paid,
   .either s.grout.flow.isOpen, .u16 s.grout.flow.published, .u8 s.grout.flow.stray,
   .either s.estopHigh, .either s.wallTripHigh, .either (Config.drumDirHigh s.draws)]

/-- R91. -/
def actGetInputs (page : Option Nat) (s : State) : State × Answer := accept s (paged page (inputFields s))

/-- GET_INPUTS. -/
def execGetInputs (tag : Nat) (page : Option Nat) (s : State) : Host.Outcome State Fault Refusal :=
  s.request (.getInputs tag page) (actGetInputs page)

/-- The whole seconds left of a time in s, by the samples that have run (log 12). -/
def secondsLeft (total samples : Nat) : Nat := total - samples / Config.samplesPerSecond

/-- R90: the code of a valve state. -/
def ValveState.code : ValveState → Nat
  | .closed => 1 | .opening => 2 | .opened => 3 | .closing => 4

/-- R91: a pump output with whether a force is in effect. -/
def pumpFields (p : PumpOut) (forced : Bool) : List WField := [.u16 p.cmd, .u16 p.applied, .flag forced]

/-- R91. A release valve and its command are open or closed (R89), a SEAT output on or off, a port valve's command open or
closed (R90): 1 or 2 by R193. The motor on or off and the brake HIGH or LOW are coded in the same way, and whether a force
is in effect is a byte 1 or 0; the time left of a SEAT output that is off is a byte 0, with no presence byte; WMOT is
given with its command and its level, and then WBRK (DESIGN CHOICE, log 11). -/
def outputFields (s : State) : List WField :=
  let seat (x : Station) : List WField :=
    [.either x.seat.isSome, .u8 ((x.seat.map fun p => secondsLeft p.total p.samples).getD 0)]
  pumpFields s.s1.pump (s.pumpForce || !s.site.enables.s1) ++ pumpFields s.s2.pump (s.pumpForce || !s.site.enables.s2) ++
  pumpFields s.grout.pump (s.pumpForce || !s.site.enables.g) ++
  [.either s.s1.relCmd, .either (s.relOut .s1), .either s.s2.relCmd, .either (s.relOut .s2)] ++ seat s.s1 ++ seat s.s2 ++
  [.either s.winchCmd, .either s.winchOut, .either s.winchCmd, .either s.winchOut] ++
  s.grout.valves.flatMap fun v => [.either v.cmd, .u8 v.state.code]

/-- R91. -/
def actGetOutputs (page : Option Nat) (s : State) : State × Answer := accept s (paged page (outputFields s))

/-- GET_OUTPUTS. -/
def execGetOutputs (tag : Nat) (page : Option Nat) (s : State) : Host.Outcome State Fault Refusal :=
  s.request (.getOutputs tag page) (actGetOutputs page)

/-- R87: a point of the published scan: its mark, and its value where it has one; NOT_SCANNED is the fifth mark (DESIGN
CHOICE, log 11). -/
def PointReading.fields : PointReading → List WField
  | .valid v => [.u8 1, .u8 1, .i16 v]
  | .isOpen => [.u8 2, .u8 0]
  | .isOver => [.u8 3, .u8 0]
  | .unused => [.u8 4, .u8 0]
  | .notScanned => [.u8 5, .u8 0]

/-- R87. -/
def actGetScan (page : Option Nat) (s : State) : State × Answer :=
  accept s (paged page (.u8 s.fe.scanCount :: s.fe.scan.flatMap PointReading.fields))

/-- GET_SCAN. -/
def execGetScan (tag : Nat) (page : Option Nat) (s : State) : Host.Outcome State Fault Refusal :=
  s.request (.getScan tag page) (actGetScan page)

/-! ## SET_STATIONS (R92, R93) -/

/-- R93: a stressing station disabled. R93 has no seat pulse running there, and R89 lets only a reset end one early: a pulse
that still runs in log 33's case runs on to SEAT_PULSE_END, its samples and so its time left standing still, for a disabled
station is not sampled (DESIGN CHOICE, log 33). -/
def Station.disable (x : Station) : Station :=
  { x with
    load := .empty
    enc := { x.enc with count := 0, win := [], mark := none }
    ovl := x.ovl.zero
    nbr := x.nbr.map Guard.zero
    pump := { x.pump with applied := 0 } }

/-- R93, R126: the winch disabled. The published length, which no sample forms any more, is set to 0 with the drum count
(DESIGN CHOICE, log 37). -/
def Winch.disable (w : Winch) : Winch :=
  { w with tension := .empty, drum := 0, paid := 0, jam := w.jam.zero, slack := w.slack.zero }

/-- R93, R90: the grout station disabled. -/
def Grout.disable (g : Grout) : Grout :=
  { g with
    pressure := .empty
    flow := .rest
    refusal := g.refusal.zero
    overp := g.overp.zero
    pump := { g.pump with applied := 0 }
    valves := g.valves.map Valve.closeCmd }

/-- R92: the first value that is neither ENABLED nor DISABLED, then the first station to be disabled that is not IDLE. -/
def stationsRefusal (a b c d : Nat) (s : State) : Option (Resp × Nat) :=
  let e := s.site.enables
  let idle (was : Bool) (v : Nat) (isIdle : Bool) : Bool := !(was && v == 0) || isIdle
  firstRefusal
    [(!badFlag a, .outOfRange, 1), (!badFlag b, .outOfRange, 2), (!badFlag c, .outOfRange, 3),
     (!badFlag d, .outOfRange, 4),
     (idle e.s1 a (s.s1.state == .idle), .busy, 1), (idle e.s2 b (s.s2.state == .idle), .busy, 2),
     (idle e.w c (s.winch.state == .idle), .busy, 3), (idle e.g d (s.grout.state == .idle), .busy, 4)]

/-- R92, R93: the four enables written at once. -/
def State.setStations (s : State) (e : Enables) : State :=
  let was := s.site.enables
  let s := { s with site := { s.site with enables := e } }
  let s := if was.s1 && !e.s1 then { s with s1 := s.s1.disable }.clearGroupFlags 1 else s
  let s := if was.s2 && !e.s2 then { s with s2 := s.s2.disable }.clearGroupFlags 2 else s
  let s := if was.w && !e.w then { s with winch := s.winch.disable }.clearGroupFlags 3 else s
  let s := if was.g && !e.g then { s with grout := s.grout.disable }.clearGroupFlags 4 else s
  let s := s.judgeTrip
  if !was.g && e.g then s.arbiter else s

/-- R92. -/
def actSetStations (a b c d : Nat) (s : State) : State × Answer :=
  match stationsRefusal a b c d s with
  | some r => refuse s r.1 r.2
  | none => accept (s.setStations { s1 := a == 1, s2 := b == 1, w := c == 1, g := d == 1 })

/-- SET_STATIONS. -/
def execSetStations (tag a b c d : Nat) (s : State) : Host.Outcome State Fault Refusal :=
  s.request (.setStations tag a b c d) (actSetStations a b c d)

/-! ## Pulses (R80 to R86) -/

/-- R80: the levels after an accepted change. -/
def Encoder.flip (e : Encoder) : EncLine → Encoder
  | .a => { e with a := !e.a }
  | .b => { e with b := !e.b }
  | .both => { e with a := !e.a, b := !e.b }

/-- R80: the step of an accepted change, by the levels after it; A leading B counts up (log 14). -/
def Encoder.delta (e : Encoder) (line : EncLine) (invert : Bool) : Int :=
  let up := match line with
    | .a => e.a != e.b
    | .b | .both => e.a == e.b
  if line = .both then 0 else if up != invert then 1 else -1

/-- R80: an accepted change moves the levels of a station's encoder lines, whether it counts or not. -/
def State.encoderMoves (s : State) (st : Stn) (line : EncLine) : State :=
  s.modStn st fun x => { x with enc := x.enc.flip line }

/-- R80: the encoder of a station counts an accepted change, or holds its count at an end and raises ENCODER_RANGE. -/
def State.encoderEdge (s : State) (st : Stn) (line : EncLine) : State :=
  let e := (s.stn st).enc.flip line
  let s := s.encoderMoves st line
  if s.enabled st then
    let invert := match st with | .s1 => s.fe.invert1 | .s2 => s.fe.invert2
    let n := e.count + e.delta line invert
    if n < -Config.encoderEnd ∨ Config.encoderEnd < n then s.raise (.encoderRange st)
    else s.modStn st fun x => { x with enc := { e with count := n } }
  else s

/-- ENCODER_EDGE. Through start-up and in reset the levels of the lines move and nothing is counted (DEDUCED, log 21). -/
def execEncoderEdge (st : Stn) (line : EncLine) (s : State) : Host.Outcome State Fault Refusal :=
  .next (if s.phase = .running then s.encoderEdge st line else s.encoderMoves st line)

/-- DRUM_PULSE: an accepted rising edge on DRUM, with the level of DRUM_DIR (R83). -/
def execDrumPulse (dirHigh : Bool) (s : State) : Host.Outcome State Fault Refusal :=
  s.event fun s =>
    let n := s.winch.drum + (if dirHigh then 1 else -1)
    { s with winch :=
        { s.winch with
          drum := if s.site.enables.w then clamp (-Config.drumEnd) Config.drumEnd n else s.winch.drum } }

/-- R84, R86: a window pulse: the volume, the flow with its peak, and the no-flow timer of the pass. -/
def Grout.windowPulse (g : Grout) (quantum period : Nat) : Grout :=
  let flow := if g.flow.timed then flowOf quantum period else g.flow.published
  { g with
    flow := { g.flow with published := flow, timed := true }
    pass := g.pass.map fun p =>
      { p with
        volume := min Config.volumeEnd (p.volume + quantum)
        peakFlow := max p.peakFlow flow
        noFlow := none } }

/-- R138: the pass volume has come to the cap in PUMPING. -/
def Grout.capReached (g : Grout) : Bool :=
  g.state == .pumping && g.pass.any fun p => decide (p.cap ≤ p.volume)

/-- R85: a stray pulse. -/
def State.strayPulse (s : State) : State :=
  let f := s.grout.flow
  let n := min Config.strayEnd (f.stray + 1)
  let limit := s.site.settings.leakLimit
  let leak := decide (limit ≤ n) && (decide (f.stray < limit) || f.lowered)
  let s := { s with grout := { s.grout with flow := { f with stray := n, lowered := f.lowered && !leak } } }
  if leak then s.raise .valveLeak else s

/-- FLOW_PULSE: an accepted FLOW pulse, with the us since the pulse before it (R84 to R86). -/
def execFlowPulse (period : Nat) (s : State) : Host.Outcome State Fault Refusal :=
  s.event fun s =>
    if !s.site.enables.g then s
    else if s.grout.windowOpen then
      let s := { s with grout := s.grout.windowPulse s.site.settings.quantum period }
      if s.grout.capReached then s.endPass .volumeReached else s
    else s.strayPulse

/-- NO_FLOW_TIME: no window pulse has come within the no-flow time (R86). -/
def execNoFlowTime (s : State) : Host.Outcome State Fault Refusal :=
  s.event fun s =>
    if s.grout.windowOpen then
      { s with grout := { s.grout with flow := { s.grout.flow with published := 0, timed := false } } }
    else s

/-- R88: the commanded demand is applied, unless it is forced off. -/
def PumpOut.apply (p : PumpOut) (forced : Bool) : PumpOut := { p with applied := if forced then 0 else p.cmd }

/-- PWM_PERIOD_START: the demands are applied from a period's start (R88); the flow window follows (R84, R86). -/
def execPwmPeriodStart (s : State) : Host.Outcome State Fault Refusal :=
  s.event fun s =>
    let e := s.site.enables
    { s with
      s1 := { s.s1 with pump := s.s1.pump.apply (s.pumpForce || !e.s1) }
      s2 := { s.s2 with pump := s.s2.pump.apply (s.pumpForce || !e.s2) }
      grout := { s.grout with pump := s.grout.pump.apply (s.pumpForce || !e.g) }.judgeFlow }

end Sys2Proof.Machine
end

