-- ==== Sys2Proof/Machine/Load.lean ====
section
/-! DEFINITION. The stressing stations at work: movements and their rate gate (R31 to R35), steps (R37 to R44), readings
and judgements (R56 to R68), end decisions and test ends (R45, R46, R52). -/

namespace Sys2Proof.Machine

/-! ## Movements -/

/-- A movement begun: no sample of it has come, and the load stands at `load`. -/
def Motion.start (k : MotionKind) (load : Nat) : Motion :=
  { kind := k, startLoad := load, samples := 0, second := 0, secLoad := load }

/-- R31, R32: the pump raises the load. -/
def MotionKind.rising : MotionKind → Bool
  | .rampUp | .topUp | .seek => true
  | .ramp | .rampDown | .correction | .release => false

/-- R32: the release valve lowers the load. -/
def MotionKind.lowering : MotionKind → Bool
  | .rampDown | .correction | .release => true
  | .ramp | .rampUp | .topUp | .seek => false

/-- The drives off and no movement (R31, R34, R49). -/
def Station.stop (x : Station) : Station :=
  { x with
    pump := { x.pump with cmd := 0 }
    relCmd := false
    ctx := x.ctx.map fun c => { c with motion := none } }

/-- A movement of a kind begins: the pump runs at ramp demand, or the valve opens, or nothing until the ramp's first
sample (R31, R32, R44; log 18). -/
def Station.move (x : Station) (k : MotionKind) : Station :=
  match x.ctx with
  | none => x
  | some c =>
    { x with
      pump := { x.pump with cmd := if k.rising then c.cap.rampDemand else 0 }
      relCmd := k.lowering
      ctx := some { c with motion := some (.start k x.runLoad) } }

/-- R32: a release to zero begins, in RELEASING or UNLOADING; the phase is RELEASE in both, and the current target stays
(DESIGN CHOICE, log 39). -/
def Station.startRelease (x : Station) (state : StnState) : Station :=
  let y := x.move .release
  { y with state := state, ctx := y.ctx.map fun c => { c with phase := .release } }

/-- R31: a ramp toward a target begins; its first sample is the next one. Hold elapsed and top-ups, which belong to the
present hold alone (R29), stand at 0 from here on (DESIGN CHOICE, log 32). -/
def Station.startRamp (x : Station) (target : Nat) : Station :=
  let y := x.move .ramp
  { y with
    state := .ramping
    ctx := y.ctx.map fun c => { c with phase := .ramp, target := target, holdSamples := 0, topUps := 0 } }

/-- R57, R82: the encoder count and the displacement window are zeroed. -/
def Encoder.zero (e : Encoder) : Encoder := { e with count := 0, win := [0] }

/-- R44 stage 2, R67: the seek begins toward the lift-off cap. -/
def Station.startSeek (x : Station) : Station :=
  let y := { x with enc := x.enc.zero }.move .seek
  { y with
    state := .seeking
    ctx := y.ctx.map fun c => { c with phase := .seek, target := liftCapOf c.plo c.cap.liftTol c.cap.loadTol } }

/-- R44 stage 1: LIFTOFF begins; a load above tolerance is released first. -/
def Station.beginLiftoff (x : Station) : Station :=
  match x.ctx with
  | none => x
  | some c => if x.runLoad ≤ c.cap.loadTol then x.startSeek else x.startRelease .releasing

/-- R33: the rate in force on a movement. -/
def TestCtx.rate (c : TestCtx) (m : Motion) : Nat :=
  if m.kind = .seek then seekRate c.cap.rateLimit else c.cap.rateLimit

/-- R33: at a whole second the gate compares the load with that of a second before, and throttles the next second or
gives the demand or the valve duty back. A ramp that has not fixed its direction has no gate. -/
def Station.wholeSecond (x : Station) : Station :=
  match x.ctx with
  | none => x
  | some c =>
    match c.motion with
    | none => x
    | some m =>
      let load := x.runLoad
      let fast := if m.kind.rising then decide (m.secLoad + c.rate m < load) else decide (load + c.rate m < m.secLoad)
      if m.kind = .ramp then x
      else
        { x with
          pump := { x.pump with cmd := if m.kind.rising && !fast then c.cap.rampDemand else 0 }
          relCmd := m.kind.lowering && !fast
          ctx := some { c with motion := some { m with second := 0, secLoad := load } } }

/-- R35: the allowed time of the ramp or seek has run out. -/
def TestCtx.timedOut (c : TestCtx) (m : Motion) : Bool :=
  decide (Config.samplesPerSecond * allowedTime c.target m.startLoad (c.rate m) ≤ m.samples)

/-- One more sample of the movement (R31). -/
def Motion.tick (m : Motion) : Motion := { m with samples := m.samples + 1, second := m.second + 1 }

/-- A sample at which the movement neither ends nor times out: at a whole second the rate gate acts. -/
def Station.goOn (x : Station) (c : TestCtx) (m : Motion) : Station :=
  let y := { x with ctx := some { c with motion := some m } }
  if Config.samplesPerSecond ≤ m.second then y.wholeSecond else y

/-! ## End decisions and the test end -/

/-- R45: an end decision is taken; one that is present stands. The station goes to UNLOADING, but a seat pulse runs on
and a running release continues. -/
def Station.take (x : Station) (d : Decision) : Station :=
  let y := { x with ctx := x.ctx.map fun c => { c with decision := some (c.decision.getD d) } }
  match x.state with
  | .seating | .unloading | .fault | .idle | .selftest => y
  | .releasing => { y with state := .unloading }
  | .ramping | .holding | .seeking | .held => y.startRelease .unloading

/-- A stressing station takes an end decision. -/
def State.takeDecision (s : State) (st : Stn) (d : Decision) : State := s.modStn st (·.take d)

/-- R46: the end kind of a decision. -/
def Decision.endKind : Decision → EndKind
  | .passed => .passed
  | .failed _ => .failed
  | .aborted _ => .aborted

/-- R46: the abort cause of a decision. -/
def Decision.cause : Decision → Option AbortCause
  | .aborted c => some c
  | _ => none

/-- R69: the reason set of a decision. -/
def Decision.reasons : Decision → List Reason
  | .failed l => l
  | _ => []

/-- R46: the new stage. -/
def newStage (d : Decision) (seatDone : Bool) (shape : PlanShape) (prior : Stage) : Stage :=
  match d with
  | .passed => .locked
  | .failed _ => if seatDone then .lockFault else .rejected
  | .aborted _ => if shape = .relock then .lockFault else if seatDone then .lockFault else prior

/-- R46, R70: the test result a context gives. -/
def TestCtx.result (c : TestCtx) (st : Stn) (d : Decision) (start : Nat) (now : Option Nat) : TestResult where
  stn := st
  slot := c.slot
  shape := c.shape
  start := start
  endTime := now
  endKind := d.endKind
  abort := d.cause
  seatDone := c.seatDone
  readings := c.readings
  ksPrimary := c.creep.ksPrimary
  ksExtended := c.creep.ksExtended
  extendedUsed := c.extInForce
  figures := c.figures
  lockTarget := c.lockTarget
  liftLoad := c.liftLoad
  verdict := if d.cause.isSome then none else some d.endKind
  reasons := d.reasons

/-- R46, R17: the Register change of a test end. -/
def Entry.testEnded (e : Entry) (c : TestCtx) (st : Stn) (d : Decision) (now : Option Nat) : Entry :=
  { e with
    result := some (c.result st d ((e.test.map (·.start)).getD 0) now)
    stage := newStage d c.seatDone c.shape (e.prior.getD e.stage)
    prior := none
    test := none }

/-- R46: the release of UNLOADING completes and the test ends. The guards that only a test keeps active return to 0
(R94). A seat pulse that still runs goes on (R43; DESIGN CHOICE beside R30's table, log 33). -/
def State.endTest (s : State) (st : Stn) : State :=
  let x := s.stn st
  match x.ctx with
  | none => s
  | some c =>
    let d := c.decision.getD (.aborted .host)
    let s := s.modEntry c.anchor fun e => e.testEnded c st d s.now
    let s := if c.shape = .full ∧ !c.seatDone then
        s.modRow c.row fun r => { r with reserved := r.reserved - c.pp }
      else s
    let s := s.setStn st
      { x.stop with state := .idle, ctx := none, ovl := x.ovl.zero, nbr := x.nbr.map Guard.zero }
    s.notice .testEnded st.origin (some c.anchor) (detail2 d.endKind.code ((d.cause.map (·.code)).getD 0))

/-! ## Steps -/

/-- The step a context stands at. -/
def TestCtx.current (c : TestCtx) : Option PlanStep := c.steps[c.step - 1]?

/-- The kind of the step a context stands at. -/
def TestCtx.kind (c : TestCtx) : Option StepKind := c.current.map (·.kind)

/-- R61: no creep outcome. -/
def CreepOutcome.none : CreepOutcome := { ksPrimary := .none, ksExtended := .none, peak := .none, failed := false }

/-- R37: the staged adjustments of a context applied. -/
def TestCtx.applyStaged (c : TestCtx) : TestCtx :=
  { c with
    plo := c.stagedPlo.getD c.plo
    steps :=
      match c.stagedExt with
      | none => c.steps
      | some b => c.steps.map fun t => if t.kind = .creep then { t with ext := b.toNat } else t
    stagedPlo := none
    stagedExt := none }

/-- R38 to R44: the first movement of the current step. `again` restarts a step that had begun (R50): extended in force
and the lock-off target stay as formed, the creep readings of the step and the lift-off load are cleared. -/
def Station.enterStep (x : Station) (again : Bool) : Station :=
  match x.ctx with
  | none => x
  | some c =>
    match c.current with
    | none => x
    | some t =>
      match t.kind with
      | .datum | .unload => x.startRamp c.pa
      | .load => x.startRamp (loadTargetOf c.pp t.target)
      | .creep =>
        let c := { c with
          extInForce := if again then c.extInForce else t.ext == 1
          readings := if again then c.readings.filter fun r => !(r.kind == .creep && r.step == c.step) else c.readings
          creep := .none }
        { x with ctx := some c }.startRamp c.pp
      | .lockoff =>
        let target := if again then c.lockTarget.getD (lockTargetOf c.plo c.cap.overdrive)
          else lockTargetOf c.plo c.cap.overdrive
        { x with ctx := some { c with lockTarget := some target } }.startRamp target
      | .liftoff => { x with ctx := some { c with liftLoad := none } }.beginLiftoff

/-- R37: a step begins: the staged adjustments are applied, a staged P_lo also to the entry, and its first ramp starts. -/
def State.beginStep (s : State) (st : Stn) : State :=
  match (s.stn st).ctx with
  | none => s
  | some c =>
    let s := match c.stagedPlo with
      | none => s
      | some p => s.modEntry c.anchor fun e => { e with decl := { e.decl with plo := p } }
    s.modStn st fun x => { x with ctx := some { c.applyStaged with begun := true } }.enterStep false

/-- R50: the current step starts afresh. -/
def State.restartStep (s : State) (st : Stn) : State :=
  match (s.stn st).ctx with
  | none => s
  | some c => if c.begun then s.modStn st (·.enterStep true) else s.beginStep st

/-- R37: a step completes without an end decision: STEP_DONE, then the next step, or HELD when a cause stands; there the
phase and the current target of the completed step stay (DESIGN CHOICE, log 39). -/
def State.completeStep (s : State) (st : Stn) : State :=
  match (s.stn st).ctx with
  | none => s
  | some c =>
    let s := s.notice .stepDone st.origin (some c.anchor) c.step
    let s := s.modStn st fun x =>
      { x.stop with ctx := some { c with motion := none, step := c.step + 1, begun := false } }
    if c.causes.isEmpty then s.beginStep st else s.hold st

/-- R32, R37, R49: a release of RELEASING completes: LOCKOFF completes, or the seek of LIFTOFF starts. -/
def State.releaseDone (s : State) (st : Stn) : State :=
  let s := s.modStn st Station.stop
  match (s.stn st).ctx with
  | none => s
  | some c =>
    if c.kind = some .liftoff then
      if c.causes.isEmpty then s.modStn st Station.startSeek else s.hold st
    else s.completeStep st

/-! ## Readings and judgements -/

/-- R56: a reading taken at a sample. -/
def TestCtx.read (c : TestCtx) (k : ReadingKind) (due load : Nat) (disp : Int) (time : Nat) : TestCtx :=
  { c with readings :=
      c.readings ++ [{ step := c.step, kind := k, due := due, load := load, disp := disp, time := time }] }

/-- The displacement of a reading by its place, counted from 0. -/
def TestCtx.dispAt (c : TestCtx) (i : Nat) : Int := (c.readings[i]?.map (·.disp)).getD 0

/-- R62 to R65: the UNLOAD judgement, after the permanent reading: the figures and the reason set. -/
def TestCtx.judgeUnload (c : TestCtx) (d : Decl) : LAppFigures × List Reason :=
  let ds := c.dispAt (c.creep.peak.getD 0) - c.dispAt (c.readings.length - 1)
  let f := unloadFigures d c.pp c.pa c.cap.loPct c.cap.hiPct ds
  (f.1, (if c.creep.failed then [.creepExceeded] else []) ++ f.2)

/-- R43: the seat event. -/
def State.seatEvent (s : State) (st : Stn) : State :=
  match (s.stn st).ctx with
  | none => s
  | some c =>
    let s := s.modStn st fun x =>
      { x.stop with
        state := .seating
        seat := some (x.seat.getD { total := c.cap.seatTime, samples := 0 })
        ctx := some { c with motion := none, phase := .seat, seatDone := true } }
    match s.entry c.anchor with
    | none => s
    | some e =>
      if e.counted then s
      else
        (s.modRow c.row fun r => { locked := r.locked + c.plo, reserved := r.reserved - c.pp }).modEntry c.anchor
          fun e => { e with counted := true }

/-- R34, R38, R39, R41, R42: the hold ends. -/
def State.holdEnd (s : State) (st : Stn) : State :=
  let s := s.modStn st Station.stop
  match (s.stn st).ctx with
  | none => s
  | some c =>
    let x := s.stn st
    let hold := (c.current.map (·.hold)).getD 0
    match c.kind with
    | some .datum =>
      (s.modStn st fun x =>
        { x with enc := x.enc.zero, ctx := some (c.read .step hold x.runLoad 0 s.site.clock) }).completeStep st
    | some .load =>
      (s.modStn st fun y =>
        { y with ctx := some (c.read .step hold x.runLoad x.runDisp s.site.clock) }).completeStep st
    | some .unload =>
      let c := c.read .step hold x.runLoad x.runDisp s.site.clock
      let j := c.judgeUnload (((s.entry c.anchor).map (·.decl)).getD default)
      let s := s.modStn st fun y => { y with ctx := some { c with figures := some j.1 } }
      if j.2 = [] then s.completeStep st else s.takeDecision st (.failed j.2)
    | some .lockoff => s.seatEvent st
    | some .creep | some .liftoff | none => s

/-- R40: the hold time of the next CREEP reading, by how many the hold has given. -/
def creepDue : Nat → Nat
  | 0 => 60
  | 1 => 300
  | 2 => 600
  | _ => 3000

/-- R59, R60: the creep figures formed at a CREEP reading, and whether the hold ends there. -/
def TestCtx.judgeCreep (c : TestCtx) : TestCtx × Bool :=
  let last := c.readings.length - 1
  let ks := c.dispAt last - c.dispAt (last - 2)
  match c.creepTaken with
  | 3 =>
    if ks ≤ c.cap.creepLimit then
      ({ c with creep := { ksPrimary := some ks, ksExtended := none, peak := some last, failed := false } }, true)
    else if c.extInForce then ({ c with creep := { c.creep with ksPrimary := some ks } }, false)
    else ({ c with creep := { ksPrimary := some ks, ksExtended := none, peak := some last, failed := true } }, true)
  | 4 =>
    ({ c with creep :=
        { c.creep with ksExtended := some ks, peak := some last, failed := decide ((c.cap.creepLimit : Int) < ks) } },
     true)
  | _ => (c, false)

/-- R40, R56: a CREEP reading. -/
def State.creepReading (s : State) (st : Stn) : State :=
  let x := s.stn st
  match x.ctx with
  | none => s
  | some c =>
    let c := c.read .creep (creepDue c.creepTaken) x.runLoad x.runDisp s.site.clock
    let j := { c with creepTaken := c.creepTaken + 1 }.judgeCreep
    let s := s.modStn st fun y => { y with ctx := some j.1 }
    if j.2 then (s.modStn st Station.stop).completeStep st else s

/-- R44 stages 3 and 4, R68: the seek ends with a lift-off load, or without one at the cap. -/
def Station.judgeLift (x : Station) (c : TestCtx) (load : Option Nat) : Station :=
  let reasons := liftReasons c.plo (liftTolOf c.plo c.cap.liftTol) load
  { x with ctx := some { c with liftLoad := load } }.take (if reasons = [] then .passed else .failed reasons)

/-! ## A sample of a stressing station -/

/-- R34: load control of a hold at a sample that does not end it: a running top-up or correction goes on or ends; a load
out of band starts one, or ends the test HOLD_LOSS. -/
def Station.keepBand (x : Station) : Station :=
  match x.ctx with
  | none => x
  | some c =>
    let load := x.runLoad
    let judge (y : Station) : Station :=
      if load + c.cap.loadTol < c.target then
        if c.cap.topUpMax ≤ c.topUps then y.take (.aborted .holdLoss)
        else { y with ctx := some { c with topUps := c.topUps + 1 } }.move .topUp
      else if c.target + c.cap.loadTol < load then y.move .correction
      else y
    match c.motion with
    | some m =>
      let ended := match m.kind with
        | .topUp => decide (c.target ≤ load)
        | .correction => decide (load ≤ c.target)
        | _ => false
      if ended then judge x.stop else x.goOn c m.tick
    | none => judge x

/-- R34, R40: the hold at a sample: a reading or the end of the hold when it is due, and then the band. The spec gives no
order for a CREEP reading that leaves the hold running (60 s, or 300 s with the extended hold in force) and is due at a
sample that also brings HOLD_LOSS: the reading is taken first (DESIGN CHOICE, log 6). -/
def State.holdSample (s : State) (st : Stn) : State :=
  match (s.stn st).ctx with
  | none => s
  | some c =>
    let due (t : Nat) : Bool := decide (Config.samplesPerSecond * t ≤ c.holdSamples)
    match c.kind with
    | some .creep =>
      let s := if due (creepDue c.creepTaken) then s.creepReading st else s
      if (s.stn st).state = .holding then s.modStn st Station.keepBand else s
    | some .lockoff => if due Config.lockoffHold then s.holdEnd st else s.modStn st Station.keepBand
    | some _ => if due ((c.current.map (·.hold)).getD 0) then s.holdEnd st else s.modStn st Station.keepBand
    | none => s

/-- R31: the target is reached: the hold begins at this sample, its reference sample. -/
def State.targetReached (s : State) (st : Stn) : State :=
  (s.modStn st fun x =>
    { x.stop with
      state := .holding
      ctx := x.ctx.map fun c =>
        { c with motion := none, phase := .hold, holdSamples := 0, topUps := 0, creepTaken := 0 } }).holdSample st

/-- R31, R32, R35: a ramp at a sample. -/
def State.rampSample (s : State) (st : Stn) (c : TestCtx) (m : Motion) : State :=
  let x := s.stn st
  let load := x.runLoad
  let low := decide (load + c.cap.loadTol < c.target)
  let high := decide (c.target + c.cap.loadTol < load)
  match m.kind with
  | .rampUp =>
    if !low then s.targetReached st
    else if c.timedOut m.tick then s.takeDecision st (.aborted .rampTimeout)
    else s.setStn st (x.goOn c m.tick)
  | .rampDown =>
    if !high then s.targetReached st
    else if c.timedOut m.tick then s.takeDecision st (.aborted .rampTimeout)
    else s.setStn st (x.goOn c m.tick)
  | _ =>
    if low then s.modStn st (·.move .rampUp)
    else if high then s.modStn st (·.move .rampDown)
    else s.targetReached st

/-- R44, R35: a seek at a sample. -/
def Station.seekSample (x : Station) (c : TestCtx) (m : Motion) : Station :=
  if (c.cap.liftThreshold : Int) ≤ x.runDisp then x.judgeLift c (some x.runLoad)
  else if c.target ≤ x.runLoad then x.judgeLift c none
  else if c.timedOut m.tick then x.take (.aborted .rampTimeout)
  else x.goOn c m.tick

/-- R32: a release to zero at a sample. -/
def State.releaseSample (s : State) (st : Stn) (c : TestCtx) : State :=
  let x := s.stn st
  if x.runLoad ≤ c.cap.loadTol then
    if x.state = .unloading then s.endTest st else s.releaseDone st
  else
    match c.motion with
    | none => s
    | some m => s.setStn st (x.goOn c m.tick)

/-- R36: stroke end at a sample. -/
def Station.strokeEnd (x : Station) : Bool :=
  match x.ctx with
  | none => false
  | some c =>
    match x.state with
    | .ramping | .holding | .seating | .releasing | .seeking | .held =>
      decide ((c.cap.stroke : Int) - c.cap.strokeMargin ≤ x.runDisp)
    | .idle | .fault | .unloading | .selftest => false

/-- R36, R45: stroke end is found: the decision is taken, and a release that runs in RELEASING continues in UNLOADING, at this
sample too. -/
def State.endStroke (s : State) (st : Stn) : State :=
  let t := s.takeDecision st (.aborted .strokeEnd)
  match (s.stn st).state, (t.stn st).ctx with
  | .releasing, some c => t.releaseSample st c
  | _, _ => t

/-- The station acts on the running averages of a sample: stroke end first, then what its state does (log 6). -/
def State.stationSample (s : State) (st : Stn) : State :=
  let x := s.stn st
  match x.ctx with
  | none => s
  | some c =>
    if x.strokeEnd && c.decision.isNone then s.endStroke st
    else
      match x.state, c.motion with
      | .ramping, some m => s.rampSample st c m
      | .holding, _ =>
        (s.modStn st fun x => { x with ctx := some { c with holdSamples := c.holdSamples + 1 } }).holdSample st
      | .seeking, some m => s.setStn st (x.seekSample c m)
      | .releasing, _ | .unloading, _ => s.releaseSample st c
      | _, _ => s

/-! ## Events handed to a station -/

/-- R43, R52: the end of the seat pulse. -/
def Station.pulseEnd (x : Station) : Station :=
  let y := { x with seat := none }
  match x.ctx with
  | some c =>
    if x.state = .seating then y.startRelease (if c.decision.isSome then .unloading else .releasing) else y
  | none => y

/-- R52: a trip of the jack overload guard during a test. -/
def Station.overload (x : Station) : Station :=
  match x.ctx, x.state with
  | none, _ | _, .unloading => x
  | some c, _ =>
    { x.stop with
      state := .fault
      ctx := some { c with motion := none, decision := some (c.decision.getD (.aborted .overload)) } }

/-- R156: a point's test baseline captured from the published scan; at a rebase one already held is kept where the point
is not VALID. A point in use that the scan still marks UNUSED counts as not VALID (DESIGN CHOICE, log 35). -/
def captureBaseline (neighbours : List Nat) (rebase : Bool) (p : Point) (r : PointReading) (old : Option Int) : Option Int :=
  let kept := if rebase then old else none
  match p.kind, p.linked, r with
  | .loadCell, some id, .valid v => if neighbours.contains id then some v else kept
  | _, _, _ => kept

/-- R156: the test baselines of a capture, point by point. -/
def State.baselinesOf (s : State) (neighbours : List Nat) (rebase : Bool) (old : List (Option Int)) : List (Option Int) :=
  (List.range Config.pointCount).map fun i =>
    captureBaseline neighbours rebase (s.point (i + 1)) (s.scanned (i + 1)) (old.getD i none)

end Sys2Proof.Machine
end

