-- ==== Sys2Proof/Machine/Guards.lean ====
section
/-! DEFINITION. The Guard Unit (spec 05): GET_GUARDS, GET_FAULTS, CLEAR_FAULT, CLEAR_GROUP, RUN_SELFTEST, CLEAR_EMERGENCY;
EMERGENCY_FALLING_EDGE, EMERGENCY_LINE_RISE, JACK_OVERLOAD_TRIP, GROUT_REFUSAL_TRIP, GROUT_OVERPRESSURE_TRIP,
WINCH_JAM_TRIP, WINCH_SLACK_TRIP, NEIGHBOUR_RISE_TRIP, WALL_TILT_TRIP, SELFTEST_FAIL. -/

namespace Sys2Proof.Machine

/-! ## Self-test (R109 to R111) -/

/-- R109: the four guards that can be tested. -/
inductive TestedGuard where
  | overload (st : Stn) | overpressure | jam
  deriving DecidableEq, Repr

/-- R109: the guard of a number. -/
def TestedGuard.ofCode : Nat → Option TestedGuard
  | 1 => some (.overload .s1) | 2 => some (.overload .s2) | 3 => some .overpressure | 4 => some .jam | _ => none

/-- R109: the number of a guard. -/
def TestedGuard.code : TestedGuard → Nat
  | .overload st => st.code | .overpressure => 3 | .jam => 4

/-- The origin of a guard's station. -/
def TestedGuard.origin : TestedGuard → Origin
  | .overload st => st.origin | .overpressure => .g | .jam => .w

/-- The guard's station is enabled. -/
def State.testEnabled (s : State) : TestedGuard → Bool
  | .overload st => s.enabled st | .overpressure => s.site.enables.g | .jam => s.site.enables.w

/-- The guard's station is IDLE. -/
def State.testIdle (s : State) : TestedGuard → Bool
  | .overload st => (s.stn st).state == .idle
  | .overpressure => s.grout.state == .idle
  | .jam => s.winch.state == .idle

/-- The self-test context of the guard's station, while it is in SELFTEST. -/
def State.selfOf (s : State) : TestedGuard → Option SelfTest
  | .overload st => if (s.stn st).state = .selftest then (s.stn st).self else none
  | .overpressure => if s.grout.state = .selftest then s.grout.self else none
  | .jam => if s.winch.state = .selftest then s.winch.self else none

/-- R109: a self-test context as built. -/
def SelfTest.fresh : SelfTest := { count := 0, tripSeen := none, injected := false }

/-- R109: the station enters SELFTEST. A seat pulse that still runs after an aborted FAULT goes on through it (R43; DESIGN
CHOICE beside R30's table and R109's "drives nothing", log 33). -/
def State.startSelftest (s : State) : TestedGuard → State
  | .overload st => s.modStn st fun x => { x with state := .selftest, self := some .fresh, ovl := x.ovl.zero }
  | .overpressure =>
    { s with grout := { s.grout with state := .selftest, self := some .fresh, overp := s.grout.overp.zero } }
  | .jam => { s with winch := { s.winch with state := .selftest, self := some .fresh, jam := s.winch.jam.zero } }

/-- R111: the station of a guard leaves SELFTEST; a stressing station takes its standing. -/
def State.leaveSelftest (s : State) (passed : Bool) : TestedGuard → State
  | .overload st =>
    s.modStn st fun x => { x with state := .idle, self := none, ovl := x.ovl.zero, passed := passed }
  | .overpressure => { s with grout := { s.grout with state := .idle, self := none, overp := s.grout.overp.zero } }
  | .jam => { s with winch := { s.winch with state := .idle, self := none, jam := s.winch.jam.zero } }

/-- R111: a self-test ends, PASS with the sample count at its trip, or FAIL. A self-test of G that ends lets the arbiter
act (R134). -/
def State.endSelftest (s : State) (g : TestedGuard) (tripAt : Option Nat) : State :=
  let passed := tripAt.isSome
  let record : SelfRecord := { passed := passed, tripAt := tripAt, time := s.now }
  let s := { s with faults := { s.faults with records := s.faults.records.set (g.code - 1) (some record) } }
  let s := s.leaveSelftest passed g
  let s := s.notice .selftestDone g.origin none (detail2 g.code (if passed then 1 else 2))
  let s := if passed then s else s.raise .selftestFailed
  if g = .overpressure then s.arbiter else s

/-- RUN_SELFTEST (R109). -/
def actRunSelftest (guard : Nat) (s : State) : State × Answer :=
  match TestedGuard.ofCode guard with
  | none => refuse s .outOfRange 1
  | some g =>
    if !s.testEnabled g then refuse s .disabled
    else if !s.testIdle g then refuse s .busy
    else if s.faults.emergency.set then refuse s .emergency
    else accept (s.startSelftest g) (.plain .accepted)

/-- RUN_SELFTEST. -/
def execRunSelftest (tag guard : Nat) (s : State) : Host.Outcome State Fault Refusal :=
  s.request (.runSelftest tag guard) (actRunSelftest guard)

/-- R110, R111: one sample of a self-test: the guard is fed its threshold plus 1, whatever the sample's mark. -/
def selfSample (self : SelfTest) (g : Guard) (threshold n : Nat) : SelfTest × Guard × Option Bool :=
  let c := self.count + 1
  let e := g.eval threshold n true true
  if e.2 then ({ count := c, tripSeen := some c, injected := true }, e.1, some true)
  else ({ self with count := c }, e.1, if n + 4 ≤ c then some false else none)

/-- What a self-test's sample leads to: it goes on, or ends. -/
def State.selfNext (s : State) (g : TestedGuard) (self : SelfTest) : Option Bool → State
  | none => s
  | some _ => s.endSelftest g self.tripSeen

/-- R110: a sample of LOAD1 or LOAD2 in SELFTEST. -/
def State.selfLoad (s : State) (st : Stn) : State :=
  match s.selfOf (.overload st) with
  | none => s
  | some self =>
    let r := selfSample self (s.stn st).ovl (s.rating st) s.site.settings.nOverload
    (s.modStn st fun x => { x with self := some r.1, ovl := r.2.1 }).selfNext (.overload st) r.1 r.2.2

/-- R110: a sample of PRESSURE in SELFTEST. -/
def State.selfPressure (s : State) : State :=
  match s.selfOf .overpressure with
  | none => s
  | some self =>
    let r := selfSample self s.grout.overp s.site.limits.maxPressure s.site.settings.nOverpressure
    { s with grout := { s.grout with self := some r.1, overp := r.2.1 } }.selfNext .overpressure r.1 r.2.2

/-- R110: a sample of TENSION in SELFTEST. -/
def State.selfTension (s : State) : State :=
  match s.selfOf .jam with
  | none => s
  | some self =>
    let r := selfSample self s.winch.jam s.site.settings.jamTension s.site.settings.nJam
    { s with winch := { s.winch with self := some r.1, jam := r.2.1 } }.selfNext .jam r.1 r.2.2

/-! ## The actions of a trip (R95) -/

/-- R52, R96: the overload guard trips during a test: the station goes to FAULT, and OVERLOAD is raised (log 8). -/
def State.overloadTrip (s : State) (st : Stn) : State := (s.modStn st Station.overload).raise (.overload st)

/-- R139: the overpressure guard trips during a pass: OVERPRESSURE is raised and the pass ends FAULT. -/
def State.overpressureTrip (s : State) : State := (s.raise .overpressure).endPass .fault

/-- R121: the slack guard is active. -/
def Winch.slackActive (w : Winch) : Bool := w.state == .paying && decide (Config.slackFrom ≤ w.paid)

/-- R120: the length has reached the target, so a trip at this sample ends the run REACHED. -/
def Winch.reached (w : Winch) : Bool := w.run.any fun r => decide ((r.target : Int) ≤ w.paid)

/-- R83: the paid length formed from the drum count and published, as at every sample of TENSION. -/
def State.formPaid (s : State) : State :=
  { s with winch := { s.winch with paid := paidLength s.winch.drum s.site.settings.drumMm } }

/-- R117, R120: peak tension, and the brake timer in STOPPING. -/
def Winch.note (w : Winch) : Winch :=
  { w with run := w.run.map fun r =>
      { r with
        peak := if w.tension.win = [] then r.peak else max r.peak w.tension.level
        brakeSamples := if w.state = .stopping then r.brakeSamples + 1 else r.brakeSamples } }

/-- R83, R120: what a sample does with the winch before its guards are judged: the length is formed, and the peak raised. -/
def State.noteWinch (s : State) : State :=
  let s := s.formPaid
  { s with winch := s.winch.note }

/-- R83, R120: the end of a run at a trip of one of its guards: the length of the trip's sample is formed and the peak raised
first, and a length that has reached the target ends the run REACHED. -/
def State.winchTrip (s : State) (r : RunEnd) : State :=
  let s := s.noteWinch
  s.endRun (if s.winch.reached then .reached else r) none

/-- A guard in a list, numbered from 1, returns to 0. -/
def zeroAt (l : List Guard) (n : Nat) : List Guard := l.modify (n - 1) Guard.zero

/-- JACK_OVERLOAD_TRIP (R96, R52, R110). In SELFTEST the record gets the samples counted so far, the row's own sample not
among them (DESIGN CHOICE, log 2); the threshold as last evaluated stays as it was (DESIGN CHOICE, log 38). -/
def execJackOverloadTrip (st : Stn) (s : State) : Host.Outcome State Fault Refusal :=
  s.event fun s =>
    match s.selfOf (.overload st), (s.stn st).ctx with
    | some self, _ => s.endSelftest (.overload st) (some self.count)
    | none, some _ => (s.modStn st fun x => { x with ovl := x.ovl.zero }).overloadTrip st
    | none, none => s

/-- R136: the peak pressure of the pass at a sample. -/
def Grout.raisePeak (g : Grout) : Grout :=
  { g with pass := g.pass.map fun p =>
      { p with peakPressure := if g.pressure.win = [] then p.peakPressure else max p.peakPressure g.pressure.level } }

/-- GROUT_REFUSAL_TRIP (R139), at a sample, which raises the peak (R136). The threshold as last evaluated stays as it was
(DESIGN CHOICE, log 38). -/
def execGroutRefusalTrip (s : State) : Host.Outcome State Fault Refusal :=
  s.event fun s => if s.grout.state = .pumping then { s with grout := s.grout.raisePeak }.endPass .refusal else s

/-- GROUT_OVERPRESSURE_TRIP (R139, R110), at a sample, which raises the peak (R136). In SELFTEST the record gets the samples
counted so far, the row's own sample not among them (DESIGN CHOICE, log 2); the threshold as last evaluated stays as it
was (DESIGN CHOICE, log 38). -/
def execGroutOverpressureTrip (s : State) : Host.Outcome State Fault Refusal :=
  s.event fun s =>
    match s.selfOf .overpressure, s.grout.pass with
    | some self, _ => s.endSelftest .overpressure (some self.count)
    | none, some _ => { s with grout := { s.grout.raisePeak with overp := s.grout.overp.zero } }.overpressureTrip
    | none, none => s

/-- WINCH_JAM_TRIP (R121, R120, R110). In SELFTEST the record gets the samples counted so far, the row's own sample not
among them (DESIGN CHOICE, log 2); the threshold as last evaluated stays as it was (DESIGN CHOICE, log 38). -/
def execWinchJamTrip (s : State) : Host.Outcome State Fault Refusal :=
  s.event fun s =>
    match s.selfOf .jam with
    | some self => s.endSelftest .jam (some self.count)
    | none => if s.winch.state = .paying then s.winchTrip .jammed else s

/-- WINCH_SLACK_TRIP (R121, R120): the guard is active in PAYING from a length of 200 cm at this sample on. The threshold
as last evaluated stays as it was (DESIGN CHOICE, log 38). -/
def execWinchSlackTrip (s : State) : Host.Outcome State Fault Refusal :=
  s.event fun s => if s.formPaid.winch.slackActive then s.winchTrip .slack else s

/-- NEIGHBOUR_RISE_TRIP (R157, R48). The threshold as last evaluated stays as it was (DESIGN CHOICE, log 38). -/
def execNeighbourRiseTrip (st : Stn) (point : Nat) (s : State) : Host.Outcome State Fault Refusal :=
  s.event fun s =>
    if s.baselineHeld st point then
      (s.modStn st fun x => { x with nbr := zeroAt x.nbr point }).addCause .neighbour st
    else s

/-- R95, R153: the tilt guard of a point is active: while it is TILT with a baseline, from the first completed scan after
the capture on (log 34). -/
def Point.tiltActive (p : Point) : Bool := p.kind == .tilt && p.baseline.isSome && !p.fresh

/-- WALL_TILT_TRIP (R155), where the guard of the point is active (R95, R153). The threshold as last evaluated stays as it
was (DESIGN CHOICE, log 38). -/
def execWallTiltTrip (point : Nat) (s : State) : Host.Outcome State Fault Refusal :=
  s.event fun s =>
    if (s.point point).tiltActive then
      { s with wall := { s.wall with tilt := zeroAt s.wall.tilt point } }.raise .tiltExceeded
    else s

/-- SELFTEST_FAIL (R111): the sample count has reached N + 4 without a trip. -/
def execSelftestFail (guard : Nat) (s : State) : Host.Outcome State Fault Refusal :=
  s.event fun s =>
    match TestedGuard.ofCode guard with
    | none => s
    | some g => if (s.selfOf g).isSome then s.endSelftest g none else s

/-! ## Guard snapshot (R97) -/

/-- R97: activity, count, N and the threshold as last evaluated. -/
def guardFields (active : Bool) (g : Guard) (n : Nat) : List WField :=
  [.flag active, .u8 g.count, .u8 n] ++ WField.opt (fun t => [.u16 t]) g.last

/-- R95: the jack overload guard is active. -/
def Station.overloadActive (x : Station) : Bool := x.state != .idle

/-- R157: the neighbour-rise guards of a station that exist, with their point. -/
def Station.riseGuards (x : Station) : List (Nat × Guard) :=
  (List.range Config.pointCount).filterMap fun i =>
    if (x.ctx.bind fun c => c.baselines.getD i none).isSome then some (i + 1, x.nbr.getD i .rest) else none

/-- R97: the guards in the order of R95's table; the neighbour-rise and wall tilt guards by station and point. All sixteen
wall tilt guards are listed, of points that are not TILT or hold no baseline too, and a neighbour-rise guard only where the
test holds a baseline of its point (DESIGN CHOICE, log 11). -/
def guardList (s : State) : List WField :=
  let t := s.site.settings
  guardFields s.s1.overloadActive s.s1.ovl t.nOverload ++ guardFields s.s2.overloadActive s.s2.ovl t.nOverload ++
  guardFields (s.grout.state == .pumping) s.grout.refusal t.nRefusal ++
  guardFields (s.grout.state != .idle) s.grout.overp t.nOverpressure ++
  guardFields (s.winch.state == .paying || s.winch.state == .selftest) s.winch.jam t.nJam ++
  guardFields s.winch.slackActive s.winch.slack t.nSlack ++
  WField.list (fun p => .u8 p.1 :: guardFields true p.2 t.nNeighbour) s.s1.riseGuards ++
  WField.list (fun p => .u8 p.1 :: guardFields true p.2 t.nNeighbour) s.s2.riseGuards ++
  (List.range Config.pointCount).flatMap fun i =>
    guardFields (s.point (i + 1)).tiltActive (s.wall.tilt.getD i .rest) t.nTilt

/-- R97. -/
def actGetGuards (page : Option Nat) (s : State) : State × Answer := accept s (paged page (guardList s))

/-- GET_GUARDS. -/
def execGetGuards (tag : Nat) (page : Option Nat) (s : State) : Host.Outcome State Fault Refusal :=
  s.request (.getGuards tag page) (actGetGuards page)

/-! ## Flags (R102, R103, R105) -/

/-- R105: a group: its combined flag, and its detailed flags with whether their conditions are present. -/
def groupFields (s : State) (group : Nat) : List WField :=
  .flag (s.combined group) ::
    (Flag.all.filter fun f => f.group == group).flatMap fun f => [.flag (s.flag f), .flag (s.condition f)]

/-- R111: a self-test record. -/
def recordFields (r : SelfRecord) : List WField :=
  [.u8 (if r.passed then 1 else 2)] ++ WField.opt (fun n => [.u8 n]) r.tripAt ++ WField.opt (fun t => [.u32 t]) r.time

/-- R105: TRIP is asserted or deasserted (1 or 2, R193); a line level is HIGH 1 or LOW 2 (DESIGN CHOICE, log 11). -/
def faultFields (s : State) : List WField :=
  let e := s.faults.emergency
  [1, 2, 3, 4, 5, 6].flatMap (groupFields s) ++
  [.u32 s.site.limits.combMask.toNat, .u32 s.site.limits.tripMask.toNat, .either s.faults.trip, .flag e.set,
   .u8 (e.estop.toNat + 2 * e.wallTrip.toNat)] ++ WField.opt (fun t => [.u32 t]) e.time ++
  [.either s.estopHigh, .either s.wallTripHigh, .u8 (if s.s1.passed then 2 else 1), .u8 (if s.s2.passed then 2 else 1)] ++
  s.faults.records.flatMap (WField.opt recordFields)

/-- R105. -/
def actGetFaults (page : Option Nat) (s : State) : State × Answer := accept s (paged page (faultFields s))

/-- GET_FAULTS. -/
def execGetFaults (tag : Nat) (page : Option Nat) (s : State) : Host.Outcome State Fault Refusal :=
  s.request (.getFaults tag page) (actGetFaults page)

/-- R102. -/
def actClearFault (group code : Nat) (s : State) : State × Answer :=
  if !inRange 1 6 group then refuse s .outOfRange 1
  else
    match Flag.ofCodes group code with
    | none => refuse s .outOfRange 2
    | some f =>
      if !s.groupLive f.group then accept s
      else if s.flag f && s.condition f then refuse s .conditionPresent code
      else accept (s.clearFlag f)

/-- CLEAR_FAULT. -/
def execClearFault (tag group code : Nat) (s : State) : Host.Outcome State Fault Refusal :=
  s.request (.clearFault tag group code) (actClearFault group code)

/-- R103: the lowest code of a set flag of a group. -/
def State.lowestSet (s : State) (group : Nat) : Option Nat :=
  (Flag.all.find? fun f => f.group == group && s.flag f).map (·.code)

/-- R103; R134: a GROUT group that is cleared lets the arbiter act. -/
def actClearGroup (group : Nat) (s : State) : State × Answer :=
  if !inRange 1 6 group then refuse s .outOfRange 1
  else
    match s.lowestSet group with
    | some code => refuse s .flagsRemain code
    | none =>
      if !s.combined group then accept s
      else
        let s := s.clearCombined group
        accept (if group = 4 then s.arbiter else s)

/-- CLEAR_GROUP. -/
def execClearGroup (tag group : Nat) (s : State) : Host.Outcome State Fault Refusal :=
  s.request (.clearGroup tag group) (actClearGroup group)

/-! ## The emergency lines (R113 to R115) -/

/-- The level of an emergency line. -/
def State.lineHigh (s : State) : EmLine → Bool
  | .estop => s.estopHigh
  | .wallTrip => s.wallTripHigh

/-- An emergency line takes a level. -/
def State.setLine (s : State) (line : EmLine) (high : Bool) : State :=
  match line with
  | .estop => { s with estopHigh := high }
  | .wallTrip => { s with wallTripHigh := high }

/-- EMERGENCY_FALLING_EDGE (R113): an edge through start-up or in reset only leaves the line LOW. -/
def execEmergencyFallingEdge (line : EmLine) (s : State) : Host.Outcome State Fault Refusal :=
  .next
    (if s.lineHigh line then
      let s := s.setLine line false
      if s.phase = .running then s.setEmergency line else s
    else s)

/-- EMERGENCY_LINE_RISE (R113): a rising edge changes nothing but the level. -/
def execEmergencyLineRise (line : EmLine) (s : State) : Host.Outcome State Fault Refusal := .next (s.setLine line true)

/-- R115: the emergency state cleared. -/
def State.clearEmergency (s : State) : State :=
  let s := { s with faults := { s.faults with emergency := .clear } }
  ((s.dropCause .emergency).endCondition .emergency .system).arbiter

/-- R115. -/
def actClearEmergency (s : State) : State × Answer :=
  let low := (!s.estopHigh).toNat + 2 * (!s.wallTripHigh).toNat
  if !s.faults.emergency.set then accept s
  else if low ≠ 0 then refuse s .conditionPresent low
  else accept s.clearEmergency

/-- CLEAR_EMERGENCY. -/
def execClearEmergency (tag : Nat) (s : State) : Host.Outcome State Fault Refusal :=
  s.request (.clearEmergency tag) actClearEmergency

end Sys2Proof.Machine
end

