-- ==== Sys2Proof/Machine/Register.lean ====
section
/-! DEFINITION. Requests of the Anchor Register (spec 01): DECLARE, AMEND, VOID, GET_ANCHOR, LIST_ANCHORS. -/

namespace Sys2Proof.Machine

/-! ## DECLARE (R10, R11) -/

/-- R11: the entry of an accepted DECLARE. -/
def Entry.fresh (d : Decl) : Entry where
  decl := d
  stage := .declared
  prior := none
  test := none
  pass := none
  attempts := 0
  counted := false
  primaryEnd := none
  postDone := 0
  postDue := false
  interrupted := none
  winch := none
  passes := []
  result := none

/-- R10, R11. -/
def actDeclare (d : DeclareBody) (s : State) : State × Answer :=
  if Config.maxAnchors ≤ s.reg.length then refuse s .full
  else if (s.entry d.id).isSome then refuse s .duplicate
  else
    match declareFailure s.site.limits d with
    | some i => refuse s .outOfRange i
    | none =>
      match relationFailure s.site (declOf d) with
      | some i => refuse s .outOfRange i
      | none => accept { s with reg := s.reg ++ [.fresh (declOf d)] } (.plain .ok (s.reg.length + 1))

/-- DECLARE. -/
def execDeclare (tag : Nat) (d : DeclareBody) (s : State) : Host.Outcome State Fault Refusal :=
  s.request (.declare tag d) (actDeclare d)

/-! ## Operations in flight -/

/-- R12 check 2, but for a queued grout request. -/
def State.inFlight (s : State) (e : Entry) : Bool :=
  e.stage == .stressing || e.stage == .grouting || e.stage == .closing ||
  (s.winch.state != .idle && s.winch.run.any (fun r => r.anchor == e.decl.id)) ||
  s.grout.pass.any (fun p => p.anchor == e.decl.id)

/-- R12 check 2: a grout request for the anchor is queued. -/
def State.queued (s : State) (id : Nat) : Bool := s.grout.queue.any fun q => q.anchor == id

/-! ## AMEND (R12, R13) -/

/-- The field index of an AMEND item. -/
def itemIndex : AmendItem → Nat
  | .value i _ => i
  | .neighbours _ _ => 18

/-- R12: the first item whose index is outside 2-18 or repeats an earlier one. -/
def amendIndexFailure : List Nat → List AmendItem → Option Nat
  | _, [] => none
  | seen, it :: rest =>
    if inRange 2 18 (itemIndex it) && !seen.contains (itemIndex it) then
      amendIndexFailure (itemIndex it :: seen) rest
    else some (itemIndex it)

/-- Whether an AMEND names a field. -/
def names (items : List AmendItem) (i : Nat) : Bool := items.any fun it => itemIndex it == i

/-- The new value an AMEND gives a numeric field. -/
def newValue (items : List AmendItem) (i : Nat) : Option Nat :=
  items.findSome? fun it =>
    match it with
    | .value j v => if j = i then some v else none
    | .neighbours _ _ => none

/-- The new neighbour list of an AMEND, with its count. -/
def newNeighbours (items : List AmendItem) : Option (Nat × List Nat) :=
  items.findSome? fun it =>
    match it with
    | .value _ _ => none
    | .neighbours c ids => some (c, ids)

/-- R13: the declaration after an AMEND. -/
def amended (d : Decl) (items : List AmendItem) : Decl :=
  let v (i old : Nat) : Nat := (newValue items i).getD old
  let passes := v 13 d.passes
  let old : PostDecl := d.post.getD default
  { id := d.id
    row := v 2 d.row
    lFree := v 3 d.lFree
    lBond := v 4 d.lBond
    area := v 5 d.area
    modulus := v 6 d.modulus
    pw := v 7 d.pw
    pp := v 8 d.pp
    pa := v 9 d.pa
    plo := v 10 d.plo
    volCap := v 11 d.volCap
    refusal := v 12 d.refusal
    passes := passes
    post :=
      if passes = 0 then none
      else some { interval := v 14 old.interval, volCap := v 15 old.volCap, refusal := v 16 old.refusal }
    cure := v 17 d.cure
    neighbours :=
      match newNeighbours items with
      | some (c, ids) => ids.take c
      | none => d.neighbours }

/-- R12 check 4: the lowest named field that a GROUTED or REJECTED anchor does not let change. -/
def lockedFieldNamed (items : List AmendItem) : Option Nat :=
  (List.range 19).find? fun i => names items i && !([7, 8, 9, 10, 17, 18].contains i)

/-- R12 check 6: the lowest named field outside its range; 14 to 16 skipped when field 13 would be 0. -/
def amendRangeFailure (l : Limits) (d : Decl) (items : List AmendItem) : Option Nat :=
  let passes := (newValue items 13).getD d.passes
  (List.range 19).find? fun i =>
    names items i && !(passes == 0 && inRange 14 16 i) &&
      (if i = 18 then
        match newNeighbours items with
        | some (c, ids) => !neighboursOk d.id c ids
        | none => false
      else
        match newValue items i with
        | some v => !fieldInRange l i v
        | none => false)

/-- R12 check 7: the lowest of fields 14 to 16 that is missing when field 13 rises from 0. -/
def postFieldMissing (d : Decl) (items : List AmendItem) : Option Nat :=
  if d.passes = 0 ∧ 0 < (newValue items 13).getD d.passes then [14, 15, 16].find? fun i => !names items i else none

/-- R12, R13. An AMEND that names no field is answered OK without the relations of check 8, whatever the limits and settings
have become (DESIGN CHOICE, log 41). -/
def actAmend (id : Nat) (items : List AmendItem) (s : State) : State × Answer :=
  match amendIndexFailure [] items with
  | some i => refuse s .outOfRange i
  | none =>
    match s.entry id with
    | none => refuse s .noSuchAnchor
    | some e =>
      if s.inFlight e || s.queued id then refuse s .busy
      else if e.stage = .locked ∨ e.stage = .lockFault ∨ e.stage = .voided then refuse s .wrongStage
      else
        match (if e.stage = .grouted ∨ e.stage = .rejected then lockedFieldNamed items else none) with
        | some i => refuse s .wrongStage i
        | none =>
          if names items 10 && e.counted then refuse s .wrongStage 10
          else
            match amendRangeFailure s.site.limits e.decl items with
            | some i => refuse s .outOfRange i
            | none =>
              match postFieldMissing e.decl items with
              | some i => refuse s .outOfRange i
              | none =>
                if items = [] then accept s
                else
                  match relationFailure s.site (amended e.decl items) with
                  | some i => refuse s .outOfRange i
                  | none => accept (s.modEntry id fun e => { e with decl := amended e.decl items })

/-- AMEND. -/
def execAmend (tag id : Nat) (items : List AmendItem) (s : State) : Host.Outcome State Fault Refusal :=
  s.request (.amend tag id items) (actAmend id items)

/-! ## VOID (R14) -/

/-- R14. -/
def actVoid (id : Nat) (s : State) : State × Answer :=
  match s.entry id with
  | none => refuse s .noSuchAnchor
  | some e =>
    if s.inFlight e then refuse s .busy
    else if e.stage = .declared ∨ e.stage = .placed ∨ e.stage = .grouted ∨ e.stage = .rejected then
      let s := s.modEntry id fun e => { e with stage := .voided, postDue := false }
      accept { s with grout := { s.grout with queue := s.grout.queue.eraseP fun q => q.anchor == id } }
    else refuse s .wrongStage

/-- VOID. -/
def execVoid (tag id : Nat) (s : State) : Host.Outcome State Fault Refusal := s.request (.void tag id) (actVoid id)

/-! ## Queries (R15, R16) -/

/-- R6: the test in progress. -/
def testMarkFields (t : TestMark) : List WField := [.u8 t.stn.code, .u8 t.slot, .u8 t.shape.code, .u32 t.start]

/-- R6: the pass in progress. -/
def passMarkFields (p : PassMark) : List WField := [.u8 p.kind.code, .u8 p.port, .u32 p.start]

/-- R15: the position of an anchor in declaration order, from 1. -/
def State.position (s : State) (id : Nat) : Nat := (s.reg.findIdx fun e => e.decl.id == id) + 1

/-- R15 PROGRESS. -/
def progressFields (e : Entry) (position : Nat) : List WField :=
  [.u8 e.stage.code] ++ WField.opt (fun p => [.u8 p.code]) e.prior ++ WField.opt testMarkFields e.test ++
  WField.opt passMarkFields e.pass ++ [.u8 e.attempts, .flag e.counted] ++
  WField.opt (fun t => [.u32 t]) e.primaryEnd ++ [.u8 e.postDone, .flag e.postDue] ++
  WField.opt (fun i => [.u8 i.code]) e.interrupted ++ [.u8 position]

/-- R15. -/
def actGetAnchor (id part first : Nat) (s : State) : State × Answer :=
  match s.entry id with
  | none => refuse s .noSuchAnchor
  | some e =>
    match part with
    | 1 => accept s (.reply (declFields e.decl))
    | 2 => accept s (.reply (progressFields e (s.position id)))
    | 3 => accept s (.reply (installationFields e.winch e.passes))
    | 4 => accept s (.reply (WField.opt resultFields e.result ++ [.u8 (readingsOf e.result).length]))
    | 5 => if first = 0 then refuse s .outOfRange 3 else accept s (.reply (readingPage (readingsOf e.result) first))
    | _ => refuse s .outOfRange 2

/-- GET_ANCHOR. -/
def execGetAnchor (tag id part first : Nat) (s : State) : Host.Outcome State Fault Refusal :=
  s.request (.getAnchor tag id part first) (actGetAnchor id part first)

/-- R16. -/
def actListAnchors (filter : Nat) (s : State) : State × Answer :=
  if 10 < filter then refuse s .outOfRange 1
  else
    let hits := s.reg.filter fun e => filter == 0 || e.stage.code == filter
    accept s (.reply (WField.list (fun e => [.u16 e.decl.id, .u8 e.stage.code, .flag e.interrupted.isSome]) hits))

/-- LIST_ANCHORS. -/
def execListAnchors (tag filter : Nat) (s : State) : Host.Outcome State Fault Refusal :=
  s.request (.listAnchors tag filter) (actListAnchors filter)

end Sys2Proof.Machine
end

