-- ==== Sys2Proof/Machine/Grouting.lean ====
section
/-! DEFINITION. The grout manifold (spec 07): ASSIGN_PORT, RELEASE_PORT, GROUT_REQUEST, GROUT_CANCEL, GROUT_STOP,
GROUT_PAUSE, GROUT_RESUME, GET_GROUT; VALVE_TRAVEL_END, PAUSE_EXPIRED, NO_FLOW, ARBITER_SERVE, SITE_MINUTE, and its part
of a sample of PRESSURE. -/

namespace Sys2Proof.Machine

/-! ## Ports (R129, R130) -/

/-- The anchor a port holds, the port numbered from 1. -/
def State.portAnchor (s : State) (port : Nat) : Option Nat := s.grout.ports.getD (port - 1) none

/-- A port table entry set. -/
def State.setPort (s : State) (port : Nat) (a : Option Nat) : State :=
  { s with grout := { s.grout with ports := s.grout.ports.set (port - 1) a } }

/-- The port of the active pass. -/
def State.portActive (s : State) (port : Nat) : Bool := s.grout.pass.any fun p => p.port == port

/-- R129. -/
def actAssignPort (port anchor : Nat) (s : State) : State × Answer :=
  if !inRange 1 6 port then refuse s .outOfRange 1
  else if s.portActive port then refuse s .busy
  else if (s.entry anchor).isNone then refuse s .noSuchAnchor
  else
    match s.portAnchor port with
    | some a => if a = anchor then accept s else refuse s .busy a
    | none =>
      match s.portOf anchor with
      | some p => refuse s .duplicate p
      | none => accept (s.setPort port (some anchor)).arbiter

/-- ASSIGN_PORT. -/
def execAssignPort (tag port anchor : Nat) (s : State) : Host.Outcome State Fault Refusal :=
  s.request (.assignPort tag port anchor) (actAssignPort port anchor)

/-- R130. -/
def actReleasePort (port : Nat) (s : State) : State × Answer :=
  if !inRange 1 6 port then refuse s .outOfRange 1
  else if s.portActive port then refuse s .busy
  else accept (s.setPort port none)

/-- RELEASE_PORT. -/
def execReleasePort (tag port : Nat) (s : State) : Host.Outcome State Fault Refusal :=
  s.request (.releasePort tag port) (actReleasePort port)

/-! ## The queue (R131 to R133) -/

/-- A pass of the anchor is active. -/
def State.passActive (s : State) (anchor : Nat) : Bool := s.grout.pass.any fun p => p.anchor == anchor

/-- R131: a request joins the end of the queue. -/
def State.joinQueue (s : State) (anchor : Nat) (k : PassKind) : State :=
  { s with grout :=
      { s.grout with queue := s.grout.queue ++ [{ anchor := anchor, kind := k, joined := s.site.clock }] } }

/-- R132 check 6. -/
def Entry.primaryPasses (e : Entry) : Nat := (e.passes.filter fun p => p.kind == .primary).length

/-- R132. -/
def actGroutRequest (anchor : Nat) (s : State) : State × Answer :=
  match firstRefusal
      [(s.site.enables.g, .disabled, 0), (decide (s.grout.queue.length < Config.groutPlaces), .full, 0),
       (!s.queued anchor && !s.passActive anchor, .duplicate, 0)] with
  | some r => refuse s r.1 r.2
  | none =>
    match s.entry anchor with
    | none => refuse s .noSuchAnchor
    | some e =>
      match firstRefusal
          [(e.stage == .placed, .wrongStage, 0), (decide (e.primaryPasses < Config.maxAttempts), .attemptsExhausted, 0),
           ((s.portOf anchor).isSome, .noPort, 0), (s.site.clockValid, .clockUnset, 0)] with
      | some r => refuse s r.1 r.2
      | none => accept (s.joinQueue anchor .primary).arbiter (.plain .ok (s.grout.queue.length + 1))

/-- GROUT_REQUEST. -/
def execGroutRequest (tag anchor : Nat) (s : State) : Host.Outcome State Fault Refusal :=
  s.request (.groutRequest tag anchor) (actGroutRequest anchor)

/-- R133. -/
def actGroutCancel (anchor : Nat) (s : State) : State × Answer :=
  if s.passActive anchor then refuse s .busy
  else if !s.queued anchor then refuse s .wrongStage
  else accept { s with grout := { s.grout with queue := s.grout.queue.eraseP fun q => q.anchor == anchor } }

/-- GROUT_CANCEL. -/
def execGroutCancel (tag anchor : Nat) (s : State) : Host.Outcome State Fault Refusal :=
  s.request (.groutCancel tag anchor) (actGroutCancel anchor)

/-! ## Stopping, pausing, resuming (R140 to R143) -/

/-- R140. -/
def actGroutStop (s : State) : State × Answer :=
  if !s.site.enables.g then refuse s .disabled
  else
    match s.grout.state with
    | .idle | .selftest => refuse s .wrongStage
    | .starting | .pumping | .paused => accept (s.endPass .stopped)
    | .ending => accept s

/-- GROUT_STOP. -/
def execGroutStop (tag : Nat) (s : State) : Host.Outcome State Fault Refusal := s.request (.groutStop tag) actGroutStop

/-- R141. -/
def actGroutPause (s : State) : State × Answer :=
  if !s.site.enables.g then refuse s .disabled
  else
    match s.grout.state with
    | .idle | .selftest | .ending => refuse s .wrongStage
    | .starting | .pumping | .paused => accept (s.addPassCause .host)

/-- GROUT_PAUSE. -/
def execGroutPause (tag : Nat) (s : State) : Host.Outcome State Fault Refusal :=
  s.request (.groutPause tag) actGroutPause

/-- R143: the pass leaves PAUSED. -/
def State.resumePass (s : State) (p : Pass) : State :=
  s.modGrout fun g =>
    { g with state := .starting, pass := some { p with causes := p.causes.remove .host } }.modValve p.port Valve.openCmd

/-- R143. -/
def actGroutResume (s : State) : State × Answer :=
  if !s.site.enables.g then refuse s .disabled
  else if s.grout.state ≠ .paused then refuse s .wrongStage
  else
    match s.grout.pass with
    | none => refuse s .wrongStage
    | some p =>
      if p.causes.hasCondition then refuse s .conditionPresent p.causes.bits
      else if s.combined 4 then refuse s .faulted
      else accept (s.resumePass p)

/-- GROUT_RESUME. -/
def execGroutResume (tag : Nat) (s : State) : Host.Outcome State Fault Refusal :=
  s.request (.groutResume tag) actGroutResume

/-! ## GET_GROUT (R150) -/

/-- R150: an active pass. -/
def passFields (g : Grout) (p : Pass) : List WField :=
  [.u16 p.anchor, .u8 p.kind.code, .u8 p.port, .u32 p.start, .u32 p.cap, .u16 p.refusal, .u32 p.volume,
   .u16 g.flow.published, .u16 g.pressure.level, .u16 p.peakPressure, .u16 p.peakFlow, .u8 p.causes.bits] ++
  WField.opt (fun n => [.u16 n]) (if g.state = .paused then some (secondsLeft p.pauseLimit p.pauseSamples) else none) ++
  WField.opt (fun t => [.u16 (secondsLeft t.2 t.1)]) p.noFlow ++ WField.opt (fun r => [.u8 r.code]) p.reason ++
  WField.opt (fun t => [.u32 t]) p.endTime

/-- R150. The state is coded in the order of R136 (R193). -/
def groutFields (s : State) : List WField :=
  let g := s.grout
  [.u8 g.state.listed, .flag s.site.enables.g] ++ g.ports.flatMap (WField.opt fun a => [.u16 a]) ++
  g.valves.map (fun v => .u8 v.state.code) ++ [.u8 g.queue.length] ++
  (g.queue.zipIdx.flatMap fun q =>
    [.u8 (q.2 + 1), .u16 q.1.anchor, .u8 q.1.kind.code, .u32 q.1.joined, .flag (s.eligible q.1)]) ++
  WField.opt (passFields g) g.pass ++ [.u8 g.refusal.count, .u8 g.overp.count, .u8 g.waiting] ++
  WField.opt (fun t => [.u32 t]) g.lastRun ++ WField.list (fun a => [.u16 a]) g.cure

/-- R150. -/
def actGetGrout (page : Option Nat) (s : State) : State × Answer := accept s (paged page (groutFields s))

/-- GET_GROUT. -/
def execGetGrout (tag : Nat) (page : Option Nat) (s : State) : Host.Outcome State Fault Refusal :=
  s.request (.getGrout tag page) (actGetGrout page)

/-! ## Timed events -/

/-- R137: the valve of a starting pass reaches OPEN. -/
def State.enterPumping (s : State) (p : Pass) : State :=
  { s with grout :=
      { s.grout with
        state := .pumping
        pump := { s.grout.pump with cmd := 1000 }
        pass := some { p with noFlow := some (0, s.site.settings.noFlowTime) } } }

/-- VALVE_TRAVEL_END (R90, R137, R144). -/
def execValveTravelEnd (port : Nat) (s : State) : Host.Outcome State Fault Refusal :=
  s.event fun s =>
    let was := s.grout.valve port
    let s := s.modGrout fun g => g.modValve port Valve.travelEnd
    match s.grout.pass with
    | none => s
    | some p =>
      if p.port ≠ port then s
      else if was.state = .opening ∧ s.grout.state = .starting then s.enterPumping p
      else if was.state = .closing ∧ s.grout.state = .ending then s.completePass
      else s

/-- PAUSE_EXPIRED (R142). -/
def execPauseExpired (s : State) : Host.Outcome State Fault Refusal :=
  s.event fun s => if s.grout.state = .paused then s.endPass .pauseExpired else s

/-- NO_FLOW (R138): the no-flow timer of the pass runs out. -/
def execNoFlow (s : State) : Host.Outcome State Fault Refusal :=
  s.event fun s =>
    if s.grout.state = .pumping ∧ (s.grout.pass.bind (·.noFlow)).isSome then s.endPass .noFlow else s

/-- ARBITER_SERVE (R134). -/
def execArbiterServe (s : State) : Host.Outcome State Fault Refusal := s.event State.arbiter

/-! ## The site minute (R85, R146 to R148) -/

/-- R146: a GROUTED entry is due for its next post pass. -/
def State.postPassDue (s : State) (e : Entry) : Bool :=
  e.stage == .grouted && decide (e.postDone < e.decl.passes) &&
    e.primaryEnd.any (fun t =>
      decide (t + (e.postDone + 1) * (e.decl.post.getD default).interval * 3600 ≤ s.site.clock)) &&
    !s.queued e.decl.id && !s.passActive e.decl.id

/-- R146: one visit of the scheduler: the state after it, and the waiting entries so far. -/
def visitPost (acc : State × List Nat) (id : Nat) : State × List Nat :=
  let s := acc.1
  match s.entry id with
  | none => acc
  | some e =>
    if !s.postPassDue e then acc
    else if (s.portOf id).isNone then (s.modEntry id fun e => { e with postDue := true }, acc.2 ++ [id])
    else if Config.groutPlaces ≤ s.grout.queue.length then (s, acc.2 ++ [id])
    else (((s.joinQueue id .post).modEntry id fun e => { e with postDue := false }).arbiter, acc.2)

/-- R147: POSTGROUT_DUE judged at the end of a run. -/
def State.judgeWaiting (s : State) (waiting : List Nat) : State :=
  let before := s.grout.waiting
  let s := { s with grout := { s.grout with waiting := waiting.length, lastRun := some s.site.clock } }
  match waiting with
  | [] => s.endCondition .postgroutDue .g
  | id :: _ => if before = 0 then s.notice .postgroutDue .g (some id) waiting.length else s

/-- R148: one visit for CURE_COMPLETE. -/
def visitCure (s : State) (id : Nat) : State :=
  match s.entry id with
  | none => s
  | some e =>
    if e.stage = .grouted ∧ !s.grout.cure.contains id ∧ e.postDone = e.decl.passes ∧ !s.queued id ∧ !s.passActive id ∧
        e.primaryEnd.any (fun t => decide (t + e.decl.cure * 3600 ≤ s.site.clock)) then
      { s with grout := { s.grout with cure := s.grout.cure ++ [id] } }.notice .cureComplete .g (some id) 0
    else s

/-- R146 to R148: the scheduler runs: the post-grout visits of the GROUTED entries in declaration order, then the visits for
CURE_COMPLETE, and at the end of the run POSTGROUT_DUE is judged. -/
def State.scheduler (s : State) : State :=
  let ids := (s.reg.filter fun e => e.stage == .grouted).map fun e => e.decl.id
  let r := ids.foldl visitPost (s, [])
  (ids.foldl visitCure r.1).judgeWaiting r.2

/-- R85, R146: a site minute: the stray count returns to 0, and the scheduler runs while the clock is valid and G is
enabled. -/
def State.siteMinute (s : State) : State :=
  let s := { s with grout := { s.grout with flow := { s.grout.flow with stray := 0, lowered := false } } }
  if s.site.clockValid && s.site.enables.g then s.scheduler else s

/-- SITE_MINUTE (R146): the clock count stands at a whole multiple of 60 s (log 23). -/
def execSiteMinute (s : State) : Host.Outcome State Fault Refusal :=
  s.event fun s => if s.site.clock % 60 = 0 then s.siteMinute else s

/-! ## A sample of PRESSURE (R136, R139) -/

/-- R136: peak pressure, and the timers of the pass. -/
def Grout.note (g : Grout) : Grout :=
  let g := g.raisePeak
  { g with pass := g.pass.map fun p =>
      { p with
        pauseSamples := if g.state = .paused then p.pauseSamples + 1 else p.pauseSamples
        noFlow := p.noFlow.map fun t => (t.1 + 1, t.2) } }

/-- R139: the refusal guard at a sample, active in PUMPING. -/
def State.refusalSample (s : State) : State :=
  match s.grout.state, s.grout.pass with
  | .pumping, some p =>
    let g := s.grout
    let r := g.refusal.eval p.refusal s.site.settings.nRefusal (g.pressure.mark == some .valid)
      (decide (p.refusal ≤ g.pressure.level))
    let s := { s with grout := { g with refusal := r.1 } }
    if r.2 then s.endPass .refusal else s
  | _, _ => s

/-- R139: the overpressure guard at a sample, active while a pass is. -/
def State.overpressureSample (s : State) : State :=
  let g := s.grout
  if g.pass.isSome then
    let max := s.site.limits.maxPressure
    let r := g.overp.eval max s.site.settings.nOverpressure (g.pressure.mark == some .valid)
      (decide (max ≤ g.pressure.level))
    let s := { s with grout := { g with overp := r.1 } }
    if r.2 then s.overpressureTrip else s
  else s

/-- The grout station acts on the pressure published at a sample; `guardFirst` has the overpressure guard judged before
the refusal guard (log 6). -/
def State.groutSample (s : State) (guardFirst : Bool) : State :=
  if s.grout.state = .selftest then s.selfPressure
  else
    let s := { s with grout := s.grout.note }
    if guardFirst then s.overpressureSample.refusalSample else s.refusalSample.overpressureSample

end Sys2Proof.Machine
end

