-- ==== Sys2Proof/Machine/SiteStore.lean ====
section
/-! DEFINITION. Site limits, site settings, clock, tags and IDENTIFY (spec 12): SET_LIMITS, GET_LIMITS, LOCK_LIMITS,
SET_SETTINGS, GET_SETTINGS, SET_TIME, GET_TIME, SET_TAG, GET_TAGS, IDENTIFY, SITE_CLOCK_SECOND. -/

namespace Sys2Proof.Machine

/-! ## Limits (R194, R195) -/

/-- R195: the limits as they would stand after the request. -/
def Limits.writeAll (l : Limits) (items : List (Nat × Nat)) : Limits := items.foldl (fun l i => l.write i.1 i.2) l

/-- R195 check 3: the cross checks, in index order. -/
def State.limitsCross (s : State) (l : Limits) : Option (Resp × Nat) :=
  let holds (x : Station) (rating : Nat) : Bool := !x.ctx.any fun c => decide (rating < c.pp)
  let rowOk (r : Nat) : Bool :=
    decide ((s.row r).locked + (s.row r).reserved ≤ l.ceilings.getD (r - 1) 0)
  firstRefusal
    ([(holds s.s1 l.rating1, .busy, 1), (holds s.s2 l.rating2, .busy, 2)] ++
      [1, 2, 3, 4, 5, 6, 7, 8].map fun r => (rowOk r, .outOfRange, r + 4))

/-- R195. With the lock set, a count of 0 too is answered LIMITS_LOCKED, by check 1, and not the OK that R195 gives a count
of 0 (DEDUCED, log 42). -/
def actSetLimits (items : List (Nat × Nat)) (s : State) : State × Answer :=
  if s.site.locked then refuse s .limitsLocked
  else
    match itemFailure limitInRange [] items with
    | some i => refuse s .outOfRange i
    | none =>
      if items = [] then accept s
      else
        let l := s.site.limits.writeAll items
        match s.limitsCross l with
        | some r => refuse s r.1 r.2
        | none => accept { s with site := { s.site with limits := l } }.applyMasks

/-- SET_LIMITS. -/
def execSetLimits (tag : Nat) (items : List (Nat × Nat)) (s : State) : Host.Outcome State Fault Refusal :=
  s.request (.setLimits tag items) (actSetLimits items)

/-- R194: the limits in index order, and the lock. -/
def limitFields (s : State) : List WField :=
  let l := s.site.limits
  [.u16 l.rating1, .u16 l.rating2, .u16 l.rateLimit, .u16 l.maxPressure] ++ l.ceilings.map .u16 ++
  [.u16 l.minCure, .u16 l.creepLimit, .u8 l.loPct, .u8 l.hiPct, .u8 l.liftTol, .u32 l.combMask.toNat,
   .u32 l.tripMask.toNat, .flag s.site.locked]

/-- R194. -/
def actGetLimits (page : Option Nat) (s : State) : State × Answer := accept s (paged page (limitFields s))

/-- GET_LIMITS. -/
def execGetLimits (tag : Nat) (page : Option Nat) (s : State) : Host.Outcome State Fault Refusal :=
  s.request (.getLimits tag page) (actGetLimits page)

/-- R194. -/
def actLockLimits (s : State) : State × Answer := accept { s with site := { s.site with locked := true } }

/-- LOCK_LIMITS. -/
def execLockLimits (tag : Nat) (s : State) : Host.Outcome State Fault Refusal := s.request (.lockLimits tag) actLockLimits

/-! ## Settings (R196) -/

/-- R196: the settings as they would stand after the request. -/
def Settings.writeAll (t : Settings) (items : List (Nat × Nat)) : Settings := items.foldl (fun t i => t.write i.1 i.2) t

/-- R196, R85, R189: the settings written; a changed window restarts or stops the watch, and a leak limit lowered to or
below the stray count is marked for the next stray pulse. A changed drum mm-per-pulse leaves the published length until the
next sample of TENSION forms it (R83); R120 has it move at once (DESIGN CHOICE, log 40). -/
def State.writeSettings (s : State) (t : Settings) : State :=
  let old := s.site.settings
  let f := s.grout.flow
  let lowered := f.lowered || (decide (t.leakLimit < old.leakLimit) && decide (t.leakLimit ≤ f.stray))
  let s := { s with
    site := { s.site with settings := t }
    grout := { s.grout with flow := { f with lowered := lowered } } }
  if t.linkWindow = old.linkWindow then s else { s with link := { s.link with watch := s.watchFromSettings } }

/-- R196. -/
def actSetSettings (items : List (Nat × Nat)) (s : State) : State × Answer :=
  match itemFailure settingInRange [] items with
  | some i => refuse s .outOfRange i
  | none =>
    let t := s.site.settings.writeAll items
    if t.jamTension ≤ t.slackTension then refuse s .outOfRange 15
    else if t.stroke ≤ t.strokeMargin then refuse s .outOfRange 6
    else accept (s.writeSettings t)

/-- SET_SETTINGS. -/
def execSetSettings (tag : Nat) (items : List (Nat × Nat)) (s : State) : Host.Outcome State Fault Refusal :=
  s.request (.setSettings tag items) (actSetSettings items)

/-- R196: the thirty settings in index order, without the notice levels and the attention floor (DESIGN CHOICE, log 11). -/
def settingFields (t : Settings) : List WField :=
  [.u16 t.loadTol, .u16 t.rampDemand, .u16 t.releaseDemand, .u8 t.topUpMax, .u16 t.stroke, .u16 t.strokeMargin,
   .u16 t.liftThreshold, .u8 t.overdrive, .u8 t.seatTime, .u16 t.pauseLimit, .u16 t.noFlowTime, .u8 t.leakLimit,
   .u16 t.nbrLimit, .u16 t.jamTension, .u16 t.slackTension, .u16 t.headAllowance, .u16 t.drumMm, .u16 t.quantum,
   .u8 t.nOverload, .u8 t.nRefusal, .u8 t.nOverpressure, .u8 t.nJam, .u8 t.nSlack, .u8 t.nNeighbour, .u8 t.nTilt,
   .u8 t.filterEnc1, .u8 t.filterEnc2, .u8 t.filterDrum, .u8 t.filterFlow, .u8 t.linkWindow]

/-- R196. -/
def actGetSettings (page : Option Nat) (s : State) : State × Answer := accept s (paged page (settingFields s.site.settings))

/-- GET_SETTINGS. -/
def execGetSettings (tag : Nat) (page : Option Nat) (s : State) : Host.Outcome State Fault Refusal :=
  s.request (.getSettings tag page) (actGetSettings page)

/-! ## The clock (R197) -/

/-- R9: the time stamps of an entry. -/
def Entry.stamps (e : Entry) : List Nat :=
  e.primaryEnd.toList ++ (e.test.map (·.start)).toList ++ (e.pass.map (·.start)).toList ++
  e.passes.flatMap (fun p => p.start :: p.endTime.toList) ++
  (match e.result with
   | none => []
   | some r => r.start :: r.endTime.toList ++ r.readings.map (·.time))

/-- R9: the latest time stamp held in the register. -/
def State.latestStamp (s : State) : Option Nat := (s.reg.flatMap Entry.stamps).max?

/-- R197: an accepted SET_TIME. -/
def State.setTime (s : State) (time : Nat) : State :=
  let s := { s with
    site := { s.site with clock := time, clockValid := true }
    grout := { s.grout with flow := { s.grout.flow with stray := 0, lowered := false } } }
  let s := s.endCondition .clockLost .system
  if time % 60 = 0 then s.siteMinute else s

/-- R197. -/
def actSetTime (time : Nat) (s : State) : State × Answer :=
  if s.latestStamp.any fun t => decide (time < t) then refuse s .timeBack else accept (s.setTime time)

/-- SET_TIME. -/
def execSetTime (tag time : Nat) (s : State) : Host.Outcome State Fault Refusal :=
  s.request (.setTime tag time) (actSetTime time)

/-- R197. -/
def actGetTime (page : Option Nat) (s : State) : State × Answer :=
  accept s (paged page ([.u32 s.site.clock, .flag s.site.clockValid] ++ WField.opt (fun t => [.u32 t]) s.latestStamp))

/-- GET_TIME. -/
def execGetTime (tag : Nat) (page : Option Nat) (s : State) : Host.Outcome State Fault Refusal :=
  s.request (.getTime tag page) (actGetTime page)

/-- SITE_CLOCK_SECOND (R197): the count rises in every phase; the site minute it may reach acts while the part runs. -/
def execSiteClockSecond (s : State) : Host.Outcome State Fault Refusal :=
  .next
    (if Config.wordEnd ≤ s.site.clock then s
    else
      let s := { s with site := { s.site with clock := s.site.clock + 1 } }
      if s.phase = .running ∧ s.site.clock % 60 = 0 then s.siteMinute else s)

/-! ## Tags and identity (R198, R201) -/

/-- R198. -/
def actSetTag (word val : Nat) (s : State) : State × Answer :=
  if !inRange 1 4 word then refuse s .outOfRange 1
  else accept { s with site := { s.site with tags := s.site.tags.set (word - 1) val } }

/-- SET_TAG. -/
def execSetTag (tag word val : Nat) (s : State) : Host.Outcome State Fault Refusal :=
  s.request (.setTag tag word val) (actSetTag word val)

/-- R198. -/
def actGetTags (page : Option Nat) (s : State) : State × Answer := accept s (paged page (s.site.tags.map .u32))

/-- GET_TAGS. -/
def execGetTags (tag : Nat) (page : Option Nat) (s : State) : Host.Outcome State Fault Refusal :=
  s.request (.getTags tag page) (actGetTags page)

/-- R201. -/
def identityFields (s : State) : List WField :=
  let e := s.site.enables
  [.u16 Config.vendorCode, .u16 Config.partCode, .u8 Config.revision, .u8 s.resets.recorded.code,
   .flag e.s1, .flag e.s2, .flag e.w, .flag e.g,
   .u8 Config.maxAnchors, .u8 Config.planSlots, .u8 6, .u8 Config.groutPlaces, .u8 Config.pointCount, .u8 8,
   .u16 Config.slotCount, .u8 Config.blockCount, .u8 Config.maxNotices, .u8 Config.inputFrames]

/-- R201. -/
def actIdentify (s : State) : State × Answer := accept s (.reply (identityFields s))

/-- IDENTIFY. -/
def execIdentify (tag : Nat) (s : State) : Host.Outcome State Fault Refusal := s.request (.identify tag) actIdentify

end Sys2Proof.Machine
end

