-- ==== Sys2Proof/Machine/Resets.lean ====
section
/-! DEFINITION. Resets and start-up (R199, R200): what a reset ends, the conversion of the Register (R20 to R22), the scan
of the Archive (R174), and the end of start-up; POWER_RESET, PIN_RESET, RESET_PIN_RELEASE, START_UP_END, RESET. -/

namespace Sys2Proof.Machine

/-! ## What a reset ends -/

/-- R30, R94: a stressing station after a reset; its standing and the levels of its encoder lines stay. -/
def Station.cut (x : Station) : Station :=
  { Station.rest with passed := x.passed, enc := { Encoder.rest with a := x.enc.a, b := x.enc.b } }

/-- R199: a reset ends every operation in flight: what is volatile goes to its reset value. -/
def State.cut (s : State) : State :=
  { s with
    s1 := s.s1.cut
    s2 := s.s2.cut
    winch := .rest
    grout := { Grout.rest with ports := s.grout.ports, cure := s.grout.cure }
    fe := { s.fe with scanCount := 0, scan := List.replicate 16 .notScanned }
    faults := { s.faults with trip := false, emergency := .clear }
    wall := { s.wall with tilt := List.replicate 16 .rest }
    rows := s.rows.map fun r => { r with reserved := 0 }
    archive := { s.archive with activity := .idle }
    link := .rest }

/-! ## The conversion of the Register (R20 to R22) -/

/-- R20: the result start-up writes for a test cut by a reset. R20's list does not give extended used, which is never absent;
it is clear (DESIGN CHOICE, log 36). -/
def TestMark.cutResult (t : TestMark) (counted : Bool) : TestResult where
  stn := t.stn
  slot := t.slot
  shape := t.shape
  start := t.start
  endTime := none
  endKind := .aborted
  abort := some .reset
  seatDone := t.shape == .full && counted
  readings := []
  ksPrimary := none
  ksExtended := none
  extendedUsed := false
  figures := none
  lockTarget := none
  liftLoad := none
  verdict := none
  reasons := []

/-- R20: an entry in STRESSING. -/
def Entry.convertTest (e : Entry) : Entry :=
  if e.stage = .stressing then
    { e with
      stage := if e.counted then .lockFault else e.prior.getD .grouted
      result := some ((e.test.getD default).cutResult e.counted)
      prior := none
      test := none
      interrupted := some .test }
  else e

/-- R21: an entry with a pass in progress. -/
def Entry.convertPass (now : Option Nat) (e : Entry) : Entry :=
  match e.pass with
  | none => e
  | some p =>
    let item : PassEntry :=
      { kind := p.kind, port := p.port, start := p.start, endTime := now, volume := none, peakPressure := none
        peakFlow := none, reason := .interrupted }
    { e with
      passes := e.passes ++ [item]
      pass := none
      interrupted := some .grout
      stage := if p.kind = .primary then .placed else e.stage
      postDone := if p.kind = .post then e.postDone + 1 else e.postDone }

/-- R22: an entry in CLOSING. -/
def Entry.convertClose (e : Entry) : Entry :=
  if e.stage = .closing then { e.reopened with interrupted := some .close } else e

/-- R20 to R22. -/
def Entry.convert (now : Option Nat) (e : Entry) : Entry := (e.convertTest.convertPass now).convertClose

/-! ## The scan of the Archive (R174) -/

/-- R174: a WRITING slot becomes TORN. -/
def Slot.scan : Slot → Slot
  | .writing r => .torn r.number
  | x => x

/-- R174: the block of a slot that was WRITING becomes FULL when it was the block's last slot. -/
def Archive.scan (a : Archive) : Archive :=
  let cut := a.slots.filter fun p => isLastSlot p.1 && (match p.2 with | .writing _ => true | _ => false)
  { cut.foldl (fun a p => a.setBlock (blockOf p.1) .full) a with slots := a.slots.map fun p => (p.1, p.2.scan) }

/-- R174: the block found ERASING. -/
def Archive.erasingBlock (a : Archive) : Option Nat := [1, 2, 3, 4, 5, 6, 7, 8].find? fun b => a.block b == .erasing

/-! ## Start-up -/

/-- R199: the highest cause gathered. -/
def Resets.highest (r : Resets) : ResetCause := if r.power then .power else if r.pin then .pin else .command

/-- R104, R111, R194, R198: what a POWER or PIN reset clears, and a POWER reset alone. -/
def State.clearByCause (s : State) : State :=
  let s :=
    if s.resets.power || s.resets.pin then
      { s with
        faults := { s.faults with det := 0#20, comb := 0#6, records := [none, none, none, none] }
        s1 := { s.s1 with passed := false }
        s2 := { s.s2 with passed := false }
        site := { s.site with locked := false } }
    else s
  if s.resets.power then { s with site := { s.site with tags := [0, 0, 0, 0] } } else s

/-- R197: the clock backup was found lost. -/
def State.clockLost (s : State) : Bool := s.resets.power && s.resets.backupLost

/-- R197: what a lost backup leaves. -/
def State.loseClock (s : State) : State :=
  let s := { s with site := { s.site with clock := 0, clockValid := false } }
  (s.raise .clockLost).notice .clockLost .system none 0

/-- R199, R200 steps 1 to 4: start-up begins (log 19), RESET_DONE with the time as it stands before the clock check (DESIGN
CHOICE, log 10). A start-up that begins again before it has ended finds a lost backup lost again, and sets a count that has
run on back to 0 (DESIGN CHOICE, log 10). -/
def State.beginStartUp (s : State) : State :=
  let s := { s with phase := .startUp, resets := { s.resets with recorded := s.resets.highest } }
  let s := s.clearByCause
  let s := { s with notices := { s.notices with entries := [], overflow := false } }
  let s := s.notice .resetDone .system none s.resets.recorded.code
  let s := if s.clockLost then s.loseClock else s
  { s with reg := s.reg.map (Entry.convert s.now), archive := s.archive.scan }

/-- R199: the part leaves reset when the supply is up and RESET# is HIGH. -/
def State.leaveReset (s : State) : State :=
  if s.resets.pinLow || s.resets.supplyLow then { s with phase := .inReset } else s.beginStartUp

/-- POWER_RESET: the supply rises from off (`supplyUp`), or drops below its operating level (R199). `backupLost`: the
clock backup will be found lost (log 10). -/
def execPowerReset (supplyUp backupLost : Bool) (s : State) : Host.Outcome State Fault Refusal :=
  .next
    { s.cut with resets :=
        { s.resets with power := true, supplyLow := !supplyUp, backupLost := s.resets.backupLost || backupLost } }.leaveReset

/-- PIN_RESET: RESET# goes LOW (R199). -/
def execPinReset (s : State) : Host.Outcome State Fault Refusal :=
  .next { s.cut with resets := { s.resets with pin := true, pinLow := true } }.leaveReset

/-- RESET_PIN_RELEASE: RESET# goes HIGH (R199). -/
def execResetPinRelease (s : State) : Host.Outcome State Fault Refusal :=
  let t := { s with resets := { s.resets with pinLow := false } }
  .next (if s.phase = .inReset then t.leaveReset else t)

/-- R199: the COMMAND reset that RESET causes. -/
def State.commandReset (s : State) : State :=
  { s.cut with resets := { s.resets with command := true } }.leaveReset

/-- R174: an erase run again ends. -/
def State.finishErase (s : State) (ok : Bool) : State :=
  match s.archive.erasingBlock with
  | none => s
  | some b =>
    let s := { s with archive := s.archive.endErase b ok }
    if ok then s else s.raise .archiveWrite

/-- R113: the emergency lines read as levels at the end of start-up. -/
def State.readLines (s : State) : State :=
  match s.estopHigh, s.wallTripHigh with
  | true, true => s
  | e, w =>
    let s := { s with faults := { s.faults with emergency := { set := true, estop := !e, wallTrip := !w, time := s.now } } }
    s.notice .emergency .system none
      (if !e && !w then Config.bothLinesDetail.toNat else if !e then EmLine.estop.code else EmLine.wallTrip.code)

/-- R200 step 5: the end of start-up. -/
def State.endStartUp (s : State) (eraseOk : Bool) : State :=
  let s := s.finishErase eraseOk
  let s := s.readLines
  let s := if s.archive.isFull then s.notice .archiveFull .archive none (blockOf s.archive.nextSlot) else s
  { s with
    phase := .running
    resets := { s.resets with power := false, pin := false, command := false, backupLost := false }
    faults := { s.faults with trip := s.tripJudged }
    link := { Link.rest with watch := s.watchFromSettings } }

/-- START_UP_END: both the conversion and the scan have finished; `eraseOk`: an erase run again reads back erased (R174,
R200; log 9). -/
def execStartUpEnd (eraseOk : Bool) (s : State) : Host.Outcome State Fault Refusal :=
  .next (if s.phase = .startUp then s.endStartUp eraseOk else s)

/-- R199: the COMMAND reset begins when the reply has been sent. -/
def actReset (s : State) : State × Answer := accept { s with link := { s.link with resetAfterReply := true } }

/-- RESET. -/
def execReset (tag : Nat) (s : State) : Host.Outcome State Fault Refusal := s.request (.reset tag) actReset

end Sys2Proof.Machine
end

