-- ==== Sys2Proof/Machine/Stressing.lean ====
section
/-! DEFINITION. Requests and timed events of the stressing stations (spec 02): START_TEST, HOLD_TEST, RESUME_TEST,
ABORT_TEST, ADJUST_TEST, GET_STATION; HOLD_END, CREEP_READING, RAMP_TIMEOUT, WHOLE_SECOND, RELEASE_DUTY_END,
SEAT_PULSE_END. -/

namespace Sys2Proof.Machine

/-! ## START_TEST (R27, R28) -/

/-- R28, R29: the settings a test captures. -/
def Captured.of (site : Site) : Captured where
  loadTol := site.settings.loadTol
  rateLimit := site.limits.rateLimit
  topUpMax := site.settings.topUpMax
  stroke := site.settings.stroke
  strokeMargin := site.settings.strokeMargin
  creepLimit := site.limits.creepLimit
  loPct := site.limits.loPct
  hiPct := site.limits.hiPct
  liftThreshold := site.settings.liftThreshold
  liftTol := site.limits.liftTol
  overdrive := site.settings.overdrive
  seatTime := site.settings.seatTime
  rampDemand := site.settings.rampDemand
  releaseDemand := site.settings.releaseDemand
  nbrLimit := site.settings.nbrLimit

/-- R28, R29: the context of an accepted START_TEST, its first step not yet begun. R61 gives extended used a value only for
a full-plan test that began its CREEP step, and R70 writes it in every case: before that step, and in a relock test, it is
clear (DESIGN CHOICE, log 36). -/
def TestCtx.fresh (e : Entry) (slot : Nat) (p : Plan) (cap : Captured) (baselines : List (Option Int)) : TestCtx where
  anchor := e.decl.id
  row := e.decl.row
  pp := e.decl.pp
  pa := e.decl.pa
  plo := e.decl.plo
  steps := p.steps
  shape := p.shape
  slot := slot
  cap := cap
  step := 1
  begun := false
  phase := .ramp
  target := 0
  motion := none
  holdSamples := 0
  topUps := 0
  readings := []
  creepTaken := 0
  creep := .none
  extInForce := false
  figures := none
  lockTarget := none
  liftLoad := none
  stagedPlo := none
  stagedExt := none
  seatDone := false
  causes := .none
  decision := none
  baselines := baselines

/-- R27 check 7b: the shape a stage asks for. -/
def Stage.shape : Stage → Option PlanShape
  | .grouted | .rejected => some .full
  | .lockFault => some .relock
  | _ => none

/-- R27 check 10. -/
def State.cured (s : State) (e : Entry) : Bool :=
  e.postDone == e.decl.passes && !s.queued e.decl.id && !s.grout.pass.any (fun p => p.anchor == e.decl.id) &&
    e.primaryEnd.any fun t => decide (t + e.decl.cure * 3600 ≤ s.site.clock)

/-- R27 check 12. -/
def State.neighbourBusy (s : State) (st : Stn) (e : Entry) : Bool :=
  match (s.stn st.other).ctx with
  | none => false
  | some c =>
    e.decl.neighbours.contains c.anchor ||
      (s.entry c.anchor).any fun o => o.decl.neighbours.contains e.decl.id

/-- R27 check 13. -/
def State.rowRoom (s : State) (e : Entry) : Bool :=
  s.ceiling e.decl.row != 0 &&
    decide ((s.row e.decl.row).locked + (s.row e.decl.row).reserved + e.decl.pp ≤ s.ceiling e.decl.row)

/-- R27 checks 1 to 5. -/
def State.stationReady (s : State) (st : Stn) : Option (Resp × Nat) :=
  firstRefusal
    [(s.enabled st, .disabled, 0), ((s.stn st).state == .idle, .busy, 0), (!s.faults.emergency.set, .emergency, 0),
     (!s.faults.trip && !s.combined st.code, .faulted, 0), ((s.stn st).passed, .selftestDue, 0)]

/-- R27 checks 8 to 13, for a plan of the right shape. -/
def State.anchorReady (s : State) (st : Stn) (e : Entry) (full : Bool) : Option (Resp × Nat) :=
  let rel := relationFailure s.site e.decl
  firstRefusal
    [(decide (e.attempts < Config.maxAttempts), .attemptsExhausted, 0), (s.site.clockValid, .clockUnset, 0),
     (!full || s.cured e, .notCured, 0), (decide (e.decl.pp ≤ s.rating st), .outOfRange, 8),
     (rel.isNone, .outOfRange, rel.getD 0), (!s.neighbourBusy st e, .neighbourBusy, 0),
     (!full || s.rowRoom e, .rowCeiling, e.decl.row)]

/-- R17, R28: the Register change of an accepted START_TEST. -/
def Entry.testStarted (e : Entry) (st : Stn) (slot : Nat) (shape : PlanShape) (start : Nat) : Entry :=
  { e with
    attempts := e.attempts + 1
    prior := some e.stage
    test := some { stn := st, slot := slot, shape := shape, start := start }
    stage := .stressing
    postDue := false
    interrupted := none }

/-- R28: an accepted START_TEST. -/
def State.startTest (s : State) (st : Stn) (e : Entry) (slot : Nat) (p : Plan) : State :=
  let baselines := s.baselinesOf e.decl.neighbours false []
  let cap := Captured.of s.site
  let s := s.modEntry e.decl.id fun e => e.testStarted st slot p.shape s.site.clock
  let s := if p.shape = .full then s.modRow e.decl.row fun r => { r with reserved := r.reserved + e.decl.pp } else s
  let s := s.modStn st fun x =>
    { x with ctx := some (.fresh e slot p cap baselines), ovl := x.ovl.zero, nbr := x.nbr.map Guard.zero }
  s.beginStep st

/-- R27, R28. -/
def actStartTest (station anchor slot : Nat) (s : State) : State × Answer :=
  match Stn.ofCode station with
  | none => refuse s .outOfRange 1
  | some st =>
    if !inRange 1 Config.planSlots slot then refuse s .outOfRange 3
    else
      match s.stationReady st with
      | some r => refuse s r.1 r.2
      | none =>
        match s.entry anchor with
        | none => refuse s .noSuchAnchor
        | some e =>
          match e.stage.shape, s.plan slot with
          | none, _ => refuse s .wrongStage
          | some _, none => refuse s .planInvalid
          | some shape, some p =>
            if p.shape ≠ shape then refuse s .planInvalid
            else
              match s.anchorReady st e (shape == .full) with
              | some r => refuse s r.1 r.2
              | none => accept (s.startTest st e slot p) (.plain .accepted)

/-- START_TEST. -/
def execStartTest (tag station anchor slot : Nat) (s : State) : Host.Outcome State Fault Refusal :=
  s.request (.startTest tag station anchor slot) (actStartTest station anchor slot)

/-! ## HOLD_TEST, RESUME_TEST, ABORT_TEST (R47, R50, R51) -/

/-- The checks the test requests share: the station's number, then its enable. -/
def withStation (station : Nat) (s : State) (act : Stn → State × Answer) : State × Answer :=
  match Stn.ofCode station with
  | none => refuse s .outOfRange 1
  | some st => if s.enabled st then act st else refuse s .disabled

/-- R47. -/
def actHoldTest (station : Nat) (s : State) : State × Answer :=
  withStation station s fun st =>
    match (s.stn st).state with
    | .fault => refuse s .faulted
    | .idle | .selftest | .seating | .releasing | .unloading => refuse s .wrongStage
    | .ramping | .holding | .seeking | .held => accept (s.addCause .host st)

/-- HOLD_TEST. -/
def execHoldTest (tag station : Nat) (s : State) : Host.Outcome State Fault Refusal :=
  s.request (.holdTest tag station) (actHoldTest station)

/-- R50, R156: the neighbour baselines are captured again, and the counts of their guards return to 0. -/
def State.rebase (s : State) (st : Stn) : State :=
  match (s.stn st).ctx with
  | none => s
  | some c =>
    let nbrs := ((s.entry c.anchor).map (·.decl.neighbours)).getD []
    s.modStn st fun x =>
      { x with
        nbr := x.nbr.map Guard.zero
        ctx := some { c with baselines := s.baselinesOf nbrs true c.baselines } }

/-- R50. -/
def actResumeTest (station rebase : Nat) (s : State) : State × Answer :=
  if badFlag rebase then refuse s .outOfRange 2
  else
    withStation station s fun st =>
      let x := s.stn st
      if x.state = .fault then refuse s .faulted
      else if x.state ≠ .held then refuse s .wrongStage
      else
        match x.ctx with
        | none => refuse s .wrongStage
        | some c =>
          if c.causes.hasCondition then refuse s .conditionPresent c.causes.bits
          else
            let s := s.modCtx st fun c => { c with causes := (c.causes.remove .host).remove .neighbour }
            let s := if rebase = 1 then s.rebase st else s
            accept (s.restartStep st)

/-- RESUME_TEST. -/
def execResumeTest (tag station rebase : Nat) (s : State) : Host.Outcome State Fault Refusal :=
  s.request (.resumeTest tag station rebase) (actResumeTest station rebase)

/-- R51. From FAULT the release begins, and the causes whose condition ended in FAULT leave the set (log 27); a seat pulse
that still runs goes on (R43; DESIGN CHOICE beside R30's table, log 33). -/
def actAbortTest (station : Nat) (s : State) : State × Answer :=
  withStation station s fun st =>
    match (s.stn st).state with
    | .idle | .selftest => refuse s .wrongStage
    | .unloading => accept s
    | state =>
      if s.faults.emergency.set then refuse s .emergency
      else if state = .fault then accept ((s.thawCauses st).modStn st fun x => x.startRelease .unloading)
      else accept (s.takeDecision st (.aborted .host))

/-- ABORT_TEST. -/
def execAbortTest (tag station : Nat) (s : State) : Host.Outcome State Fault Refusal :=
  s.request (.abortTest tag station) (actAbortTest station)

/-! ## ADJUST_TEST (R53) -/

/-- The place of the first step of a kind, from 1. -/
def TestCtx.placeOf (c : TestCtx) (k : StepKind) : Option Nat := (c.steps.findIdx? fun t => t.kind == k).map (· + 1)

/-- R53: a step of a kind has begun. -/
def TestCtx.hasBegun (c : TestCtx) (k : StepKind) : Bool :=
  (c.placeOf k).any fun i => decide (i < c.step) || (i == c.step && c.begun)

/-- R53 check 6. -/
def TestCtx.ploOk (c : TestCtx) (p : Nat) : Bool :=
  inRange 1 30000 p && decide (c.pa < p) && decide (lockTargetOf p c.cap.overdrive ≤ c.pp) &&
    decide (liftCapOf p c.cap.liftTol c.cap.loadTol ≤ c.pp)

/-- R53. -/
def actAdjustTest (station : Nat) (plo ext : RawOption) (s : State) : State × Answer :=
  if badFlag plo.present then refuse s .outOfRange 2
  else if badFlag ext.present || (ext.present == 1 && badFlag ext.val) then refuse s .outOfRange 3
  else
    withStation station s fun st =>
      let x := s.stn st
      match x.ctx with
      | none => refuse s (if x.state = .fault then .faulted else .wrongStage)
      | some c =>
        if x.state = .fault then refuse s .faulted
        else if x.state = .unloading then refuse s .wrongStage
        else if plo.present = 1 ∧ (c.shape = .relock ∨ c.hasBegun .lockoff) then refuse s .wrongStage 10
        else if plo.present = 1 ∧ !c.ploOk plo.val then refuse s .outOfRange 10
        else if ext.present = 1 ∧ (c.shape = .relock ∨ c.hasBegun .creep) then
          refuse s .wrongStage ((c.placeOf .creep).getD Config.noCreepDetail.toNat)
        else
          accept (s.modCtx st fun c =>
            { c with
              stagedPlo := if plo.present = 1 then some plo.val else c.stagedPlo
              stagedExt := if ext.present = 1 then some (ext.val == 1) else c.stagedExt })

/-- ADJUST_TEST. -/
def execAdjustTest (tag station : Nat) (plo ext : RawOption) (s : State) : Host.Outcome State Fault Refusal :=
  s.request (.adjustTest tag station plo ext) (actAdjustTest station plo ext)

/-! ## GET_STATION (R54) -/

/-- R29: the code of a phase. -/
def TestPhase.code : TestPhase → Nat
  | .ramp => 1 | .hold => 2 | .seat => 3 | .release => 4 | .seek => 5

/-- R54: the fields of a running test. Where no ramp or hold runs, phase and current target are the last that R29 gave
them (DESIGN CHOICE, log 39). -/
def testFields (c : TestCtx) : List WField :=
  [.u16 c.anchor, .u8 c.slot, .u8 c.shape.code, .u8 c.step, .flag c.begun, .u8 c.phase.code, .u16 c.target,
   .u16 (c.holdSamples / Config.samplesPerSecond), .u8 c.topUps, .u8 c.causes.bits] ++
  WField.opt (fun p => [.u16 p]) c.stagedPlo ++ WField.opt (fun b => [.flag b]) c.stagedExt ++ [.flag c.seatDone] ++
  WField.opt (fun d => .u8 d.endKind.code :: WField.opt (fun a => [.u8 a.code]) d.cause ++ [.u8 (reasonBits d.reasons)])
    c.decision ++
  [.u8 c.readings.length]

/-- R54. The state is coded in the order of R30 (R193). -/
def actGetStation (station : Nat) (s : State) : State × Answer :=
  match Stn.ofCode station with
  | none => refuse s .outOfRange 1
  | some st =>
    let x := s.stn st
    accept s (.reply ([.u8 x.state.listed, .flag (s.enabled st), .flag (!x.passed)] ++ WField.opt testFields x.ctx))

/-- GET_STATION. -/
def execGetStation (tag station : Nat) (s : State) : Host.Outcome State Fault Refusal :=
  s.request (.getStation tag station) (actGetStation station)

/-! ## Timed events (log 2) -/

/-- HOLD_END: the hold of a step other than CREEP ends (R34). -/
def execHoldEnd (st : Stn) (s : State) : Host.Outcome State Fault Refusal :=
  s.event fun s =>
    if (s.stn st).state = .holding ∧ ((s.stn st).ctx.bind (·.kind)) ≠ some .creep then s.holdEnd st else s

/-- CREEP_READING: the next hold time of a CREEP hold falls (R40). -/
def execCreepReading (st : Stn) (s : State) : Host.Outcome State Fault Refusal :=
  s.event fun s =>
    if (s.stn st).state = .holding ∧ ((s.stn st).ctx.bind (·.kind)) = some .creep then s.creepReading st else s

/-- R35: a ramp or seek that has had its first sample is running. -/
def Station.timed (x : Station) : Bool :=
  (x.state == .ramping || x.state == .seeking) &&
    (x.ctx.bind (·.motion)).any fun m => m.kind == .rampUp || m.kind == .rampDown || m.kind == .seek

/-- RAMP_TIMEOUT: the allowed time of the ramp or seek has run out (R35). -/
def execRampTimeout (st : Stn) (s : State) : Host.Outcome State Fault Refusal :=
  s.event fun s => if (s.stn st).timed then s.takeDecision st (.aborted .rampTimeout) else s

/-- WHOLE_SECOND: a whole second of the movement falls (R32, R33). -/
def execWholeSecond (st : Stn) (s : State) : Host.Outcome State Fault Refusal :=
  s.event fun s => s.modStn st Station.wholeSecond

/-- RELEASE_DUTY_END: the release demand's part of this second has passed, and the valve closes (R32). -/
def execReleaseDutyEnd (st : Stn) (s : State) : Host.Outcome State Fault Refusal :=
  s.event fun s => s.modStn st fun x => { x with relCmd := false }

/-- SEAT_PULSE_END: the seat pulse has run for its time (R43, R52, R89). -/
def execSeatPulseEnd (st : Stn) (s : State) : Host.Outcome State Fault Refusal :=
  s.event fun s => if (s.stn st).seat.isSome then s.modStn st Station.pulseEnd else s

end Sys2Proof.Machine
end

