-- ==== Sys2Proof/Machine/WallWatch.lean ====
section
/-! DEFINITION. The Wall Watch and the Row Table (spec 08): SET_POINT, BASELINE, GET_POINTS, GET_ROWS, SCAN_COMPLETE. -/

namespace Sys2Proof.Machine

/-- A monitor point set, numbered from 1. -/
def State.setWallPoint (s : State) (p : Nat) (x : Point) : State :=
  { s with wall := { s.wall with points := s.wall.points.set (p - 1) x } }

/-- The tilt guard of a point returns to 0. -/
def State.zeroTilt (s : State) (p : Nat) : State :=
  { s with wall := { s.wall with tilt := zeroAt s.wall.tilt p } }

/-- R151: the kind of a code. -/
def PointKind.ofCode : Nat → Option PointKind
  | 1 => some .unused | 2 => some .loadCell | 3 => some .tilt | _ => none

/-- R151: the code of a kind. -/
def PointKind.code : PointKind → Nat
  | .unused => 1 | .loadCell => 2 | .tilt => 3

/-- R152 check 2: the stations that hold a test baseline for a point. -/
def State.baselineStations (s : State) (point : Nat) : Nat :=
  (s.baselineHeld .s1 point).toNat + 2 * (s.baselineHeld .s2 point).toNat

/-- R152 check 5: another point that carries a linked id. -/
def State.linkHolder (s : State) (point id : Nat) : Option Nat :=
  ((List.range Config.pointCount).map (· + 1)).find? fun p => p != point && (s.point p).linked == some id

/-- R152: the entry after an accepted SET_POINT. -/
def pointOf (old : Point) (k : PointKind) (linked limit : Nat) : Point :=
  match k with
  | .unused => .unused
  | .loadCell =>
    { kind := .loadCell, linked := if linked = 0 then none else some linked, baseline := none, limit := 0, fresh := false }
  | .tilt =>
    { kind := .tilt, linked := none, baseline := if old.kind = .tilt then old.baseline else none, limit := limit
      fresh := old.kind == .tilt && old.fresh }

/-- R152. -/
def actSetPoint (point kind linked limit : Nat) (s : State) : State × Answer :=
  if !inRange 1 Config.pointCount point then refuse s .outOfRange 1
  else if s.baselineStations point ≠ 0 then refuse s .busy (s.baselineStations point)
  else
    match PointKind.ofCode kind with
    | none => refuse s .outOfRange 2
    | some k =>
      let holder := s.linkHolder point linked
      match firstRefusal
          [(!(k == .loadCell && linked != 0) || inRange 1 65000 linked, .outOfRange, 3),
           (!(k == .loadCell && linked != 0) || holder.isNone, .duplicate, holder.getD 0),
           (k != .tilt || inRange 1 32000 limit, .outOfRange, 4)] with
      | some r => refuse s r.1 r.2
      | none =>
        let s := s.setWallPoint point (pointOf (s.point point) k linked limit)
        accept (if k = .tilt then s else s.zeroTilt point)

/-- SET_POINT. -/
def execSetPoint (tag point kind linked limit : Nat) (s : State) : Host.Outcome State Fault Refusal :=
  s.request (.setPoint tag point kind linked limit) (actSetPoint point kind linked limit)

/-- R153: the baseline of a point written, its tilt guard at 0, and inactive until the next completed scan. -/
def State.setBaseline (s : State) (p : Nat) (b : Option Int) : State :=
  (s.setWallPoint p { s.point p with baseline := b, fresh := b.isSome }).zeroTilt p

/-- R153: action 1 is CAPTURE, 2 is CLEAR. -/
def actBaseline (point action : Nat) (s : State) : State × Answer :=
  if !inRange 1 Config.pointCount point then refuse s .outOfRange 1
  else if !inRange 1 2 action then refuse s .outOfRange 2
  else if (s.point point).kind ≠ .tilt then refuse s .wrongStage
  else if action = 2 then accept (s.setBaseline point none)
  else
    match s.scanned point with
    | .valid v => accept (s.setBaseline point (some v)) (.plain .ok s.fe.scanCount)
    | .notScanned | .isOpen | .isOver | .unused => refuse s .conditionPresent point

/-- BASELINE. -/
def execBaseline (tag point action : Nat) (s : State) : Host.Outcome State Fault Refusal :=
  s.request (.baseline tag point action) (actBaseline point action)

/-! ## Snapshots (R158, R162) -/

/-- R158: what a station's test holds for a point. -/
def Station.riseFields (x : Station) (i : Nat) : List WField :=
  WField.opt (fun b => [.i16 b]) (x.ctx.bind fun c => c.baselines.getD i none) ++ [.u8 (x.nbr.getD i .rest).count]

/-- R158: one point. -/
def State.pointFields (s : State) (i : Nat) : List WField :=
  let p := s.point (i + 1)
  [.u8 p.kind.code] ++ WField.opt (fun a => [.u16 a]) p.linked ++ WField.opt (fun b => [.i16 b]) p.baseline ++
  WField.opt (fun l => [.u16 l]) (if p.kind = .tilt then some p.limit else none) ++ (s.scanned (i + 1)).fields ++
  [.u8 (s.wall.tilt.getD i .rest).count, .flag p.tiltActive] ++ s.s1.riseFields i ++ s.s2.riseFields i

/-- R158. -/
def actGetPoints (page : Option Nat) (s : State) : State × Answer :=
  accept s (paged page ((List.range Config.pointCount).flatMap s.pointFields ++
    [.u8 s.fe.scanCount, .flag (s.condition .monitorSensor), .flag (s.condition .tiltExceeded)]))

/-- GET_POINTS. -/
def execGetPoints (tag : Nat) (page : Option Nat) (s : State) : Host.Outcome State Fault Refusal :=
  s.request (.getPoints tag page) (actGetPoints page)

/-- R160, R162: the reservation a station's test holds in a row. -/
def State.reservation (s : State) (st : Stn) (row : Nat) : List WField :=
  match (s.stn st).ctx with
  | none => []
  | some c => if c.shape = .full ∧ !c.seatDone ∧ c.row = row then [.u8 st.code, .u16 c.anchor, .u16 c.pp] else []

/-- R162: one row, numbered from 1. -/
def State.rowFields (s : State) (r : Nat) : List WField :=
  let x := s.row r
  let tests := [Stn.s1, Stn.s2].filter fun st => s.reservation st r ≠ []
  [.u16 (s.ceiling r), .u16 x.locked, .u16 x.reserved, .u16 (s.ceiling r - (x.locked + x.reserved)), .u8 tests.length] ++
  tests.flatMap fun st => s.reservation st r

/-- R162. -/
def actGetRows (page : Option Nat) (s : State) : State × Answer :=
  accept s (paged page ([1, 2, 3, 4, 5, 6, 7, 8].flatMap s.rowFields))

/-- GET_ROWS. -/
def execGetRows (tag : Nat) (page : Option Nat) (s : State) : Host.Outcome State Fault Refusal :=
  s.request (.getRows tag page) (actGetRows page)

/-! ## A completed scan (R87, R154 to R157) -/

/-- R76, R77, R87: a point's code judged and converted. -/
def scanPoint (p : Point) (cal : Cal) (code : Nat) : PointReading :=
  if p.kind = .unused then .unused
  else
    match markOf code with
    | .valid => .valid (convert cal code)
    | .isOpen => .isOpen
    | .isOver => .isOver

/-- R87: the scan published, under the next counter. -/
def State.publishScan (s : State) (codes : List Nat) : State :=
  { s with fe :=
      { s.fe with
        scanCount := (s.fe.scanCount + 1) % 256
        scan := (List.range Config.pointCount).map fun i =>
          scanPoint (s.point (i + 1)) (s.fe.cals.getD (i + 4) (.factory 30000)) (codes.getD i 0) } }

/-- A guard on a point at a completed scan: evaluated where the point is VALID, and else at 0 (R94). A scan that marks the
point OPEN or OVER leaves the threshold of the latest evaluation as it was (DESIGN CHOICE, log 38). -/
def scanGuard (g : Guard) (threshold n : Nat) (r : PointReading) (out : Int → Bool) : Guard × Bool :=
  match r with
  | .valid v => g.eval threshold n true (out v)
  | _ => (g.zero, false)

/-- R155: the tilt guard of a point at a completed scan. -/
def State.tiltAt (s : State) (i : Nat) : Guard × Bool :=
  let p := s.point (i + 1)
  let g := s.wall.tilt.getD i .rest
  match p.kind, p.baseline with
  | .tilt, some b =>
    scanGuard g p.limit s.site.settings.nTilt (s.scanned (i + 1)) fun v => decide (p.limit < (v - b).natAbs)
  | _, _ => (g.zero, false)

/-- R153 to R155: MONITOR_SENSOR, and the tilt guards, now active, with TILT_EXCEEDED. A scan that raises both raises MONITOR_SENSOR first
(DESIGN CHOICE, log 7). -/
def State.wallScan (s : State) : State :=
  let s := if s.condition .monitorSensor then s.raise .monitorSensor else s
  let r := (List.range Config.pointCount).map s.tiltAt
  let s := { s with wall := { points := s.wall.points.map fun p => { p with fresh := false }, tilt := r.map (·.1) } }
  if r.any (·.2) then s.raise .tiltExceeded else s

/-- R157: the neighbour-rise guard of a station and point at a completed scan. -/
def State.riseAt (s : State) (x : Station) (i : Nat) : Guard × Bool :=
  let g := x.nbr.getD i .rest
  match x.ctx with
  | none => (g.zero, false)
  | some c =>
    match c.baselines.getD i none with
    | none => (g.zero, false)
    | some b =>
      scanGuard g c.cap.nbrLimit s.site.settings.nNeighbour (s.scanned (i + 1)) fun v =>
        decide ((c.cap.nbrLimit : Int) < v - b)

/-- R157: the neighbour-rise guards of a station at a completed scan. -/
def State.riseScan (s : State) (st : Stn) : State :=
  let r := (List.range Config.pointCount).map (s.riseAt (s.stn st))
  let s := s.modStn st fun x => { x with nbr := r.map (·.1) }
  if r.any (·.2) then s.addCause .neighbour st else s

/-- SCAN_COMPLETE: a scan completes with the codes of the sixteen points; `wallFirst` has the sensor and tilt
evaluations before the neighbour rises (R154: no evaluation waits on another; log 7). -/
def execScanComplete (codes : List Nat) (wallFirst : Bool) (s : State) : Host.Outcome State Fault Refusal :=
  s.event fun s =>
    let s := s.publishScan codes
    if wallFirst then (s.wallScan.riseScan .s1).riseScan .s2 else ((s.riseScan .s1).riseScan .s2).wallScan

end Sys2Proof.Machine
end

