-- ==== Sys2Proof/Machine/Winching.lean ====
section
/-! DEFINITION. The tendon winch (spec 06): WINCH_RUN, WINCH_STOP, GET_WINCH, BRAKE_INTERVAL_EXPIRY, and its part of a
sample of TENSION. -/

namespace Sys2Proof.Machine

/-- R119: an accepted WINCH_RUN. -/
def State.startRun (s : State) (e : Entry) : State :=
  let run : Run :=
    { anchor := e.decl.id, target := e.decl.lFree + e.decl.lBond + s.site.settings.headAllowance, reason := none
      halt := none, peak := 0, brakeSamples := 0 }
  let s := s.modEntry e.decl.id fun e => { e with interrupted := none }
  { s with winch :=
      { s.winch with
        state := .paying, run := some run, drum := 0, jam := s.winch.jam.zero, slack := s.winch.slack.zero } }

/-- R118, R119. -/
def actWinchRun (anchor : Nat) (s : State) : State × Answer :=
  match firstRefusal
      [(s.site.enables.w, .disabled, 0), (s.winch.state == .idle, .busy, 0), (!s.faults.emergency.set, .emergency, 0),
       (!s.faults.trip && !s.combined 3, .faulted, 0)] with
  | some r => refuse s r.1 r.2
  | none =>
    match s.entry anchor with
    | none => refuse s .noSuchAnchor
    | some e => if e.stage = .declared then accept (s.startRun e) (.plain .accepted) else refuse s .wrongStage

/-- WINCH_RUN. -/
def execWinchRun (tag anchor : Nat) (s : State) : Host.Outcome State Fault Refusal :=
  s.request (.winchRun tag anchor) (actWinchRun anchor)

/-- R122. -/
def actWinchStop (s : State) : State × Answer :=
  if !s.site.enables.w then refuse s .disabled
  else
    match s.winch.state with
    | .idle | .selftest => refuse s .wrongStage
    | .paying => accept (s.endRun .stopped none)
    | .stopping => accept s

/-- WINCH_STOP. -/
def execWinchStop (tag : Nat) (s : State) : Host.Outcome State Fault Refusal := s.request (.winchStop tag) actWinchStop

/-- R127: a run. In PAYING, where no brake interval runs, its time left is shown as the full 2 s (DESIGN CHOICE, log 12). -/
def runFields (r : Run) : List WField :=
  [.u16 r.anchor, .u16 r.target] ++ WField.opt (fun x => [.u8 x.code]) r.reason ++
  WField.opt (fun x => [.u8 x.code]) r.halt ++ [.u16 r.peak, .u8 (secondsLeft Config.brakeInterval r.brakeSamples)]

/-- R127. The state is coded in the order of R116 (R193). -/
def winchFields (s : State) : List WField :=
  let w := s.winch
  [.u8 w.state.listed, .flag s.site.enables.w, .i32 w.drum, .i32 w.paid, .u16 w.tension.level, .u8 w.tension.win.length] ++
  WField.opt runFields w.run ++ [.u8 w.jam.count, .u8 w.slack.count]

/-- R127. -/
def actGetWinch (page : Option Nat) (s : State) : State × Answer := accept s (paged page (winchFields s))

/-- GET_WINCH. -/
def execGetWinch (tag : Nat) (page : Option Nat) (s : State) : Host.Outcome State Fault Refusal :=
  s.request (.getWinch tag page) (actGetWinch page)

/-- R125: the Register change of a run that completes. -/
def Entry.runEnded (e : Entry) (r : RunEnd) (paid : Int) (peak : Nat) : Entry :=
  { e with
    winch := some { reason := r, paid := paid, peak := peak }
    stage := if r = .reached then .placed else e.stage }

/-- R125: the run completes at the end of the brake interval. -/
def State.completeRun (s : State) : State :=
  match s.winch.run with
  | none => s
  | some run =>
    let r := run.reason.getD .stopped
    let s := s.modEntry run.anchor fun e => e.runEnded r s.winch.paid run.peak
    let s := { s with winch := { s.winch with state := .idle, run := none } }
    s.notice .runEnded .w (some run.anchor) (detail2 r.code ((run.halt.map (·.code)).getD 0))

/-- BRAKE_INTERVAL_EXPIRY (R124, R125). -/
def execBrakeIntervalExpiry (s : State) : Host.Outcome State Fault Refusal :=
  s.event fun s => if s.winch.state = .stopping then s.completeRun else s

/-! ## A sample of TENSION (R120, R121, R124) -/

/-- R121: the jam guard and the slack guard at a sample in PAYING, with whether each trips. -/
def Winch.guards (w : Winch) (t : Settings) : Winch × Bool × Bool :=
  let valid := w.tension.mark == some .valid
  let jam := w.jam.eval t.jamTension t.nJam valid (decide (t.jamTension ≤ w.tension.level))
  let slack := if Config.slackFrom ≤ w.paid then
      w.slack.eval t.slackTension t.nSlack valid (decide (w.tension.level ≤ t.slackTension))
    else (w.slack.zero, false)
  ({ w with jam := jam.1, slack := slack.1 }, jam.2, slack.2)

/-- R120: the winch at a sample in PAYING: REACHED, then the jam, then the slack. -/
def State.paySample (s : State) : State :=
  let g := s.winch.guards s.site.settings
  let s := { s with winch := g.1 }
  if s.winch.reached then s.endRun .reached none
  else if g.2.1 then s.endRun .jammed none
  else if g.2.2 then s.endRun .slack none
  else s

/-- The winch acts on the values published at a sample of TENSION. -/
def State.winchSample (s : State) : State :=
  let s := { s with winch := s.winch.note }
  match s.winch.state with
  | .paying => s.paySample
  | .selftest => s.selfTension
  | .idle | .stopping => s

end Sys2Proof.Machine
end

