-- ==== Sys2Proof/Machine/LinkPort.lean ====
section
/-! DEFINITION. The Link Port (spec 11): what the block of each request does, the taking of a frame, the receiver;
BYTE_RECEIVED, RECEIVER_GAP, REPLY_SENT, LINK_WATCH_EXPIRY, UNKNOWN_KIND, RESUME_LINK. -/

namespace Sys2Proof.Machine

/-! ## RESUME_LINK (R191) -/

/-- R191: the LINK_LOST state cleared. -/
def State.resumeLink (s : State) : State :=
  let s := { s with link := { s.link with lost := false, watch := s.watchFromSettings } }
  (s.dropCause .linkLost).arbiter

/-- R191. -/
def actResumeLink (s : State) : State × Answer := if s.link.lost then accept s.resumeLink else accept s

/-- RESUME_LINK. -/
def execResumeLink (tag : Nat) (s : State) : Host.Outcome State Fault Refusal := s.request (.resumeLink tag) actResumeLink

/-! ## Taking a frame (R185, R186) -/

/-- What the owning block does with each request; an event is no request and has no answer. -/
def actOf : Instr → Act
  | .identify _ => actIdentify
  | .reset _ => actReset
  | .resumeLink _ => actResumeLink
  | .takeNotice _ => actTakeNotice
  | .getNotices _ p => actGetNotices p
  | .setNoticeLevel _ k l => actSetNoticeLevel k l
  | .declare _ d => actDeclare d
  | .amend _ id items => actAmend id items
  | .void _ id => actVoid id
  | .getAnchor _ id p f => actGetAnchor id p f
  | .listAnchors _ f => actListAnchors f
  | .loadPlan _ n steps => actLoadPlan n steps
  | .getPlan _ n => actGetPlan n
  | .startTest _ st a n => actStartTest st a n
  | .holdTest _ st => actHoldTest st
  | .resumeTest _ st r => actResumeTest st r
  | .abortTest _ st => actAbortTest st
  | .adjustTest _ st p e => actAdjustTest st p e
  | .getStation _ st => actGetStation st
  | .setCalibration _ sel z sp sg inv => actSetCalibration sel z sp sg inv
  | .getCalibration _ sel => actGetCalibration sel
  | .getInputs _ p => actGetInputs p
  | .getOutputs _ p => actGetOutputs p
  | .getScan _ p => actGetScan p
  | .setStations _ a b c d => actSetStations a b c d
  | .getGuards _ p => actGetGuards p
  | .getFaults _ p => actGetFaults p
  | .clearFault _ g c => actClearFault g c
  | .clearGroup _ g => actClearGroup g
  | .runSelftest _ g => actRunSelftest g
  | .clearEmergency _ => actClearEmergency
  | .winchRun _ a => actWinchRun a
  | .winchStop _ => actWinchStop
  | .getWinch _ p => actGetWinch p
  | .assignPort _ p a => actAssignPort p a
  | .releasePort _ p => actReleasePort p
  | .groutRequest _ a => actGroutRequest a
  | .groutCancel _ a => actGroutCancel a
  | .groutStop _ => actGroutStop
  | .groutPause _ => actGroutPause
  | .groutResume _ => actGroutResume
  | .getGrout _ p => actGetGrout p
  | .setPoint _ p k l m => actSetPoint p k l m
  | .baseline _ p a => actBaseline p a
  | .getPoints _ p => actGetPoints p
  | .getRows _ p => actGetRows p
  | .closeAnchor _ a => actCloseAnchor a
  | .readArchive _ n p => actReadArchive n p
  | .readReadings _ n f => actReadReadings n f
  | .markExported _ b => actMarkExported b
  | .eraseOldest _ => actEraseOldest
  | .getArchive _ p => actGetArchive p
  | .setLimits _ items => actSetLimits items
  | .getLimits _ p => actGetLimits p
  | .lockLimits _ => actLockLimits
  | .setSettings _ items => actSetSettings items
  | .getSettings _ p => actGetSettings p
  | .setTime _ v => actSetTime v
  | .getTime _ p => actGetTime p
  | .setTag _ w v => actSetTag w v
  | .getTags _ p => actGetTags p
  | .unknownKind _ _ _ | .byteReceived _ _ | .receiverGap | .replySent | .linkWatchExpiry | .powerReset _ _ | .pinReset
  | .startUpEnd _ | .emergencyFallingEdge _ | .sample _ _ _ | .holdEnd _ | .creepReading _ | .rampTimeout _
  | .wholeSecond _ | .releaseDutyEnd _ | .seatPulseEnd _ | .encoderEdge _ _ | .drumPulse _ | .flowPulse _ | .noFlowTime
  | .noFlow | .siteMinute | .scanComplete _ _ | .jackOverloadTrip _ | .groutRefusalTrip | .groutOverpressureTrip
  | .winchJamTrip | .winchSlackTrip | .neighbourRiseTrip _ _ | .wallTiltTrip _ | .selftestFail _
  | .brakeIntervalExpiry | .arbiterServe | .valveTravelEnd _ | .pauseExpired | .appendEnd _ | .eraseEnd _
  | .emergencyLineRise _ | .pwmPeriodStart | .siteClockSecond | .resetPinRelease => accept

/-- R186: a frame is taken: its kind, the length of its BODY, the LINK_LOST gate, its own checks; and its reply. -/
def takeFrame (f : Frame) (s : State) : State :=
  match rowOf f.kind with
  | none => s.formReply 0xFF f.tag (.plain .unknownKind f.kind)
  | some r =>
    if lengthOk r.length f.body then s.answer f.kind f.tag (actOf (requestOf f))
    else s.formReply (f.kind + 0x80) f.tag (.plain .badLength f.body.length)

/-- UNKNOWN_KIND: a good frame whose KIND the catalogue does not list (R184 to R186). -/
def execUnknownKind (kind tag : Nat) (body : List Byte) (s : State) : Host.Outcome State Fault Refusal :=
  .next (s.frameArrives ⟨kind, tag, body⟩ (takeFrame ⟨kind, tag, body⟩))

/-- R185: the frame that was answered leaves the queue, and the next one is taken. -/
def State.nextFrame (s : State) : State :=
  let queue := s.link.queue.tail
  let s := { s with link := { s.link with queue := queue, reply := none } }
  match queue with
  | [] => s
  | f :: _ => takeFrame f s

/-- REPLY_SENT: the last byte of the reply has been sent (R185; R199 for the reply of RESET). -/
def execReplySent (s : State) : Host.Outcome State Fault Refusal :=
  s.event fun s =>
    if s.link.reply.isNone then s else if s.link.resetAfterReply then s.commandReset else s.nextFrame

/-! ## The receiver (R183, R184) -/

/-- R183: a LEN byte in its range. -/
def goodLen (b : Byte) : Bool := decide (2 ≤ b.toNat ∧ b.toNat ≤ 242)

/-- R183, R184: the receiver after a byte without a stop-bit error, and the good frame that the byte completes. -/
def Rx.step (rx : Rx) (b : Byte) : Rx × Option Frame :=
  match rx with
  | .waiting => (if b = Config.sync then .length else .waiting, none)
  | .length => (if goodLen b then .header b none else .waiting, none)
  | .header len none => (.header len (some b), none)
  | .header len (some kind) => (if len.toNat = 2 then .check len kind b [] none else .body len kind b [], none)
  | .body len kind tag data =>
    if len.toNat ≤ data.length + 3 then (.check len kind tag (data ++ [b]) none, none)
    else (.body len kind tag (data ++ [b]), none)
  | .check len kind tag data none => (.check len kind tag data (some b), none)
  | .check len kind tag data (some low) =>
    let c := crc (len :: kind :: tag :: data)
    (.waiting,
      if low = crcLow c ∧ b = crcHigh c then some { kind := kind.toNat, tag := tag.toNat, body := data } else none)

/-- The receiver's state set. -/
def State.setRx (s : State) (rx : Rx) : State := { s with link := { s.link with rx := rx } }

/-- BYTE_RECEIVED: a byte with its stop bit right or wrong (R183, R184). -/
def execByteReceived (b : Byte) (stopError : Bool) (s : State) : Host.Outcome State Fault Refusal :=
  s.event fun s =>
    if stopError then s.setRx .waiting
    else
      let r := s.link.rx.step b
      match r.2 with
      | none => s.setRx r.1
      | some f => (s.setRx r.1).frameArrives f (takeFrame f)

/-- RECEIVER_GAP: more than 20 ms have passed since a byte of a partial frame (R183). -/
def execReceiverGap (s : State) : Host.Outcome State Fault Refusal := s.event fun s => s.setRx .waiting

/-! ## The link watch (R189) -/

/-- R189: the watch expires with its window. -/
def State.watchExpires (s : State) (window : Nat) : State :=
  let s := { s with link := { s.link with lost := true, watch := .stopped } }
  ((s.raise .linkLost).notice .linkLost .system none window).handCause .linkLost .linkLost

/-- LINK_WATCH_EXPIRY. -/
def execLinkWatchExpiry (s : State) : Host.Outcome State Fault Refusal :=
  s.event fun s =>
    match s.link.watch with
    | .stopped => s
    | .running w => s.watchExpires w

end Sys2Proof.Machine
end

