-- ==== Sys2Proof/Machine/Sampling.lean ====
section
/-! DEFINITION. SAMPLE: a 20 ms sample of a station channel (R73, R76 to R79, R82, R83), at which the front end publishes
and then the guards and the station act. -/

namespace Sys2Proof.Machine

/-- R76: an OPEN or OVER code raises the sensor fault of its channel. -/
def State.judgeMark (s : State) (code : Nat) (isOpen isOver : Flag) : State :=
  match markOf code with
  | .valid => s
  | .isOpen => s.raise isOpen
  | .isOver => s.raise isOver

/-- The calibration of a selector, 1 to 20. -/
def State.cal (s : State) (sel : Nat) : Cal := s.fe.cals.getD (sel - 1) (.factory 0)

/-- R96: the jack overload guard at a sample of a running test. -/
def State.overloadSample (s : State) (st : Stn) : State :=
  let x := s.stn st
  match x.ctx with
  | none => s
  | some c =>
    let threshold := min (s.rating st) (c.pp + 50)
    let r := x.ovl.eval threshold s.site.settings.nOverload (x.load.mark == some .valid) (decide (threshold < x.runLoad))
    let s := s.setStn st { x with ovl := r.1 }
    if r.2 then s.overloadTrip st else s

/-- R78, R82, R89: what a sample of a stressing station publishes, and the seat pulse's running time. -/
def Station.publish (x : Station) (cal : Cal) (code : Nat) : Station :=
  { x with
    load := x.load.sample cal code
    enc := { x.enc with win := pushWindow x.enc.win x.enc.count, mark := some .valid }
    seat := x.seat.map fun p => { p with samples := p.samples + 1 } }

/-- A sample of LOAD1 or LOAD2. -/
def State.loadSample (s : State) (st : Stn) (code : Nat) (guardFirst : Bool) : State :=
  if s.enabled st then
    let s := s.modStn st (·.publish (s.cal st.code) code)
    let s := s.judgeMark code (.loadOpen st) (.loadOver st)
    if (s.stn st).state = .selftest then s.selfLoad st
    else if guardFirst then (s.overloadSample st).stationSample st
    else (s.stationSample st).overloadSample st
  else s

/-- A sample of TENSION; the paid length is formed with it (R83). -/
def State.tensionSample (s : State) (code : Nat) : State :=
  if s.site.enables.w then
    let s := { s with winch := { s.winch with tension := s.winch.tension.sample (s.cal 3) code } }.formPaid
    (s.judgeMark code .tensionOpen .tensionOver).winchSample
  else s

/-- A sample of PRESSURE. -/
def State.pressureSample (s : State) (code : Nat) (guardFirst : Bool) : State :=
  if s.site.enables.g then
    let s := { s with grout := { s.grout with pressure := s.grout.pressure.sample (s.cal 4) code } }
    (s.judgeMark code .pressureOpen .pressureOver).groutSample guardFirst
  else s

/-- SAMPLE: `guardFirst` says which of two things at one sample is taken first (log 6). -/
def execSample (chan : Chan) (code : Nat) (guardFirst : Bool) (s : State) : Host.Outcome State Fault Refusal :=
  s.event fun s =>
    match chan with
    | .load1 => s.loadSample .s1 code guardFirst
    | .load2 => s.loadSample .s2 code guardFirst
    | .tension => s.tensionSample code
    | .pressure => s.pressureSample code guardFirst

end Sys2Proof.Machine
end

