-- ==== Sys2Proof/Machine/Dispatch.lean ====
section
/-! DEFINITION. One arm for each command: a direct call of its meaning. -/

namespace Sys2Proof.Machine

/-- The effect of a command on everything but the queue of commands. -/
def exec (i : Instr) (s : State) : Host.Outcome State Fault Refusal :=
  match i with
  | .identify tag => Sys2Proof.Machine.execIdentify tag s
  | .reset tag => Sys2Proof.Machine.execReset tag s
  | .resumeLink tag => Sys2Proof.Machine.execResumeLink tag s
  | .takeNotice tag => Sys2Proof.Machine.execTakeNotice tag s
  | .getNotices tag page => Sys2Proof.Machine.execGetNotices tag page s
  | .setNoticeLevel tag selector level => Sys2Proof.Machine.execSetNoticeLevel tag selector level s
  | .declare tag body => Sys2Proof.Machine.execDeclare tag body s
  | .amend tag id items => Sys2Proof.Machine.execAmend tag id items s
  | .void tag id => Sys2Proof.Machine.execVoid tag id s
  | .getAnchor tag id part first => Sys2Proof.Machine.execGetAnchor tag id part first s
  | .listAnchors tag filter => Sys2Proof.Machine.execListAnchors tag filter s
  | .loadPlan tag slot steps => Sys2Proof.Machine.execLoadPlan tag slot steps s
  | .getPlan tag slot => Sys2Proof.Machine.execGetPlan tag slot s
  | .startTest tag station anchor slot => Sys2Proof.Machine.execStartTest tag station anchor slot s
  | .holdTest tag station => Sys2Proof.Machine.execHoldTest tag station s
  | .resumeTest tag station rebase => Sys2Proof.Machine.execResumeTest tag station rebase s
  | .abortTest tag station => Sys2Proof.Machine.execAbortTest tag station s
  | .adjustTest tag station plo ext => Sys2Proof.Machine.execAdjustTest tag station plo ext s
  | .getStation tag station => Sys2Proof.Machine.execGetStation tag station s
  | .setCalibration tag selector zero span signed invert => Sys2Proof.Machine.execSetCalibration tag selector zero span signed invert s
  | .getCalibration tag selector => Sys2Proof.Machine.execGetCalibration tag selector s
  | .getInputs tag page => Sys2Proof.Machine.execGetInputs tag page s
  | .getOutputs tag page => Sys2Proof.Machine.execGetOutputs tag page s
  | .getScan tag page => Sys2Proof.Machine.execGetScan tag page s
  | .setStations tag s1 s2 w g => Sys2Proof.Machine.execSetStations tag s1 s2 w g s
  | .getGuards tag page => Sys2Proof.Machine.execGetGuards tag page s
  | .getFaults tag page => Sys2Proof.Machine.execGetFaults tag page s
  | .clearFault tag group code => Sys2Proof.Machine.execClearFault tag group code s
  | .clearGroup tag group => Sys2Proof.Machine.execClearGroup tag group s
  | .runSelftest tag guard => Sys2Proof.Machine.execRunSelftest tag guard s
  | .clearEmergency tag => Sys2Proof.Machine.execClearEmergency tag s
  | .winchRun tag anchor => Sys2Proof.Machine.execWinchRun tag anchor s
  | .winchStop tag => Sys2Proof.Machine.execWinchStop tag s
  | .getWinch tag page => Sys2Proof.Machine.execGetWinch tag page s
  | .assignPort tag port anchor => Sys2Proof.Machine.execAssignPort tag port anchor s
  | .releasePort tag port => Sys2Proof.Machine.execReleasePort tag port s
  | .groutRequest tag anchor => Sys2Proof.Machine.execGroutRequest tag anchor s
  | .groutCancel tag anchor => Sys2Proof.Machine.execGroutCancel tag anchor s
  | .groutStop tag => Sys2Proof.Machine.execGroutStop tag s
  | .groutPause tag => Sys2Proof.Machine.execGroutPause tag s
  | .groutResume tag => Sys2Proof.Machine.execGroutResume tag s
  | .getGrout tag page => Sys2Proof.Machine.execGetGrout tag page s
  | .setPoint tag point kind linked limit => Sys2Proof.Machine.execSetPoint tag point kind linked limit s
  | .baseline tag point action => Sys2Proof.Machine.execBaseline tag point action s
  | .getPoints tag page => Sys2Proof.Machine.execGetPoints tag page s
  | .getRows tag page => Sys2Proof.Machine.execGetRows tag page s
  | .closeAnchor tag anchor => Sys2Proof.Machine.execCloseAnchor tag anchor s
  | .readArchive tag number part => Sys2Proof.Machine.execReadArchive tag number part s
  | .readReadings tag number first => Sys2Proof.Machine.execReadReadings tag number first s
  | .markExported tag block => Sys2Proof.Machine.execMarkExported tag block s
  | .eraseOldest tag => Sys2Proof.Machine.execEraseOldest tag s
  | .getArchive tag page => Sys2Proof.Machine.execGetArchive tag page s
  | .setLimits tag items => Sys2Proof.Machine.execSetLimits tag items s
  | .getLimits tag page => Sys2Proof.Machine.execGetLimits tag page s
  | .lockLimits tag => Sys2Proof.Machine.execLockLimits tag s
  | .setSettings tag items => Sys2Proof.Machine.execSetSettings tag items s
  | .getSettings tag page => Sys2Proof.Machine.execGetSettings tag page s
  | .setTime tag time => Sys2Proof.Machine.execSetTime tag time s
  | .getTime tag page => Sys2Proof.Machine.execGetTime tag page s
  | .setTag tag word val => Sys2Proof.Machine.execSetTag tag word val s
  | .getTags tag page => Sys2Proof.Machine.execGetTags tag page s
  | .unknownKind kind tag body => Sys2Proof.Machine.execUnknownKind kind tag body s
  | .byteReceived b stopError => Sys2Proof.Machine.execByteReceived b stopError s
  | .receiverGap => Sys2Proof.Machine.execReceiverGap s
  | .replySent => Sys2Proof.Machine.execReplySent s
  | .linkWatchExpiry => Sys2Proof.Machine.execLinkWatchExpiry s
  | .powerReset supplyUp backupLost => Sys2Proof.Machine.execPowerReset supplyUp backupLost s
  | .pinReset => Sys2Proof.Machine.execPinReset s
  | .startUpEnd eraseOk => Sys2Proof.Machine.execStartUpEnd eraseOk s
  | .emergencyFallingEdge line => Sys2Proof.Machine.execEmergencyFallingEdge line s
  | .sample chan code guardFirst => Sys2Proof.Machine.execSample chan code guardFirst s
  | .holdEnd stn => Sys2Proof.Machine.execHoldEnd stn s
  | .creepReading stn => Sys2Proof.Machine.execCreepReading stn s
  | .rampTimeout stn => Sys2Proof.Machine.execRampTimeout stn s
  | .wholeSecond stn => Sys2Proof.Machine.execWholeSecond stn s
  | .releaseDutyEnd stn => Sys2Proof.Machine.execReleaseDutyEnd stn s
  | .seatPulseEnd stn => Sys2Proof.Machine.execSeatPulseEnd stn s
  | .encoderEdge stn line => Sys2Proof.Machine.execEncoderEdge stn line s
  | .drumPulse dirHigh => Sys2Proof.Machine.execDrumPulse dirHigh s
  | .flowPulse period => Sys2Proof.Machine.execFlowPulse period s
  | .noFlowTime => Sys2Proof.Machine.execNoFlowTime s
  | .noFlow => Sys2Proof.Machine.execNoFlow s
  | .siteMinute => Sys2Proof.Machine.execSiteMinute s
  | .scanComplete codes wallFirst => Sys2Proof.Machine.execScanComplete codes wallFirst s
  | .jackOverloadTrip stn => Sys2Proof.Machine.execJackOverloadTrip stn s
  | .groutRefusalTrip => Sys2Proof.Machine.execGroutRefusalTrip s
  | .groutOverpressureTrip => Sys2Proof.Machine.execGroutOverpressureTrip s
  | .winchJamTrip => Sys2Proof.Machine.execWinchJamTrip s
  | .winchSlackTrip => Sys2Proof.Machine.execWinchSlackTrip s
  | .neighbourRiseTrip stn point => Sys2Proof.Machine.execNeighbourRiseTrip stn point s
  | .wallTiltTrip point => Sys2Proof.Machine.execWallTiltTrip point s
  | .selftestFail guard => Sys2Proof.Machine.execSelftestFail guard s
  | .brakeIntervalExpiry => Sys2Proof.Machine.execBrakeIntervalExpiry s
  | .arbiterServe => Sys2Proof.Machine.execArbiterServe s
  | .valveTravelEnd port => Sys2Proof.Machine.execValveTravelEnd port s
  | .pauseExpired => Sys2Proof.Machine.execPauseExpired s
  | .appendEnd ok => Sys2Proof.Machine.execAppendEnd ok s
  | .eraseEnd ok => Sys2Proof.Machine.execEraseEnd ok s
  | .emergencyLineRise line => Sys2Proof.Machine.execEmergencyLineRise line s
  | .pwmPeriodStart => Sys2Proof.Machine.execPwmPeriodStart s
  | .siteClockSecond => Sys2Proof.Machine.execSiteClockSecond s
  | .resetPinRelease => Sys2Proof.Machine.execResetPinRelease s

end Sys2Proof.Machine
end

