-- ==== Sys2Proof/WellFormed.lean ====
section
/-! DEFINITION. Which commands can stand at the pins of the part: the widths of the fields that travel (R193), the frame
length (section 11.1, R183), and the ranges of what an event row carries. A value outside its codes or range that still
fits its field is well formed: the request is sent, and the part refuses it. -/

namespace Sys2Proof

/-- A number that fits a field of so many bytes (R193). -/
def fits (bytes n : Nat) : Bool := decide (n < 256 ^ bytes)

/-- A page byte, where the request carries one (R188). -/
def pageFits : Option Nat → Bool
  | none => true
  | some p => fits 1 p

/-- The four id places of a neighbour list (R5, R193). -/
def idPlaces (count : Nat) (ids : List Nat) : Bool := fits 1 count && ids.length == 4 && ids.all (fits 2)

/-- R193: the widths of a DECLARE body. -/
def DeclareBody.wf (d : DeclareBody) : Bool :=
  fits 2 d.id && fits 1 d.row && fits 2 d.lFree && fits 2 d.lBond && fits 2 d.area && fits 4 d.modulus && fits 2 d.pw &&
  fits 2 d.pp && fits 2 d.pa && fits 2 d.plo && fits 4 d.volCap && fits 2 d.refusal && fits 1 d.passes &&
  fits 1 d.postInterval && fits 4 d.postVolCap && fits 2 d.postRefusal && fits 2 d.cure && idPlaces d.nbrCount d.nbrIds

/-- R186: an AMEND item: index 18 carries the list, every other index a value of four bytes. -/
def AmendItem.wf : AmendItem → Bool
  | .value i v => fits 1 i && i != 18 && fits 4 v
  | .neighbours c ids => idPlaces c ids

/-- R186: a step of a LOAD_PLAN body. -/
def RawStep.wf (t : RawStep) : Bool := fits 1 t.kind && fits 2 t.target && fits 2 t.hold && fits 1 t.ext

/-- R186: the items of SET_LIMITS and SET_SETTINGS; 47 are the most a BODY of 240 bytes holds. -/
def itemsWf (items : List (Nat × Nat)) : Bool :=
  decide (items.length ≤ 47) && items.all fun p => fits 1 p.1 && fits 4 p.2

/-- A monitor point. -/
def isPoint (p : Nat) : Bool := decide (1 ≤ p ∧ p ≤ 16)

/-- Whether a command can stand at the pins of the part. -/
def Instr.wf : Instr → Bool
  | .identify t | .reset t | .resumeLink t | .takeNotice t | .clearEmergency t | .winchStop t | .groutStop t
  | .groutPause t | .groutResume t | .eraseOldest t | .lockLimits t => fits 1 t
  | .getNotices t p | .getInputs t p | .getOutputs t p | .getScan t p | .getGuards t p | .getFaults t p
  | .getWinch t p | .getGrout t p | .getPoints t p | .getRows t p | .getArchive t p | .getLimits t p
  | .getSettings t p | .getTime t p | .getTags t p => fits 1 t && pageFits p
  | .listAnchors t n | .getPlan t n | .holdTest t n | .abortTest t n | .getStation t n | .getCalibration t n
  | .clearGroup t n | .runSelftest t n | .releasePort t n | .markExported t n => fits 1 t && fits 1 n
  | .void t n | .winchRun t n | .groutRequest t n | .groutCancel t n | .closeAnchor t n => fits 1 t && fits 2 n
  | .setNoticeLevel t a b | .resumeTest t a b | .clearFault t a b | .baseline t a b => fits 1 t && fits 1 a && fits 1 b
  | .declare t d => fits 1 t && d.wf
  | .amend t id items =>
    fits 1 t && fits 2 id && items.all AmendItem.wf &&
      decide (3 + (items.flatMap Machine.amendItemBytes).length ≤ 240)
  | .getAnchor t id part first => fits 1 t && fits 2 id && fits 1 part && fits 1 first
  | .loadPlan t n steps => fits 1 t && fits 1 n && decide (steps.length ≤ 39) && steps.all RawStep.wf
  | .startTest t st a n => fits 1 t && fits 1 st && fits 2 a && fits 1 n
  | .adjustTest t st p e =>
    fits 1 t && fits 1 st && fits 1 p.present && fits 2 p.val && fits 1 e.present && fits 1 e.val
  | .setCalibration t sel z sp sg inv =>
    fits 1 t && fits 1 sel && decide (-32768 ≤ z ∧ z < 32768) && fits 2 sp && fits 1 sg && fits 1 inv
  | .setStations t a b c d => fits 1 t && fits 1 a && fits 1 b && fits 1 c && fits 1 d
  | .assignPort t p a => fits 1 t && fits 1 p && fits 2 a
  | .setPoint t p k l m => fits 1 t && fits 1 p && fits 1 k && fits 2 l && fits 2 m
  | .readArchive t n p | .readReadings t n p => fits 1 t && fits 4 n && fits 1 p
  | .setLimits t items | .setSettings t items => fits 1 t && itemsWf items
  | .setTime t v => fits 1 t && fits 4 v
  | .setTag t w v => fits 1 t && fits 1 w && fits 4 v
  | .unknownKind k t body =>
    fits 1 k && (Machine.rowOf k).isNone && fits 1 t && decide (body.length ≤ 240)
  | .sample _ code _ => fits 2 code
  | .scanComplete codes _ => codes.length == 16 && codes.all (fits 2)
  | .flowPulse period => decide (1 ≤ period)
  | .valveTravelEnd p => decide (1 ≤ p ∧ p ≤ 6)
  | .neighbourRiseTrip _ p | .wallTiltTrip p => isPoint p
  | .selftestFail g => decide (1 ≤ g ∧ g ≤ 4)
  | .byteReceived _ _ | .receiverGap | .replySent | .linkWatchExpiry | .powerReset _ _ | .pinReset | .startUpEnd _
  | .emergencyFallingEdge _ | .holdEnd _ | .creepReading _ | .rampTimeout _ | .wholeSecond _ | .releaseDutyEnd _
  | .seatPulseEnd _ | .encoderEdge _ _ | .drumPulse _ | .noFlowTime | .noFlow | .siteMinute | .jackOverloadTrip _
  | .groutRefusalTrip | .groutOverpressureTrip | .winchJamTrip | .winchSlackTrip | .brakeIntervalExpiry | .arbiterServe
  | .pauseExpired | .appendEnd _ | .eraseEnd _ | .emergencyLineRise _ | .pwmPeriodStart | .siteClockSecond
  | .resetPinRelease => true

/-- A command that is a request of the catalogue (section 11.4): a frame of a kind that is listed. -/
def Instr.isRequest (i : Instr) : Bool :=
  match i with
  | .unknownKind _ _ _ => false
  | i => Machine.knownKind (Machine.frameOf i).kind

end Sys2Proof
end

