-- ==== Sys2Proof/Safety.lean ====
section
/-! DEFINITION. The terms the claims use: how a request is served, and what every step keeps true of the part. -/

namespace Sys2Proof.Machine

/-! ## Requests as claims see them -/

/-- The part takes a request at once: it runs, no reply is being sent, no frame waits (R185), and the LINK_LOST state is
clear or does not hold this kind back (R190). -/
def State.accepts (s : State) (i : Instr) : Prop :=
  s.phase = .running ∧ s.link.reply = none ∧ s.link.queue = [] ∧
    (s.link.lost = true → servedWhenLost (frameOf i).kind = true)

/-- The state in which the block of a request acts: the frame is in the queue, and a running link watch has the full
window again (R185, R189). -/
def State.taken (s : State) (i : Instr) : State :=
  { s with link :=
      { s.link with
        queue := [frameOf i]
        watch := match s.link.watch with
          | .stopped => .stopped
          | .running _ => s.watchFromSettings } }

/-- Request `i`, sent to `s`, is answered `a` after the block has changed the state by `effect`. -/
def Serves (i : Instr) (s : State) (effect : State → State) (a : Answer) : Prop :=
  exec i s = .next ((effect (s.taken i)).formReply ((frameOf i).kind + 0x80) (frameOf i).tag a)

/-- Request `i`, sent to `s`, is refused with a code and a detail, and changes nothing but the link (R186). -/
def Refuses (i : Instr) (s : State) (code : Resp) (detail : Nat := 0) : Prop :=
  Serves i s (fun u => u) (.plain code detail)

/-- The bytes come in one after the other, each with its stop bit right (R183). -/
def deliver : List Byte → State → Host.Outcome State Fault Refusal
  | [], s => .next s
  | b :: bs, s =>
    match exec (.byteReceived b false) s with
    | .next t => deliver bs t
    | o => o

/-- A request that only reads: section 11.4's GET, LIST, READ and IDENTIFY kinds. -/
def isQuery (i : Instr) : Bool :=
  [0x01, 0x05, 0x13, 0x14, 0x19, 0x25, 0x29, 0x2A, 0x2B, 0x2C, 0x30, 0x31, 0x3A, 0x47, 0x4A, 0x4B, 0x51, 0x52, 0x55, 0x59,
   0x5D, 0x5F, 0x61].contains (frameOf i).kind

/-! ## What every step keeps -/

/-- R1, R11: at most 48 entries, and no id twice. -/
abbrev State.registerSound (s : State) : Prop :=
  s.reg.length ≤ Config.maxAnchors ∧ (s.reg.map fun e => e.decl.id).Nodup

/-- R175, R176: at most 32 notices, and no two of one kind and origin. -/
abbrev State.noticesSound (s : State) : Prop :=
  s.notices.entries.length ≤ Config.maxNotices ∧ (s.notices.entries.map fun n => (n.kind, n.origin)).Nodup

/-- R163, R166: the slot an append writes is a slot of the ring. -/
def Activity.slotOk : Activity → Bool
  | .appending _ _ slot => decide (1 ≤ slot ∧ slot ≤ Config.slotCount)
  | .idle | .erasing _ => true

/-- R163, R164: the listed slots are slots of the ring, strictly rising; the next slot, the next record number and the
block table stay in their ranges. -/
abbrev State.archiveSound (s : State) : Prop :=
  slotsWf s.archive.slots = true ∧ 1 ≤ s.archive.nextSlot ∧ s.archive.nextSlot ≤ Config.slotCount ∧
    1 ≤ s.archive.nextNumber ∧ s.archive.nextNumber ≤ Config.wordEnd ∧
    s.archive.blocks.length = Config.blockCount ∧
    s.archive.activity.slotOk = true

/-- R100, R101: a set flag that is not masked has its combined flag set. -/
abbrev State.flagsSound (s : State) : Prop :=
  ∀ f ∈ Flag.all, s.flag f = true → s.site.limits.combMask.getLsbD f.bit = false → s.combined f.group = true

/-- R106, R107: while the part runs, TRIP stands as it is judged; outside running it is deasserted. -/
abbrev State.tripSound (s : State) : Prop :=
  (s.phase = .running → s.faults.trip = s.tripJudged) ∧ (s.phase ≠ .running → s.faults.trip = false)

/-- R88, R90, R107: no pump is driven while its force is in effect, while its station is disabled, or in a reset or
start-up. -/
abbrev State.pumpsSound (s : State) : Prop :=
  (s.pumpForce = true ∨ s.phase ≠ .running →
    s.s1.pump.applied = 0 ∧ s.s2.pump.applied = 0 ∧ s.grout.pump.applied = 0) ∧
  (s.site.enables.s1 = false → s.s1.pump.applied = 0) ∧ (s.site.enables.s2 = false → s.s2.pump.applied = 0) ∧
  (s.site.enables.g = false → s.grout.pump.applied = 0)

/-- The tables keep their sizes, and the two queues their room (R23, R73, R87, R111, R128, R131, R151, R159, R178, R185,
R194, R198). -/
abbrev State.sizesSound (s : State) : Prop :=
  s.plans.length = Config.planSlots ∧ s.grout.ports.length = 6 ∧ s.grout.valves.length = 6 ∧ s.fe.cals.length = 20 ∧
  s.fe.scan.length = Config.pointCount ∧ s.wall.points.length = Config.pointCount ∧
  s.wall.tilt.length = Config.pointCount ∧ s.s1.nbr.length = Config.pointCount ∧ s.s2.nbr.length = Config.pointCount ∧
  s.rows.length = 8 ∧ s.site.limits.ceilings.length = 8 ∧ s.notices.levels.length = 16 ∧ s.site.tags.length = 4 ∧
  s.faults.records.length = 4 ∧ s.link.queue.length ≤ Config.inputFrames ∧ s.grout.queue.length ≤ Config.groutPlaces

/-- A guard's count stays within its width (R94). -/
abbrev Guard.sound (g : Guard) : Prop := g.count ≤ Config.guardEnd

/-- The counts and windows of a stressing station (R78, R80, R82, R94). -/
abbrev Station.countsSound (x : Station) : Prop :=
  -Config.encoderEnd ≤ x.enc.count ∧ x.enc.count ≤ Config.encoderEnd ∧ x.load.win.length ≤ Config.windowSize ∧
  x.enc.win.length ≤ Config.windowSize ∧ x.ovl.sound ∧ ∀ g ∈ x.nbr, g.sound

/-- R78, R80, R83 to R85, R94: every counter stays in its range, every average window within 16 values. -/
abbrev State.countsSound (s : State) : Prop :=
  s.s1.countsSound ∧ s.s2.countsSound ∧
  (-Config.drumEnd ≤ s.winch.drum ∧ s.winch.drum ≤ Config.drumEnd ∧ s.winch.tension.win.length ≤ Config.windowSize ∧
    s.winch.jam.sound ∧ s.winch.slack.sound) ∧
  (s.grout.flow.stray ≤ Config.strayEnd ∧ s.grout.pressure.win.length ≤ Config.windowSize ∧ s.grout.refusal.sound ∧
    s.grout.overp.sound ∧ ((s.grout.pass.map (·.volume)).getD 0) ≤ Config.volumeEnd) ∧
  ∀ g ∈ s.wall.tilt, g.sound

end Sys2Proof.Machine
end

