-- ==== Sys2Proof/Certificates/Slice0/Obligations.lean ====
section
/-! DEFINITION. The statements for the provers. Each cites, in its docstring, the rule of spec/ it formalises or the
sentences it derives from; OBLIGATIONS.json lists them. -/

open Sys2Proof Sys2Proof.Machine

/-! ## The machine as a whole -/

/-- The model's step (log 3): the command at the front of the queue acts on the state with the rest of the queue, and an
empty queue leaves the part as it is. -/
def Obligations.StepRunsTheFrontCommand : Prop :=
  (∀ (c : Instr) (rest : List Instr) (s : State), s.pending = c :: rest → step s = exec c { s with pending := rest }) ∧
  (∀ s : State, s.pending = [] → step s = .next s)

/-- Every command completes, whatever the state, and none reaches the queue of the commands that wait (log 1). R192, R199,
R200: while the part is not running, only the resets, the two emergency lines and the clock's second change anything
(log 2), and the encoder lines their own levels (log 21). -/
def Obligations.EveryCommandCompletes : Prop :=
  (∀ (i : Instr) (s : State), ∃ t, exec i s = .next t ∧ t.pending = s.pending) ∧
  (∀ (i : Instr) (s : State), s.phase ≠ .running → (∀ up lost, i ≠ .powerReset up lost) → i ≠ .pinReset →
    i ≠ .resetPinRelease → (∀ ok, i ≠ .startUpEnd ok) → (∀ line, i ≠ .emergencyFallingEdge line) →
    (∀ line, i ≠ .emergencyLineRise line) → i ≠ .siteClockSecond → (∀ st line, i ≠ .encoderEdge st line) →
      exec i s = .next s)

/-- R30, R94, R98, R106, R116, R136, R175, R182, R185, R192, R194, R196 to R200: what reset leaves, and that a POWER reset and the
end of its start-up, the clock backup found lost, give it from itself (log 4). -/
def Obligations.ResetLeavesThePartAtRest : Prop :=
  let s := State.reset
  s.reg = [] ∧ s.plans = [none, none, none, none] ∧
  (∀ st : Stn, (s.stn st).state = .idle ∧ (s.stn st).ctx = none ∧ (s.stn st).pump = ⟨0, 0⟩ ∧ (s.stn st).relCmd = false ∧
    (s.stn st).seat = none ∧ (s.stn st).passed = false ∧ (s.stn st).ovl.count = 0 ∧ (s.stn st).load.win = []) ∧
  (s.winch.state = .idle ∧ s.winch.run = none ∧ s.winch.drum = 0) ∧
  (s.grout.state = .idle ∧ s.grout.pass = none ∧ s.grout.queue = [] ∧ s.grout.pump = ⟨0, 0⟩ ∧
    s.grout.valves.all (fun v => v.state == .closed) = true) ∧
  (s.faults.trip = false ∧ s.faults.emergency.set = false ∧ s.flag .clockLost = true ∧
    Flag.all.filter s.flag = [.clockLost]) ∧
  s.notices.entries.map (fun n => (n.kind, n.origin, n.detail)) = [(.resetDone, .system, 1), (.clockLost, .system, 0)] ∧
  (s.notices.levels =
      [.low, .mid, .mid, .mid, .low, .mid, .low, .low, .high, .high, .high, .low, .low, .mid, .high, .mid] ∧
    s.notices.floor = .low) ∧
  (s.link.rx = .waiting ∧ s.link.queue = [] ∧ s.link.reply = none ∧ s.link.lost = false ∧ s.link.watch = .stopped) ∧
  (s.archive.nextNumber = 1 ∧ s.archive.nextSlot = 1 ∧ s.archive.slots = []) ∧
  (s.site.clockValid = false ∧ s.site.clock = 0 ∧ s.site.tags = [0, 0, 0, 0] ∧ s.site.locked = false) ∧
  s.pending = [] ∧
  ∃ t, exec (.powerReset true true) s = .next t ∧ t.phase = .startUp ∧ exec (.startUpEnd true) t = .next s

/-- The invariants hold right after reset. -/
def Obligations.ResetStateIsSound : Prop :=
  State.reset.registerSound ∧ State.reset.noticesSound ∧ State.reset.archiveSound ∧ State.reset.flagsSound ∧
  State.reset.tripSound ∧ State.reset.pumpsSound ∧ State.reset.sizesSound ∧ State.reset.countsSound

/-- R1, R11: every step keeps the Anchor Register within 48 entries, no id twice. -/
def Obligations.StepKeepsRegisterSound : Prop :=
  ∀ s t : State, s.registerSound → step s = .next t → t.registerSound

/-- R175, R176: every step keeps the pending set within 32 notices, no kind twice from one origin. -/
def Obligations.StepKeepsNoticesSound : Prop :=
  ∀ s t : State, s.noticesSound → step s = .next t → t.noticesSound

/-- R163, R164, R174: every step keeps the slots of the Archive in their canonical form and its two counters in their
ranges: the next record number within 1 to 4294967295 and the next slot within 1 to 1024. -/
def Obligations.StepKeepsArchiveSound : Prop :=
  ∀ s t : State, s.archiveSound → step s = .next t → t.archiveSound

/-- R98 to R104, R106: every step keeps the combined flag of a group set while one of its detailed flags that is not
masked is set, and leaves TRIP as it is judged from the combined flags and the trip mask. -/
def Obligations.StepKeepsFlagsAndTripJudged : Prop :=
  (∀ s t : State, s.flagsSound → step s = .next t → t.flagsSound) ∧
  (∀ s t : State, s.tripSound → step s = .next t → t.tripSound)

/-- R88, R93, R107: every step leaves no pump driven against TRIP, against EMERGENCY, at a disabled station, or outside
running. -/
def Obligations.StepKeepsPumpsForcedOff : Prop :=
  ∀ s t : State, s.pumpsSound → step s = .next t → t.pumpsSound

/-- R23, R111, R128, R131, R151, R159, R178, R185, R198: every step keeps the tables at their sizes and the two queues
within their places; R78, R80, R83 to R85, R94: and every counter in its range, every window within 16 values. -/
def Obligations.StepKeepsSizesAndCounters : Prop :=
  (∀ s t : State, s.sizesSound → step s = .next t → t.sizesSound) ∧
  (∀ s t : State, s.countsSound → step s = .next t → t.countsSound)

/-! ## The link -/

/-- R186, R193: the frame of a well-formed request has the kind of its catalogue row, a BODY the length check accepts and LEN
can carry, and reads back as that request, every field at every value it can travel with. -/
def Obligations.RequestFrameReadsBack : Prop :=
  ∀ i : Instr, i.wf = true → i.isRequest = true →
    requestOf (frameOf i) = i ∧ (frameOf i).body.length ≤ 240 ∧
    (∃ r, rowOf (frameOf i).kind = some r ∧ lengthOk r.length (frameOf i).body = true) ∧
    (frameOf i).kind = (match i with
      | .identify .. => 0x01 | .reset .. => 0x02 | .resumeLink .. => 0x03 | .takeNotice .. => 0x04
      | .getNotices .. => 0x05 | .setNoticeLevel .. => 0x06 | .declare .. => 0x10 | .amend .. => 0x11
      | .void .. => 0x12 | .getAnchor .. => 0x13 | .listAnchors .. => 0x14 | .loadPlan .. => 0x18
      | .getPlan .. => 0x19 | .startTest .. => 0x20 | .holdTest .. => 0x21 | .resumeTest .. => 0x22
      | .abortTest .. => 0x23 | .adjustTest .. => 0x24 | .getStation .. => 0x25 | .setCalibration .. => 0x28
      | .getCalibration .. => 0x29 | .getInputs .. => 0x2A
      | .getOutputs .. => 0x2B | .getScan .. => 0x2C | .setStations .. => 0x2D | .getGuards .. => 0x30
      | .getFaults .. => 0x31 | .clearFault .. => 0x32 | .clearGroup .. => 0x33 | .runSelftest .. => 0x34
      | .clearEmergency .. => 0x35 | .winchRun .. => 0x38 | .winchStop .. => 0x39 | .getWinch .. => 0x3A
      | .assignPort .. => 0x40 | .releasePort .. => 0x41 | .groutRequest .. => 0x42 | .groutCancel .. => 0x43
      | .groutStop .. => 0x44 | .groutPause .. => 0x45 | .groutResume .. => 0x46 | .getGrout .. => 0x47
      | .setPoint .. => 0x48 | .baseline .. => 0x49 | .getPoints .. => 0x4A | .getRows .. => 0x4B
      | .closeAnchor .. => 0x50 | .readArchive .. => 0x51 | .readReadings .. => 0x52 | .markExported .. => 0x53
      | .eraseOldest .. => 0x54 | .getArchive .. => 0x55 | .setLimits .. => 0x58 | .getLimits .. => 0x59
      | .lockLimits .. => 0x5B | .setSettings .. => 0x5C | .getSettings .. => 0x5D | .setTime .. => 0x5E
      | .getTime .. => 0x5F | .setTag .. => 0x60 | .getTags .. => 0x61 | _ => 0)

/-- R183 to R186: the bytes of a frame on the line, received one by one by a waiting receiver, do what the request command
does; so does a good frame of an unknown kind (log 1). -/
def Obligations.LineBytesDeliverTheRequest : Prop :=
  ∀ (i : Instr) (s : State), i.wf = true → (i.isRequest = true ∨ ∃ k t b, i = .unknownKind k t b) →
    s.phase = .running → s.link.rx = .waiting → deliver (frameOf i).lineBytes s = exec i s

/-- R183, R184, R192: BYTE_RECEIVED and RECEIVER_GAP. A stop-bit error or a gap gives up the partial frame; each state of
the receiver keeps the byte or starts afresh; a completed frame is handed on when both CRC bytes agree and is dropped
when they do not; through start-up and in reset nothing is received. The CRC of the nine characters "123456789" is
0x29B1, low byte 0xB1.
(The 20 ms gap is the rig's: log 20.) -/
def Obligations.ReceiverFollowsTheFrame : Prop :=
  (let c := crc [0x31#8, 0x32#8, 0x33#8, 0x34#8, 0x35#8, 0x36#8, 0x37#8, 0x38#8, 0x39#8]
   c = 0x29B1#16 ∧ crcLow c = 0xB1#8 ∧ crcHigh c = 0x29#8) ∧
  ∀ (s : State) (b : Byte),
    (s.phase ≠ .running → ∀ e, exec (.byteReceived b e) s = .next s ∧ exec .receiverGap s = .next s) ∧
    (s.phase = .running →
      exec (.byteReceived b true) s = .next (s.setRx .waiting) ∧
      exec .receiverGap s = .next (s.setRx .waiting) ∧
      (s.link.rx = .waiting →
        exec (.byteReceived b false) s = .next (s.setRx (if b = 0x5A#8 then .length else .waiting))) ∧
      (s.link.rx = .length →
        exec (.byteReceived b false) s =
          .next (s.setRx (if 2 ≤ b.toNat ∧ b.toNat ≤ 242 then .header b none else .waiting))) ∧
      (∀ len, s.link.rx = .header len none →
        exec (.byteReceived b false) s = .next (s.setRx (.header len (some b)))) ∧
      (∀ len kind, s.link.rx = .header len (some kind) →
        exec (.byteReceived b false) s =
          .next (s.setRx (if len.toNat = 2 then .check len kind b [] none else .body len kind b []))) ∧
      (∀ len kind tag data, s.link.rx = .body len kind tag data →
        exec (.byteReceived b false) s =
          .next (s.setRx (if data.length + 3 < len.toNat then .body len kind tag (data ++ [b])
            else .check len kind tag (data ++ [b]) none))) ∧
      (∀ len kind tag data, s.link.rx = .check len kind tag data none →
        exec (.byteReceived b false) s = .next (s.setRx (.check len kind tag data (some b)))) ∧
      (∀ len kind tag data low, s.link.rx = .check len kind tag data (some low) →
        let c := crc (len :: kind :: tag :: data)
        let f : Frame := ⟨kind.toNat, tag.toNat, data⟩
        exec (.byteReceived b false) s =
          .next (if low = crcLow c ∧ b = crcHigh c then (s.setRx .waiting).frameArrives f (takeFrame f)
            else s.setRx .waiting)))

/-- R184, R185, R189, R192: where the frame of a request, or of an unknown kind, goes when it is not taken at once. Through start-up and in reset it is
lost; while a reply is being sent or a frame waits it joins the end of the queue; a third frame sets the overrun latch
and nothing else. A running watch restarts in the two last cases, but not at a frame of an unknown kind. -/
def Obligations.InputQueueHoldsTwoFrames : Prop :=
  (∀ (i : Instr) (s : State), i.isRequest = true →
    let watch := match s.link.watch with | .stopped => Watch.stopped | .running _ => s.watchFromSettings
    (s.phase ≠ .running → exec i s = .next s) ∧
    (s.phase = .running → s.link.queue.length < 2 → (s.link.reply ≠ none ∨ s.link.queue ≠ []) →
      exec i s = .next { s with link := { s.link with queue := s.link.queue ++ [frameOf i], watch := watch } }) ∧
    (s.phase = .running → 2 ≤ s.link.queue.length →
      exec i s = .next { s with link := { s.link with overrun := true, watch := watch } })) ∧
  (∀ (k tag : Nat) (body : List Byte) (s : State), rowOf k = none →
    let i : Instr := .unknownKind k tag body
    (s.phase ≠ .running → exec i s = .next s) ∧
    (s.phase = .running → s.link.queue.length < 2 → (s.link.reply ≠ none ∨ s.link.queue ≠ []) →
      exec i s = .next { s with link := { s.link with queue := s.link.queue ++ [⟨k, tag, body⟩] } }) ∧
    (s.phase = .running → 2 ≤ s.link.queue.length →
      exec i s = .next { s with link := { s.link with overrun := true } }))

/-- R190: while the LINK_LOST state is set, a request of a kind that is not a query, IDENTIFY, TAKE_NOTICE or RESUME_LINK is
answered LINK_LOST, detail 0, and changes nothing; the kinds that go on to their own checks are exactly these; and
TAKE_NOTICE passes over the LINK_LOST notice. -/
def Obligations.LinkLostGateHoldsRequestsBack : Prop :=
  (∀ (i : Instr) (s : State), i.isRequest = true → s.phase = .running → s.link.reply = none → s.link.queue = [] →
    s.link.lost = true → isQuery i = false → (frameOf i).kind ≠ 0x03 → (frameOf i).kind ≠ 0x04 →
    Refuses i s .linkLost) ∧
  (∀ (i : Instr) (s : State), i.isRequest = true → s.phase = .running → s.link.reply = none → s.link.queue = [] →
    s.link.lost = true → (s.accepts i ↔ isQuery i = true ∨ (frameOf i).kind = 0x03 ∨ (frameOf i).kind = 0x04)) ∧
  (∀ (tag : Nat) (s : State), s.accepts (.takeNotice tag) → s.link.lost = true →
    ∃ t, exec (.takeNotice tag) s = .next t ∧ ∀ n ∈ s.notices.entries, n.kind = .linkLost → n ∈ t.notices.entries)

/-- R183, R184, R186, R187, R193: a request that is taken at once gets one reply: its KIND + 0x80, its TAG, and a status
block that reflects the part after the request's change; the overrun latch shows in it and is then clear. The eight bytes
of a status block with the code of each response and state, the bytes of a field, low byte first and two's complement
where it is signed, and the bytes of a reply frame with its CRC. -/
def Obligations.EveryTakenRequestIsAnswered : Prop :=
  (∀ (i : Instr) (s : State), i.isRequest = true → s.accepts i →
    ∃ t r, exec i s = .next t ∧ t.link.reply = some r ∧ r.kind = (frameOf i).kind + 0x80 ∧ r.tag = (frameOf i).tag ∧
      r.status.comb = t.faults.comb ∧ r.status.emergency = t.faults.emergency.set ∧ r.status.linkLost = t.link.lost ∧
      r.status.limitsLocked = t.site.locked ∧ r.status.trip = t.faults.trip ∧ r.status.attn = t.attn ∧
      r.status.overflow = t.notices.overflow ∧ r.status.clockValid = t.site.clockValid ∧
      r.status.s1 = (if t.site.enables.s1 then t.s1.state.code else 15) ∧
      r.status.s2 = (if t.site.enables.s2 then t.s2.state.code else 15) ∧
      r.status.w = (if t.site.enables.w then t.winch.state.code else 15) ∧
      r.status.g = (if t.site.enables.g then t.grout.state.code else 15) ∧
      r.status.pendingCount = t.notices.entries.length ∧
      r.status.overrun = s.link.overrun ∧ t.link.overrun = false ∧ t.link.queue = [frameOf i]) ∧
  (∀ b : Status, ∃ flags : Byte,
    b.bytes =
      [BitVec.ofNat 8 b.code.code, b.comb.setWidth 8, flags, BitVec.ofNat 8 (b.s1 + 16 * b.s2),
       BitVec.ofNat 8 (b.w + 16 * b.g), BitVec.ofNat 8 b.pendingCount, BitVec.ofNat 8 b.detail,
       BitVec.ofNat 8 (b.detail / 256)] ∧
    (List.range 8).map flags.getLsbD =
      [b.emergency, b.linkLost, b.limitsLocked, b.trip, b.attn, b.overflow, b.overrun, b.clockValid]) ∧
  [Resp.ok, .accepted, .unknownKind, .badLength, .outOfRange, .noSuchAnchor, .noSuchRecord, .duplicate, .full, .wrongStage,
    .busy, .disabled, .limitsLocked, .clockUnset, .timeBack, .notCured, .noPort, .neighbourBusy, .rowCeiling, .selftestDue,
    .faulted, .emergency, .linkLost, .planInvalid, .attemptsExhausted, .conditionPresent, .flagsRemain, .archiveFull,
    .notExported].map Resp.code = List.range 29 ∧
  [StnState.idle, .ramping, .holding, .seating, .releasing, .seeking, .held, .fault, .unloading, .selftest].map
    StnState.code = List.range 10 ∧
  [WinchState.idle, .paying, .stopping, .selftest].map WinchState.code = [0, 1, 2, 9] ∧
  [GroutState.idle, .starting, .pumping, .paused, .ending, .selftest].map GroutState.code = [0, 1, 2, 3, 4, 9] ∧
  [Stn.s1, .s2].map Stn.code = [1, 2] ∧
  (∀ n : Nat,
    (WField.u8 n).bytes = [BitVec.ofNat 8 n] ∧ (WField.u16 n).bytes = [BitVec.ofNat 8 n, BitVec.ofNat 8 (n / 256)] ∧
    (WField.u32 n).bytes =
      [BitVec.ofNat 8 n, BitVec.ofNat 8 (n / 256), BitVec.ofNat 8 (n / 65536), BitVec.ofNat 8 (n / 16777216)]) ∧
  (∀ z : Int,
    (-32768 ≤ z → z < 32768 → (WField.i16 z).bytes = (WField.u16 (if z < 0 then z + 65536 else z).toNat).bytes) ∧
    (-2147483648 ≤ z → z < 2147483648 →
      (WField.i32 z).bytes = (WField.u32 (if z < 0 then z + 4294967296 else z).toNat).bytes)) ∧
  (∀ r : Reply,
    let body := r.status.bytes ++ r.fields.flatMap WField.bytes
    let covered := [BitVec.ofNat 8 (2 + body.length), BitVec.ofNat 8 r.kind, BitVec.ofNat 8 r.tag] ++ body
    r.lineBytes = [0x5A#8] ++ covered ++ [(crc covered).setWidth 8, (crc covered >>> 8).setWidth 8]) ∧
  crc [] = 0xFFFF#16 ∧
  ∀ (l : List Byte) (b : Byte),
    let fed (r : BitVec 16) (i : Nat) : BitVec 16 :=
      if r.msb = b.getLsbD i then r <<< 1 else (r <<< 1) ^^^ 0x1021#16
    crc (l ++ [b]) = [7, 6, 5, 4, 3, 2, 1, 0].foldl fed (crc l)

/-- R184 to R186: REPLY_SENT and UNKNOWN_KIND. Without a reply nothing happens; the frame that was answered leaves the
queue, and the next one is taken; after the reply to RESET the COMMAND reset begins (R199). A good frame of a kind the
catalogue does not list is answered UNKNOWN_KIND with the kind as detail and the reply kind 0xFF, changes nothing, and
does not restart the watch; a frame of a listed kind whose BODY has a wrong length is answered BAD_LENGTH with that
length. -/
def Obligations.QueuedFramesAreTakenInOrder : Prop :=
  (∀ s : State, s.phase = .running →
    (s.link.reply = none → exec .replySent s = .next s) ∧
    (s.link.reply ≠ none → s.link.resetAfterReply = false →
      (∀ f, s.link.queue = [f] → exec .replySent s = .next { s with link := { s.link with queue := [], reply := none } }) ∧
      (∀ f g, s.link.queue = [f, g] →
        exec .replySent s = .next (takeFrame g { s with link := { s.link with queue := [g], reply := none } }))) ∧
    (s.link.reply ≠ none → s.link.resetAfterReply = true → exec .replySent s = .next s.commandReset)) ∧
  (∀ (k tag : Nat) (body : List Byte) (s : State), rowOf k = none → s.phase = .running → s.link.reply = none →
    s.link.queue = [] →
    exec (.unknownKind k tag body) s =
      .next ({ s with link := { s.link with queue := [⟨k, tag, body⟩] } }.formReply 0xFF tag (.plain .unknownKind k))) ∧
  (∀ (f : Frame) (r : CatalogueRow) (s : State), rowOf f.kind = some r → lengthOk r.length f.body = false →
    takeFrame f s = s.formReply (f.kind + 0x80) f.tag (.plain .badLength f.body.length)) ∧
  (∀ (i : Instr) (s : State), i.wf = true → i.isRequest = true → s.phase = .running → s.link.reply = none →
    s.link.queue = [] → exec i s = .next (takeFrame (frameOf i) (s.taken i)))

/-- R189, R191: LINK_WATCH_EXPIRY and RESUME_LINK. At the expiry the LINK_LOST state is set and the watch stops; LINK_LOST is
raised in SYSTEM, its notice carries the window, and the cause is handed to the stations; a stopped watch does not expire.
RESUME_LINK changes nothing while the state is clear; while it is set, the state is cleared, the watch starts with the
window of the settings, the cause leaves every test that is not in FAULT and the paused pass, and the arbiter acts.
(The rig asserts the expiry, log 20; the flag is raised before the stations are reached, log 8; a test in FAULT keeps the
cause by R52's freeze, log 27.) -/
def Obligations.LinkLostIsSetAndCleared : Prop :=
  (∀ s : State, s.phase = .running →
    (s.link.watch = .stopped → exec .linkWatchExpiry s = .next s) ∧
    (∀ w, s.link.watch = .running w →
      exec .linkWatchExpiry s =
        .next (((({ s with link := { s.link with lost := true, watch := .stopped } }.raise .linkLost).notice
          .linkLost .system none w).handCause .linkLost .linkLost)))) ∧
  (∀ (tag : Nat) (s : State), s.accepts (.resumeLink tag) →
    (s.link.lost = false → Serves (.resumeLink tag) s (fun u => u) (.plain .ok)) ∧
    (s.link.lost = true →
      Serves (.resumeLink tag) s
        (fun u => ({ u with link := { u.link with lost := false, watch := u.watchFromSettings } }.dropCause .linkLost).arbiter)
        (.plain .ok))) ∧
  (∀ s : State, s.watchFromSettings =
    match s.site.settings.linkWindow with
    | 1 => .running 2 | 2 => .running 5 | 3 => .running 20 | 4 => .running 60 | _ => .stopped)

/-! ## Queries -/

/-- Every GET, LIST, READ and IDENTIFY request leaves the part as it was: only the link changes, by the frame, the watch
and the reply, and the draw that the reply makes of the free values (the model's own count, log 31). -/
def Obligations.QueriesChangeOnlyTheLink : Prop :=
  ∀ (i : Instr) (s : State), i.isRequest = true → isQuery i = true → s.accepts i →
    ∃ r, exec i s =
      .next
        { s.taken i with
          link := { (s.taken i).link with reply := some r, overrun := false }
          draws := s.draws + 1 }

/-- R188: a snapshot is put on pages in order, none of more than 230 bytes; a page in range is answered with its number,
the page count and its fields, and a page beyond them is refused. A snapshot that fits one page has one page, and a page
ends only where the next field would not fit.
(That no field is split, and that a page takes the fields that fit: log 11.) -/
def Obligations.PagesHoldTheWholeSnapshot : Prop :=
  ∀ fields : List WField,
    let pages := paginate fields [] 230
    let bytes (l : List WField) : Nat := (l.map WField.width).sum
    pages.flatten = fields ∧ (∀ p ∈ pages, bytes p ≤ 230) ∧ (bytes fields ≤ 230 → pages = [fields]) ∧
    (∀ (k : Nat) (p q : List WField), pages[k]? = some p → pages[k + 1]? = some q →
      ∃ f rest, q = f :: rest ∧ 230 < bytes p + f.width) ∧
    (∀ p : Nat, ∀ fs, pages[p]? = some fs → paged (some p) fields = .reply (.u8 p :: .u8 pages.length :: fs)) ∧
    (∀ p : Nat, pages.length ≤ p → paged (some p) fields = .plain .outOfRange 1) ∧
    paged none fields = paged (some 0) fields

/-- R87, R91 (GET_INPUTS, GET_OUTPUTS), R97, R105, R127, R150, R158, R162, R172, R181, R194, R196 to R198: each paged
query answers the page asked for of its snapshot, as the part stands when the request is taken; and what each snapshot
shows: for each guard its activity, count, N and the threshold last evaluated; for each row its ceiling, sums, headroom
and reservations; every drive with its command and its output; every channel; the fault state; the winch with its run;
the manifold with its queue and its pass; each monitor point; the Archive; the limits and the settings; and the notices
in the order they would be taken, those that are passed over after the rest. A listed value is coded from 1 in its
rule's order (R193).
(The layout of the snapshots, and the order of two values that no rule lists: log 11; the times left: log 12; the order
of the passed-over entries: log 15; the level of DRUM_DIR, whatever it is: log 31; a recaptured baseline: log 34.) -/
def Obligations.PagedQueriesAnswerTheirSnapshot : Prop :=
  (∀ (tag : Nat) (p : Option Nat) (s : State),
    let answers (i : Instr) (fields : State → List WField) : Prop :=
      s.accepts i → Serves i s (fun u => u) (paged p (fields (s.taken i)))
    answers (.getNotices tag p) noticeSetFields ∧ answers (.getInputs tag p) inputFields ∧
    answers (.getOutputs tag p) outputFields ∧
    answers (.getScan tag p) (fun u => .u8 u.fe.scanCount :: u.fe.scan.flatMap PointReading.fields) ∧
    answers (.getGuards tag p) guardList ∧ answers (.getFaults tag p) faultFields ∧
    answers (.getWinch tag p) winchFields ∧ answers (.getGrout tag p) groutFields ∧
    answers (.getPoints tag p) (fun u => (List.range 16).flatMap u.pointFields ++
      [.u8 u.fe.scanCount, .flag (u.condition .monitorSensor), .flag (u.condition .tiltExceeded)]) ∧
    answers (.getRows tag p) (fun u => [1, 2, 3, 4, 5, 6, 7, 8].flatMap u.rowFields) ∧
    answers (.getArchive tag p) archiveFields ∧ answers (.getLimits tag p) limitFields ∧
    answers (.getSettings tag p) (fun u => settingFields u.site.settings) ∧
    answers (.getTime tag p)
      (fun u => [.u32 u.site.clock, .flag u.site.clockValid] ++ WField.opt (fun t => [.u32 t]) u.latestStamp) ∧
    answers (.getTags tag p) (fun u => u.site.tags.map .u32)) ∧
  (∀ s : State,
    let t := s.site.settings
    let bit (b : Bool) : WField := .u8 (if b then 1 else 0)
    let guard (active : Bool) (g : Guard) (n : Nat) : List WField :=
      [bit active, .u8 g.count, .u8 n] ++ match g.last with | none => [.u8 0] | some v => [.u8 1, .u16 v]
    let rises (x : Station) : List WField :=
      let held := (List.range 16).filter fun k => x.ctx.any fun c => (c.baselines.getD k none).isSome
      .u8 held.length :: held.flatMap fun k => .u8 (k + 1) :: guard true (x.nbr.getD k .rest) t.nNeighbour
    guardList s =
      guard (s.s1.state != .idle) s.s1.ovl t.nOverload ++ guard (s.s2.state != .idle) s.s2.ovl t.nOverload ++
      guard (s.grout.state == .pumping) s.grout.refusal t.nRefusal ++
      guard (s.grout.state != .idle) s.grout.overp t.nOverpressure ++
      guard (s.winch.state == .paying || s.winch.state == .selftest) s.winch.jam t.nJam ++
      guard (s.winch.state == .paying && decide (200 ≤ s.winch.paid)) s.winch.slack t.nSlack ++
      rises s.s1 ++ rises s.s2 ++
      (List.range 16).flatMap fun k =>
        let p := s.point (k + 1)
        guard (p.kind == .tilt && p.baseline.isSome && !p.fresh) (s.wall.tilt.getD k .rest) t.nTilt) ∧
  (∀ (s : State) (r : Nat),
    let x := s.row r
    let ceiling := s.site.limits.ceilings.getD (r - 1) 0
    let holds (y : Station) (n : Nat) : List (List WField) :=
      match y.ctx with
      | none => []
      | some c =>
        if c.shape = .full ∧ c.seatDone = false ∧ c.row = r then [[.u8 n, .u16 c.anchor, .u16 c.pp]] else []
    let held := holds s.s1 1 ++ holds s.s2 2
    s.rowFields r =
      [.u16 ceiling, .u16 x.locked, .u16 x.reserved, .u16 (ceiling - (x.locked + x.reserved)), .u8 held.length] ++
        held.flatten) ∧
  (∀ s : State,
    let bit (b : Bool) : WField := .u8 (if b then 1 else 0)
    let one (b : Bool) : WField := .u8 (if b then 1 else 2)
    let e := s.site.enables
    let emergency := s.faults.emergency.set
    let force := s.faults.trip || emergency
    let pump (p : PumpOut) (on : Bool) : List WField := [.u16 p.cmd, .u16 p.applied, bit (force || !on)]
    let release (x : Station) (on : Bool) : List WField := [one x.relCmd, one (x.relCmd && !emergency && on)]
    let seat (x : Station) : List WField :=
      match x.seat with | none => [one false, .u8 0] | some p => [one true, .u8 (p.total - p.samples / 50)]
    let paying := s.winch.state == .paying
    let motor : List WField := [one paying, one (paying && !force && e.w)]
    outputFields s =
      pump s.s1.pump e.s1 ++ pump s.s2.pump e.s2 ++ pump s.grout.pump e.g ++ release s.s1 e.s1 ++ release s.s2 e.s2 ++
      seat s.s1 ++ seat s.s2 ++ motor ++ motor ++
      s.grout.valves.flatMap fun v =>
        [one v.cmd,
         .u8 (match v.state with | .closed => 1 | .opening => 2 | .opened => 3 | .closing => 4)]) ∧
  (∀ s : State,
    let one (b : Bool) : WField := .u8 (if b then 1 else 2)
    let mark (m : Option Mark) : List WField :=
      match m with
      | none => [.u8 0]
      | some .valid => [.u8 1, .u8 1]
      | some .isOpen => [.u8 1, .u8 2]
      | some .isOver => [.u8 1, .u8 3]
    let level (win : List Int) : Int := if win = [] then 0 else roundAway win.sum win.length
    let channel (c : Channel) : List WField := [.u16 (level c.win).toNat, .u8 c.win.length] ++ mark c.mark
    let encoder (x : Encoder) : List WField := [.i16 x.count, .i16 (level x.win), .u8 x.win.length] ++ mark x.mark
    ∃ drumDir : Bool,
      inputFields s =
        channel s.s1.load ++ channel s.s2.load ++ channel s.winch.tension ++ channel s.grout.pressure ++
        encoder s.s1.enc ++ encoder s.s2.enc ++
        [.i32 s.winch.drum, .i32 s.winch.paid, one s.grout.flow.isOpen, .u16 s.grout.flow.published,
         .u8 s.grout.flow.stray, one s.estopHigh, one s.wallTripHigh, one drumDir]) ∧
  (∀ s : State,
    let bit (b : Bool) : WField := .u8 (if b then 1 else 0)
    let one (b : Bool) : WField := .u8 (if b then 1 else 2)
    let opt (o : Option (List WField)) : List WField := match o with | none => [.u8 0] | some l => .u8 1 :: l
    let time (t : Option Nat) : List WField := opt (t.map fun t => [.u32 t])
    let word (v : Option Nat) : List WField := opt (v.map fun v => [.u16 v])
    let signed (v : Option Int) : List WField := opt (v.map fun v => [.i16 v])
    let level (win : List Int) : Nat := (if win = [] then 0 else roundAway win.sum win.length).toNat
    let rank (l : Level) : Nat := match l with | .off => 0 | .low => 1 | .mid => 2 | .high => 3
    let group (g : Nat) (flags : List Flag) : List WField :=
      bit (s.faults.comb.getLsbD (g - 1)) ::
        flags.flatMap fun f => [bit (s.faults.det.getLsbD f.bit), bit (s.condition f)]
    let kind (k : PassKind) : Nat := match k with | .primary => 1 | .post => 2
    let runEnd (r : RunEnd) : Nat :=
      match r with | .reached => 1 | .jammed => 2 | .slack => 3 | .stopped => 4 | .halted => 5
    let passEnd (r : PassEnd) : Nat :=
      match r with
      | .volumeReached => 1 | .noFlow => 2 | .refusal => 3 | .stopped => 4 | .fault => 5 | .pauseExpired => 6
      | .interrupted => 7
    let valve (v : Valve) : Nat := match v.state with | .closed => 1 | .opening => 2 | .opened => 3 | .closing => 4
    let e := s.faults.emergency
    let w := s.winch
    let g := s.grout
    let t := s.site.settings
    let l := s.site.limits
    faultFields s =
      group 1 [.overload .s1, .loadOpen .s1, .loadOver .s1, .encoderRange .s1] ++
      group 2 [.overload .s2, .loadOpen .s2, .loadOver .s2, .encoderRange .s2] ++
      group 3 [.tensionOpen, .tensionOver] ++ group 4 [.overpressure, .pressureOpen, .pressureOver, .valveLeak] ++
      group 5 [.tiltExceeded, .monitorSensor] ++ group 6 [.linkLost, .selftestFailed, .archiveWrite, .clockLost] ++
      [.u32 l.combMask.toNat, .u32 l.tripMask.toNat, one s.faults.trip, bit e.set,
       .u8 ((if e.estop then 1 else 0) + if e.wallTrip then 2 else 0)] ++ time e.time ++
      [one s.estopHigh, one s.wallTripHigh, .u8 (if s.s1.passed then 2 else 1), .u8 (if s.s2.passed then 2 else 1)] ++
      s.faults.records.flatMap (fun r => opt (r.map fun r =>
        .u8 (if r.passed then 1 else 2) :: opt (r.tripAt.map fun n => [.u8 n]) ++ time r.time)) ∧
    winchFields s =
      [.u8 (match w.state with | .idle => 1 | .paying => 2 | .stopping => 3 | .selftest => 4), bit s.site.enables.w,
       .i32 w.drum, .i32 w.paid, .u16 (level w.tension.win), .u8 w.tension.win.length] ++
      opt (w.run.map fun r => [.u16 r.anchor, .u16 r.target] ++ opt (r.reason.map fun x => [.u8 (runEnd x)]) ++
        opt (r.halt.map fun x => [.u8 (match x with | .trip => 1 | .emergency => 2 | .linkLost => 3)]) ++ [.u16 r.peak, .u8 (2 - r.brakeSamples / 50)]) ++
      [.u8 w.jam.count, .u8 w.slack.count] ∧
    groutFields s =
      [.u8 (match g.state with
        | .idle => 1 | .starting => 2 | .pumping => 3 | .paused => 4 | .ending => 5 | .selftest => 6),
       bit s.site.enables.g] ++ g.ports.flatMap word ++ g.valves.map (fun v => .u8 (valve v)) ++
      [.u8 g.queue.length] ++
      (g.queue.zipIdx.flatMap fun q =>
        [.u8 (q.2 + 1), .u16 q.1.anchor, .u8 (kind q.1.kind), .u32 q.1.joined,
         bit (g.ports.any fun p => p == some q.1.anchor)]) ++
      opt (g.pass.map fun p =>
        [.u16 p.anchor, .u8 (kind p.kind), .u8 p.port, .u32 p.start, .u32 p.cap, .u16 p.refusal, .u32 p.volume,
         .u16 g.flow.published, .u16 (level g.pressure.win), .u16 p.peakPressure, .u16 p.peakFlow, .u8 p.causes.bits] ++
        word (if g.state = .paused then some (p.pauseLimit - p.pauseSamples / 50) else none) ++
        word (p.noFlow.map fun n => n.2 - n.1 / 50) ++ opt (p.reason.map fun x => [.u8 (passEnd x)]) ++ time p.endTime) ++
      [.u8 g.refusal.count, .u8 g.overp.count, .u8 g.waiting] ++ time g.lastRun ++ [.u8 g.cure.length] ++
      g.cure.map .u16 ∧
    (∀ k, k < 16 →
      let p := s.point (k + 1)
      let rise (x : Station) : List WField :=
        signed (x.ctx.bind fun c => c.baselines.getD k none) ++ [.u8 (x.nbr.getD k .rest).count]
      s.pointFields k =
        [.u8 (match p.kind with | .unused => 1 | .loadCell => 2 | .tilt => 3)] ++ word p.linked ++ signed p.baseline ++
        word (if p.kind = .tilt then some p.limit else none) ++
        (match s.scanned (k + 1) with
          | .valid v => [.u8 1, .u8 1, .i16 v]
          | .isOpen => [.u8 2, .u8 0]
          | .isOver => [.u8 3, .u8 0]
          | .unused => [.u8 4, .u8 0]
          | .notScanned => [.u8 5, .u8 0]) ++
        [.u8 (s.wall.tilt.getD k .rest).count, bit (p.kind == .tilt && p.baseline.isSome && !p.fresh)] ++
        rise s.s1 ++ rise s.s2) ∧
    (let next := slotAt s.archive.slots s.archive.nextSlot
     let home := (s.archive.nextSlot - 1) / 128 + 1
     (next.isSome = true → s.archive.oldest = some home) ∧
     (next = none → (∀ b, 1 ≤ b → b ≤ 8 → s.archive.block b = .empty) → s.archive.oldest = none) ∧
     (next = none → ∀ k, k < 8 → s.archive.block ((home + k) % 8 + 1) ≠ .empty →
       (∀ j, j < k → s.archive.block ((home + j) % 8 + 1) = .empty) → s.archive.oldest = some ((home + k) % 8 + 1)) ∧
     archiveFields s =
       (match s.archive.activity with
         | .idle => [.u8 1]
         | .appending anchor number slot => [.u8 2, .u16 anchor, .u32 number, .u16 slot]
         | .erasing _ => [.u8 3]) ++
       [.u32 s.archive.nextNumber, .u16 s.archive.nextSlot] ++
       ([1, 2, 3, 4, 5, 6, 7, 8].flatMap fun b =>
         let here := (s.archive.slots.filter fun x => (x.1 - 1) / 128 + 1 = b).map (·.2)
         let numbers := here.map fun x => match x with | .writing r => r.number | .valid r => r.number | .torn n => n
         [.u8 (match s.archive.block b with
           | .empty => 1 | .filling => 2 | .full => 3 | .exported => 4 | .erasing => 5),
          .u8 (here.countP fun x => match x with | .valid _ => true | _ => false),
          .u8 (here.countP fun x => match x with | .torn _ => true | _ => false)] ++
         opt (numbers.min?.map fun n => [.u32 n]) ++ opt (numbers.max?.map fun n => [.u32 n])) ++
       opt (s.archive.oldest.map fun b => [.u8 b]) ++ [bit next.isSome]) ∧
    limitFields s =
      [.u16 l.rating1, .u16 l.rating2, .u16 l.rateLimit, .u16 l.maxPressure] ++ l.ceilings.map .u16 ++
      [.u16 l.minCure, .u16 l.creepLimit, .u8 l.loPct, .u8 l.hiPct, .u8 l.liftTol, .u32 l.combMask.toNat,
       .u32 l.tripMask.toNat, bit s.site.locked] ∧
    settingFields t =
      [.u16 t.loadTol, .u16 t.rampDemand, .u16 t.releaseDemand, .u8 t.topUpMax, .u16 t.stroke, .u16 t.strokeMargin,
       .u16 t.liftThreshold, .u8 t.overdrive, .u8 t.seatTime, .u16 t.pauseLimit, .u16 t.noFlowTime, .u8 t.leakLimit,
       .u16 t.nbrLimit, .u16 t.jamTension, .u16 t.slackTension, .u16 t.headAllowance, .u16 t.drumMm, .u16 t.quantum,
       .u8 t.nOverload, .u8 t.nRefusal, .u8 t.nOverpressure, .u8 t.nJam, .u8 t.nSlack, .u8 t.nNeighbour, .u8 t.nTilt,
       .u8 t.filterEnc1, .u8 t.filterEnc2, .u8 t.filterDrum, .u8 t.filterFlow, .u8 t.linkWindow] ∧
    (let levelOf (n : Notice) : Nat := rank (s.notices.levels.getD (n.kind.code - 1) .off)
     let waits (n : Notice) : Bool := !n.acked && !(s.link.lost && n.kind == .linkLost)
     let calls (n : Notice) : Bool := !n.acked && (rank s.notices.floor).ble (levelOf n)
     let ranked (l : List Notice) : List Notice := [3, 2, 1, 0].flatMap fun r => l.filter fun n => levelOf n == r
     let shown := ranked (s.notices.entries.filter waits) ++ ranked (s.notices.entries.filter fun n => !waits n)
     noticeSetFields s =
       .u8 shown.length ::
       (shown.flatMap fun n =>
         [.u8 n.kind.code, .u8 n.origin.code] ++ word n.anchor ++ [.u16 n.detail] ++ time n.time ++
         [.u8 n.again, .u8 (if n.kind.isCondition then 2 else 1), bit n.acked, .u8 (levelOf n)]) ++
       s.notices.levels.map (fun l => .u8 (rank l)) ++
       [.u8 (rank s.notices.floor), bit s.notices.overflow,
        one (s.phase == .running && s.notices.entries.any calls)]))

/-- R16: LIST_ANCHORS returns the number of entries in the stage asked for, or of all entries, and for each in
declaration order its id, its stage and whether interrupted is present; a filter above 10 names no stage.
(The layout of the reply, the byte 1 or 0 for whether interrupted is present among it, is the model's choice: log 11.) -/
def Obligations.ListAnchorsListsTheStage : Prop :=
  ∀ (tag filter : Nat) (s : State), s.accepts (.listAnchors tag filter) →
    (10 < filter → Refuses (.listAnchors tag filter) s .outOfRange 1) ∧
    let stage (x : Stage) : Nat :=
      match x with
      | .declared => 1 | .placed => 2 | .grouting => 3 | .grouted => 4 | .stressing => 5
      | .rejected => 6 | .locked => 7 | .lockFault => 8 | .voided => 9 | .closing => 10
    (∀ hits, filter ≤ 10 → hits = s.reg.filter (fun e => filter == 0 || stage e.stage == filter) →
      Serves (.listAnchors tag filter) s (fun u => u)
        (.reply (.u8 hits.length ::
          hits.flatMap fun e => [.u16 e.decl.id, .u8 (stage e.stage), .flag e.interrupted.isSome]))) ∧
    (filter ≤ 10 → s.reg = [] → Serves (.listAnchors tag filter) s (fun u => u) (.reply [.u8 0]))

/-- R26: GET_PLAN answers EMPTY, or HOLDING with the shape, the step count and every step as stored; a slot outside 1
to 4 is refused. It is served while the LINK_LOST state is set, and LOAD_PLAN is not.
(The layout of the reply, EMPTY with shape 0 and count 0 among it, is the model's choice: log 11.) -/
def Obligations.GetPlanReturnsTheSlot : Prop :=
  (∀ (tag slot : Nat) (s : State), s.accepts (.getPlan tag slot) →
    let shape (x : PlanShape) : Nat := match x with | .full => 1 | .relock => 2
    let kind (x : StepKind) : Nat :=
      match x with | .datum => 1 | .load => 2 | .creep => 3 | .unload => 4 | .lockoff => 5 | .liftoff => 6
    ((slot = 0 ∨ 4 < slot) → Refuses (.getPlan tag slot) s .outOfRange 1) ∧
    (1 ≤ slot → slot ≤ 4 → s.plan slot = none →
      Serves (.getPlan tag slot) s (fun u => u) (.reply [.u8 1, .u8 0, .u8 0])) ∧
    (∀ p, 1 ≤ slot → slot ≤ 4 → s.plan slot = some p →
      Serves (.getPlan tag slot) s (fun u => u)
        (.reply ([.u8 2, .u8 (shape p.shape), .u8 p.steps.length] ++
          p.steps.flatMap fun t => [.u8 (kind t.kind), .u16 t.target, .u16 t.hold, .u8 t.ext])))) ∧
  (∀ (tag slot : Nat) (steps : List RawStep) (s : State), s.phase = .running → s.link.reply = none → s.link.queue = [] →
    s.link.lost = true → s.accepts (.getPlan tag slot) ∧ Refuses (.loadPlan tag slot steps) s .linkLost)

/-- R201 (IDENTIFY), R54 (GET_STATION), R75 (GET_CALIBRATION), R15 (GET_ANCHOR), R169 (READ_ARCHIVE, READ_READINGS):
the fixed identity of the part with the recorded reset cause and the enables; the snapshot of a stressing station; the
stored record of a selector; what each part of an anchor or a record returns; and the checks in their order. A record
is looked for in the slot its number was assigned to (R163, R164): the number before the next one took the slot before
the next one, and so back round the ring of 1024.
The fields of a running test, of a declaration, of the progress, of the installation, of a result, of a page of
readings and of the summary of a record, in their order.
(The layout of the replies: log 11; the hold elapsed and the top-ups outside a hold: log 32; the phase and the current
target where no ramp or hold runs: log 39.) -/
def Obligations.UnpagedQueriesReturnTheirFields : Prop :=
  (∀ (tag n : Nat) (s : State),
      (s.accepts (.identify tag) →
        Serves (.identify tag) s (fun u => u)
          (.reply [.u16 0x2E47, .u16 340, .u8 3,
            .u8 (match s.resets.recorded with | .power => 1 | .pin => 2 | .command => 3), .flag s.site.enables.s1,
            .flag s.site.enables.s2, .flag s.site.enables.w, .flag s.site.enables.g, .u8 48, .u8 4, .u8 6, .u8 8, .u8 16,
            .u8 8, .u16 1024, .u8 8, .u8 32, .u8 2])) ∧
      (s.accepts (.getStation tag n) →
        (n ≠ 1 → n ≠ 2 → Refuses (.getStation tag n) s .outOfRange 1) ∧
        ∀ st : Stn, n = (match st with | .s1 => 1 | .s2 => 2) →
          Serves (.getStation tag n) s (fun u => u)
            (.reply ([.u8 (match (s.stn st).state with
                | .idle => 1 | .ramping => 2 | .holding => 3 | .seating => 4 | .releasing => 5 | .seeking => 6 | .held => 7
                | .fault => 8 | .unloading => 9 | .selftest => 10), .flag (s.enabled st), .flag (!(s.stn st).passed)] ++
              WField.opt testFields (s.stn st).ctx))) ∧
      (s.accepts (.getCalibration tag n) →
        ((n = 0 ∨ 22 < n) → Refuses (.getCalibration tag n) s .outOfRange 1) ∧
        (n = 21 → Serves (.getCalibration tag n) s (fun u => u) (.reply [.flag s.fe.invert1])) ∧
        (n = 22 → Serves (.getCalibration tag n) s (fun u => u) (.reply [.flag s.fe.invert2])) ∧
        ∀ c, 1 ≤ n → n ≤ 20 → s.fe.cals[n - 1]? = some c →
          Serves (.getCalibration tag n) s (fun u => u) (.reply [.i16 c.zero, .u16 c.span, .flag c.signed]))) ∧
  (∀ (tag id part first : Nat) (s : State), s.accepts (.getAnchor tag id part first) →
    let i : Instr := .getAnchor tag id part first
    let held (r : Option TestResult) : List Reading := match r with | none => [] | some t => t.readings
    (s.entry id = none → Refuses i s .noSuchAnchor) ∧
    (∀ e, s.entry id = some e →
      ((part = 0 ∨ 5 < part) → Refuses i s .outOfRange 2) ∧
      (part = 5 → first = 0 → Refuses i s .outOfRange 3) ∧
      (part = 1 → Serves i s (fun u => u) (.reply (declFields e.decl))) ∧
      (∀ k, part = 2 → s.reg[k]? = some e → (∀ j d, j < k → s.reg[j]? = some d → d.decl.id ≠ id) →
        Serves i s (fun u => u) (.reply (progressFields e (k + 1)))) ∧
      (part = 3 → Serves i s (fun u => u) (.reply (installationFields e.winch e.passes))) ∧
      (part = 4 → Serves i s (fun u => u)
        (.reply (WField.opt resultFields e.result ++ [.u8 (held e.result).length]))) ∧
      (part = 5 → 1 ≤ first → Serves i s (fun u => u) (.reply (readingPage (held e.result) first))))) ∧
  (∀ (tag number n : Nat) (s : State),
    let held (r : Option TestResult) : List Reading := match r with | none => [] | some t => t.readings
    let a : Instr := .readArchive tag number n
    let b : Instr := .readReadings tag number n
    (s.accepts a → (n = 0 ∨ 4 < n) → Refuses a s .outOfRange 2) ∧ (s.accepts b → n = 0 → Refuses b s .outOfRange 2) ∧
    let missing : Prop :=
      (s.accepts a → 1 ≤ n → n ≤ 4 → Refuses a s .noSuchRecord) ∧ (s.accepts b → 1 ≤ n → Refuses b s .noSuchRecord)
    let next := s.archive.nextNumber
    ((number = 0 ∨ next ≤ number) → missing) ∧
    (∀ slot, 1 ≤ number → number < next → 1 ≤ slot → slot ≤ 1024 →
      (slot + (next - number)) % 1024 = s.archive.nextSlot % 1024 →
      let block := s.archive.block ((slot - 1) / 128 + 1)
      (block = .erasing →
        (s.accepts a → 1 ≤ n → n ≤ 4 → Refuses a s .busy) ∧ (s.accepts b → 1 ≤ n → Refuses b s .busy)) ∧
      (block ≠ .erasing →
        ((∀ r, slotAt s.archive.slots slot = some (.valid r) → r.number ≠ number) → missing) ∧
        (∀ r, slotAt s.archive.slots slot = some (.valid r) → r.number = number →
          (s.accepts a → n = 1 → Serves a s (fun u => u) (.reply (summaryFields r))) ∧
          (s.accepts a → n = 2 → Serves a s (fun u => u) (.reply (declFields r.decl))) ∧
          (s.accepts a → n = 3 → Serves a s (fun u => u) (.reply (installationFields r.winch r.passes))) ∧
          (s.accepts a → n = 4 → Serves a s (fun u => u)
            (.reply (WField.opt resultFields r.result ++ [.u8 (held r.result).length]))) ∧
          (s.accepts b → 1 ≤ n → Serves b s (fun u => u) (.reply (readingPage (held r.result) n))))))) ∧
  (let bit (b : Bool) : WField := .u8 (if b then 1 else 0)
   let opt (o : Option (List WField)) : List WField := match o with | none => [.u8 0] | some l => .u8 1 :: l
   let items (l : List (List WField)) : List WField := .u8 l.length :: l.flatten
   let causes (c : CauseSet) : Nat :=
     (if c.host then 1 else 0) + (if c.trip then 2 else 0) + (if c.emergency then 4 else 0) +
       (if c.linkLost then 8 else 0) + (if c.neighbour then 16 else 0)
   let reasons (l : List Reason) : Nat :=
     (if .creepExceeded ∈ l then 1 else 0) + (if .elasticNonpositive ∈ l then 2 else 0) +
       (if .lappLow ∈ l then 4 else 0) + (if .lappHigh ∈ l then 8 else 0) + (if .lappClamped ∈ l then 16 else 0) +
       (if .liftoffLow ∈ l then 32 else 0) +
       (if .liftoffHigh ∈ l then 64 else 0)
   let stage (x : Stage) : Nat :=
     match x with
     | .declared => 1 | .placed => 2 | .grouting => 3 | .grouted => 4 | .stressing => 5
     | .rejected => 6 | .locked => 7 | .lockFault => 8 | .voided => 9 | .closing => 10
   let kind (k : PassKind) : Nat := match k with | .primary => 1 | .post => 2
   let shape (p : PlanShape) : Nat := match p with | .full => 1 | .relock => 2
   let station (st : Stn) : Nat := match st with | .s1 => 1 | .s2 => 2
   let phase (p : TestPhase) : Nat := match p with | .ramp => 1 | .hold => 2 | .seat => 3 | .release => 4 | .seek => 5
   let ended (k : EndKind) : Nat := match k with | .passed => 1 | .failed => 2 | .aborted => 3
   let abort (a : AbortCause) : Nat :=
     match a with | .host => 1 | .holdLoss => 2 | .rampTimeout => 3 | .strokeEnd => 4 | .overload => 5 | .reset => 6
   let cut (x : Interrupted) : Nat := match x with | .test => 1 | .grout => 2 | .close => 3
   let runEnd (r : RunEnd) : Nat :=
     match r with | .reached => 1 | .jammed => 2 | .slack => 3 | .stopped => 4 | .halted => 5
   let passEnd (r : PassEnd) : Nat :=
     match r with
     | .volumeReached => 1 | .noFlow => 2 | .refusal => 3 | .stopped => 4 | .fault => 5 | .pauseExpired => 6
     | .interrupted => 7
   let time (t : Option Nat) : List WField := opt (t.map fun t => [.u32 t])
   let word (v : Option Nat) : List WField := opt (v.map fun v => [.u16 v])
   (∀ c : TestCtx,
     testFields c =
       [.u16 c.anchor, .u8 c.slot, .u8 (shape c.shape), .u8 c.step, bit c.begun, .u8 (phase c.phase), .u16 c.target,
        .u16 (c.holdSamples / 50), .u8 c.topUps, .u8 (causes c.causes)] ++
       word c.stagedPlo ++ opt (c.stagedExt.map fun b => [bit b]) ++ [bit c.seatDone] ++
       opt (c.decision.map fun d =>
         .u8 (match d with | .passed => 1 | .failed _ => 2 | .aborted _ => 3) ::
           opt (match d with | .aborted a => some [.u8 (abort a)] | _ => none) ++
           [.u8 (reasons (match d with | .failed l => l | _ => []))]) ++
       [.u8 c.readings.length]) ∧
   (∀ d : Decl,
     declFields d =
       [.u16 d.id, .u8 d.row, .u16 d.lFree, .u16 d.lBond, .u16 d.area, .u32 d.modulus, .u16 d.pw, .u16 d.pp, .u16 d.pa,
        .u16 d.plo, .u32 d.volCap, .u16 d.refusal, .u8 d.passes] ++
       opt (d.post.map fun p => [.u8 p.interval]) ++ opt (d.post.map fun p => [.u32 p.volCap]) ++
       word (d.post.map (·.refusal)) ++ [.u16 d.cure] ++ items (d.neighbours.map fun i => [.u16 i])) ∧
   (∀ (e : Entry) (position : Nat),
     progressFields e position =
       [.u8 (stage e.stage)] ++ opt (e.prior.map fun p => [.u8 (stage p)]) ++
       opt (e.test.map fun t => [.u8 (station t.stn), .u8 t.slot, .u8 (shape t.shape), .u32 t.start]) ++
       opt (e.pass.map fun p => [.u8 (kind p.kind), .u8 p.port, .u32 p.start]) ++ [.u8 e.attempts, bit e.counted] ++
       time e.primaryEnd ++ [.u8 e.postDone, bit e.postDue] ++ opt (e.interrupted.map fun x => [.u8 (cut x)]) ++
       [.u8 position]) ∧
   (∀ (w : Option WinchResult) (passes : List PassEntry),
     installationFields w passes =
       opt (w.map fun w => [.u8 (runEnd w.reason), .i32 w.paid, .u16 w.peak]) ++
       items (passes.map fun p =>
         [.u8 (kind p.kind), .u8 p.port, .u32 p.start] ++ time p.endTime ++ opt (p.volume.map fun v => [.u32 v]) ++
           word p.peakPressure ++ word p.peakFlow ++ [.u8 (passEnd p.reason)])) ∧
   (∀ r : TestResult,
     resultFields r =
       [.u8 (station r.stn), .u8 r.slot, .u8 (shape r.shape), .u32 r.start] ++ time r.endTime ++
       [.u8 (ended r.endKind)] ++
       opt (r.abort.map fun a => [.u8 (abort a)]) ++ [bit r.seatDone] ++ opt (r.ksPrimary.map fun k => [.i32 k]) ++
       opt (r.ksExtended.map fun k => [.i32 k]) ++ [bit r.extendedUsed] ++
       opt (r.figures.map fun f => [.u16 f.lApp, .u16 f.lower, .u16 f.upper]) ++ word r.lockTarget ++ word r.liftLoad ++
       opt (r.verdict.map fun v => [.u8 (ended v)]) ++ [.u8 (reasons r.reasons)]) ∧
   (∀ (l : List Reading) (first : Nat),
     readingPage l first =
       items (((l.drop (first - 1)).take 8).map fun r =>
         [.u8 r.step, .u8 (if r.kind = .step then 1 else 2), .u16 r.due, .u16 r.load, .i16 r.disp, .u32 r.time]) ++
       [.u8 l.length]) ∧
   (∀ r : Record,
     let held := match r.result with | none => [] | some t => t.readings
     let closing (x : Stage) : Nat :=
       if x = .locked then 1 else if x = .rejected then 2 else if x = .lockFault then 3 else if x = .voided then 4 else 0
     summaryFields r =
       [.u32 r.number, .u16 r.slot, .u32 r.closeTime, .u8 (closing r.closingStage)] ++
       opt (r.interruptedAtClose.map fun x => [.u8 (cut x)]) ++
       [.u16 r.decl.id, .u8 r.decl.row, .u8 r.attempts, bit r.counted] ++
       opt (r.result.map fun t =>
         .u8 (ended t.endKind) :: opt (t.verdict.map fun v => [.u8 (ended v)]) ++ [.u8 (reasons t.reasons)]) ++
       [.u8 r.passes.length, .u8 held.length]))

/-! ## The Anchor Register and the Plan Table -/

/-- R3, R4, R5, R10, R11: DECLARE. The checks in their order, each with its answer; an accepted DECLARE appends the
entry at the end of the declaration order, with nothing done yet, and answers its position. -/
def Obligations.DeclareChecksAndAppends : Prop :=
  ∀ (tag : Nat) (d : DeclareBody) (s : State), s.accepts (.declare tag d) →
    let l := s.site.limits
    let ids := d.nbrIds.take d.nbrCount
    let post := d.passes ≠ 0
    let ranges : List Bool :=
      [decide (1 ≤ d.id ∧ d.id ≤ 65000), decide (1 ≤ d.row ∧ d.row ≤ 8), decide (300 ≤ d.lFree ∧ d.lFree ≤ 4000),
       decide (300 ≤ d.lBond ∧ d.lBond ≤ 2000), decide (100 ≤ d.area ∧ d.area ≤ 5000),
       decide (150000 ≤ d.modulus ∧ d.modulus ≤ 210000), decide (100 ≤ d.pw ∧ d.pw ≤ 20000),
       decide (100 ≤ d.pp ∧ d.pp ≤ 30000), decide (50 ≤ d.pa ∧ d.pa ≤ 30000), decide (1 ≤ d.plo ∧ d.plo ≤ 30000),
       decide (1000 ≤ d.volCap ∧ d.volCap ≤ 5000000), decide (100 ≤ d.refusal ∧ d.refusal ≤ l.maxPressure),
       decide (d.passes ≤ 3), decide (post → 4 ≤ d.postInterval ∧ d.postInterval ≤ 48),
       decide (post → 1000 ≤ d.postVolCap ∧ d.postVolCap ≤ 5000000),
       decide (post → 100 ≤ d.postRefusal ∧ d.postRefusal ≤ l.maxPressure), decide (l.minCure ≤ d.cure ∧ d.cure ≤ 720),
       decide (d.nbrCount ≤ 4 ∧ (∀ i ∈ ids, 1 ≤ i ∧ i ≤ 65000 ∧ i ≠ d.id) ∧ ids.Nodup)]
    let tol := (2 * (d.plo * l.liftTol) + 1000) / 2000
    let target := (2 * (d.plo * (1000 + s.site.settings.overdrive)) + 1000) / 2000
    let relations : List (Bool × Nat) :=
      [(decide (d.pw ≤ d.pp), 8),
       (decide (s.site.enables.s1 = true ∧ d.pp ≤ l.rating1 ∨ s.site.enables.s2 = true ∧ d.pp ≤ l.rating2), 8),
       (decide (d.pa < d.pp), 9), (decide (d.pa ≤ d.pp / 5), 9), (decide (d.pa < d.plo), 10), (decide (target ≤ d.pp), 10),
       (decide (d.plo + tol + s.site.settings.loadTol ≤ d.pp), 10)]
    let decl : Decl :=
      { id := d.id, row := d.row, lFree := d.lFree, lBond := d.lBond, area := d.area, modulus := d.modulus, pw := d.pw
        pp := d.pp, pa := d.pa, plo := d.plo, volCap := d.volCap, refusal := d.refusal, passes := d.passes
        post := if d.passes = 0 then none else some ⟨d.postInterval, d.postVolCap, d.postRefusal⟩
        cure := d.cure, neighbours := ids }
    let entry : Entry :=
      { decl := decl, stage := .declared, prior := none, test := none, pass := none, attempts := 0, counted := false
        primaryEnd := none, postDone := 0, postDue := false, interrupted := none, winch := none, passes := [], result := none }
    if 48 ≤ s.reg.length then Refuses (.declare tag d) s .full
    else if (s.entry d.id).isSome then Refuses (.declare tag d) s .duplicate
    else
      match ranges.findIdx? (fun ok => !ok) with
      | some n => Refuses (.declare tag d) s .outOfRange (n + 1)
      | none =>
        match relations.find? (fun r => !r.1) with
        | some r => Refuses (.declare tag d) s .outOfRange r.2
        | none =>
          Serves (.declare tag d) s (fun u => { u with reg := u.reg ++ [entry] }) (.plain .ok (s.reg.length + 1))

/-- R12, R13: AMEND. The checks in their order with their answers: the index check, the anchor and its operations, its
stage, the fields its stage locks, field 10 once counted, the ranges of the named fields, the post fields that are
missing, and the load relations. An accepted AMEND changes the declaration of its anchor and nothing else: each field
that is named takes its new value, the neighbour list its new list, and a field that is not named keeps its own;
fields 14 to 16 are absent where field 13 becomes 0, and are those named where it rises from 0. What each check looks
for is stated beside it.
(An AMEND that names no field is answered OK without the load relations: log 41.) -/
def Obligations.AmendReplacesTheNamedFields : Prop :=
  (∀ (tag id : Nat) (items : List AmendItem) (s : State), s.accepts (.amend tag id items) →
    let i : Instr := .amend tag id items
    (∀ k, amendIndexFailure [] items = some k → Refuses i s .outOfRange k) ∧
    (amendIndexFailure [] items = none →
      (s.entry id = none → Refuses i s .noSuchAnchor) ∧
      (∀ e, s.entry id = some e →
        let busy := e.stage = .stressing ∨ e.stage = .grouting ∨ e.stage = .closing ∨
          (s.winch.state ≠ .idle ∧ ∃ r, s.winch.run = some r ∧ r.anchor = id) ∨
          (∃ q ∈ s.grout.queue, q.anchor = id) ∨ ∃ p, s.grout.pass = some p ∧ p.anchor = id
        (busy → Refuses i s .busy) ∧
        (¬busy →
          ((e.stage = .locked ∨ e.stage = .lockFault ∨ e.stage = .voided) → Refuses i s .wrongStage) ∧
          ((e.stage = .declared ∨ e.stage = .placed ∨ e.stage = .grouted ∨ e.stage = .rejected) →
            ((e.stage = .grouted ∨ e.stage = .rejected) →
              ∀ k, lockedFieldNamed items = some k → Refuses i s .wrongStage k) ∧
            ((e.stage = .declared ∨ e.stage = .placed ∨ lockedFieldNamed items = none) →
              (names items 10 = true → e.counted = true → Refuses i s .wrongStage 10) ∧
              ((names items 10 = false ∨ e.counted = false) →
                (∀ k, amendRangeFailure s.site.limits e.decl items = some k → Refuses i s .outOfRange k) ∧
                (amendRangeFailure s.site.limits e.decl items = none →
                  (∀ k, postFieldMissing e.decl items = some k → Refuses i s .outOfRange k) ∧
                  (postFieldMissing e.decl items = none → items = [] → Refuses i s .ok) ∧
                  (postFieldMissing e.decl items = none → items ≠ [] →
                    (∀ k, relationFailure s.site (amended e.decl items) = some k → Refuses i s .outOfRange k) ∧
                    (relationFailure s.site (amended e.decl items) = none →
                      Serves i s
                        (fun u =>
                          { u with
                            reg := u.reg.map fun x =>
                              if x.decl.id == id then { x with decl := amended x.decl items } else x })
                        (.plain .ok))))))))))) ∧
  (∀ (items : List AmendItem), amendIndexFailure [] items = none →
    (∀ k v, AmendItem.value k v ∈ items → k ≠ 18 → newValue items k = some v) ∧
    (∀ k, (∀ v, AmendItem.value k v ∉ items) → newValue items k = none) ∧
    (∀ c ids, AmendItem.neighbours c ids ∈ items → newNeighbours items = some (c, ids)) ∧
    ((∀ c ids, AmendItem.neighbours c ids ∉ items) → newNeighbours items = none)) ∧
  (∀ (d : Decl) (items : List AmendItem),
    let a := amended d items
    let now (k old : Nat) : Nat := (newValue items k).getD old
    a.id = d.id ∧ a.row = now 2 d.row ∧ a.lFree = now 3 d.lFree ∧ a.lBond = now 4 d.lBond ∧ a.area = now 5 d.area ∧
    a.modulus = now 6 d.modulus ∧ a.pw = now 7 d.pw ∧ a.pp = now 8 d.pp ∧ a.pa = now 9 d.pa ∧ a.plo = now 10 d.plo ∧
    a.volCap = now 11 d.volCap ∧ a.refusal = now 12 d.refusal ∧ a.passes = now 13 d.passes ∧ a.cure = now 17 d.cure ∧
    (∀ c ids, newNeighbours items = some (c, ids) → a.neighbours = ids.take c) ∧
    (newNeighbours items = none → a.neighbours = d.neighbours) ∧
    (a.passes = 0 → a.post = none) ∧
    (∀ p, a.passes ≠ 0 → d.post = some p →
      a.post = some ⟨now 14 p.interval, now 15 p.volCap, now 16 p.refusal⟩) ∧
    (∀ i v r, a.passes ≠ 0 → d.post = none → newValue items 14 = some i → newValue items 15 = some v →
      newValue items 16 = some r → a.post = some ⟨i, v, r⟩)) ∧
  (let index (x : AmendItem) : Nat := match x with | .value k _ => k | .neighbours _ _ => 18
   let good (l : List AmendItem) : Prop := (∀ x ∈ l, 2 ≤ index x ∧ index x ≤ 18) ∧ (l.map index).Nodup
   let named (l : List AmendItem) (k : Nat) : Prop := k ∈ l.map index
   (∀ l, amendIndexFailure [] l = none ↔ good l) ∧
   (∀ front x back, good front → ¬good (front ++ [x]) → amendIndexFailure [] (front ++ x :: back) = some (index x)) ∧
   (∀ l k, names l k = true ↔ named l k) ∧
   (∀ l k,
     let locked (k : Nat) : Prop := named l k ∧ k ∉ [7, 8, 9, 10, 17, 18]
     good l → (lockedFieldNamed l = some k ↔ locked k ∧ ∀ j < k, ¬locked j)) ∧
   (∀ (limits : Limits) (d : Decl) l k,
     let bounds : List (Nat × Nat) :=
       [(1, 8), (300, 4000), (300, 2000), (100, 5000), (150000, 210000), (100, 20000), (100, 30000), (50, 30000),
        (1, 30000), (1000, 5000000), (100, limits.maxPressure), (0, 3), (4, 48), (1000, 5000000),
        (100, limits.maxPressure), (limits.minCure, 720)]
     let bad (k : Nat) : Prop :=
       ¬((newValue l 13).getD d.passes = 0 ∧ 14 ≤ k ∧ k ≤ 16) ∧
       ((∃ v b, newValue l k = some v ∧ bounds[k - 2]? = some b ∧ (v < b.1 ∨ b.2 < v)) ∨
         k = 18 ∧ ∃ c ids, newNeighbours l = some (c, ids) ∧
           (4 < c ∨ (∃ n ∈ ids.take c, n < 1 ∨ 65000 < n ∨ n = d.id) ∨ ¬(ids.take c).Nodup))
     good l → (amendRangeFailure limits d l = some k ↔ bad k ∧ ∀ j < k, ¬bad j)) ∧
   (∀ (d : Decl) l k,
     let absent (k : Nat) : Prop := 14 ≤ k ∧ k ≤ 16 ∧ ¬named l k
     postFieldMissing d l = some k ↔
       d.passes = 0 ∧ 0 < (newValue l 13).getD d.passes ∧ absent k ∧ ∀ j < k, ¬absent j)) ∧
  (∀ (site : Site) (d : Decl),
    let l := site.limits
    let tol := (2 * (d.plo * l.liftTol) + 1000) / 2000
    let target := (2 * (d.plo * (1000 + site.settings.overdrive)) + 1000) / 2000
    let relations : List (Bool × Nat) :=
      [(decide (d.pw ≤ d.pp), 8),
       (decide (site.enables.s1 = true ∧ d.pp ≤ l.rating1 ∨ site.enables.s2 = true ∧ d.pp ≤ l.rating2), 8),
       (decide (d.pa < d.pp), 9), (decide (d.pa ≤ d.pp / 5), 9), (decide (d.pa < d.plo), 10), (decide (target ≤ d.pp), 10),
       (decide (d.plo + tol + site.settings.loadTol ≤ d.pp), 10)]
    relationFailure site d = (relations.find? fun r => !r.1).map (·.2))

/-- R14: VOID. The checks in their order; on acceptance the stage becomes VOIDED, the post-grout due flag is cleared,
and the anchor's queued grout request leaves the queue. -/
def Obligations.VoidWithdrawsTheAnchor : Prop :=
  ∀ (tag id : Nat) (s : State), s.accepts (.void tag id) →
    (s.entry id = none → Refuses (.void tag id) s .noSuchAnchor) ∧
    (∀ e, s.entry id = some e →
      let flying := e.stage = .stressing ∨ e.stage = .grouting ∨ e.stage = .closing ∨
        (s.winch.state ≠ .idle ∧ s.winch.run.any (fun r => r.anchor == e.decl.id) = true) ∨
        s.grout.pass.any (fun p => p.anchor == e.decl.id) = true
      let voidable := e.stage = .declared ∨ e.stage = .placed ∨ e.stage = .grouted ∨ e.stage = .rejected
      (flying → Refuses (.void tag id) s .busy) ∧
      (¬flying → ¬voidable → Refuses (.void tag id) s .wrongStage) ∧
      (¬flying → voidable →
        Serves (.void tag id) s
          (fun u =>
            { u with
              reg := u.reg.map fun e => if e.decl.id == id then { e with stage := .voided, postDue := false } else e
              grout := { u.grout with queue := u.grout.queue.eraseP fun q => q.anchor == id } })
          (.plain .ok)))

/-- R24, R25: LOAD_PLAN. The checks in their order; a plan that fits a shape replaces the slot, an empty list empties
it, and no other slot changes. A step has a known kind and its used fields in their ranges, and is stored as sent. A full
plan is exactly DATUM, LOADs, one CREEP, LOADs with falling targets, UNLOAD, LOCKOFF, LIFTOFF; a relock plan is LOCKOFF
and LIFTOFF. The index named of a relock plan is that of the missing, wrong or third step; that of a full plan is the
first step after which no full plan can follow, or the step count plus 1 where the list ends before LIFTOFF. -/
def Obligations.LoadPlanStoresTheShapedPlan : Prop :=
  (∀ (tag slot : Nat) (steps : List RawStep) (s : State), s.accepts (.loadPlan tag slot steps) →
    let i : Instr := .loadPlan tag slot steps
    ((slot = 0 ∨ 4 < slot) → Refuses i s .outOfRange 1) ∧
    (1 ≤ slot → slot ≤ 4 →
      ((∃ st c, (s.stn st).ctx = some c ∧ c.slot = slot) → Refuses i s .busy) ∧
      ((∀ st c, (s.stn st).ctx = some c → c.slot ≠ slot) →
        (16 < steps.length → Refuses i s .planInvalid 17) ∧
        (steps = [] → Serves i s (fun u => { u with plans := u.plans.set (slot - 1) none }) (.plain .ok)) ∧
        (steps ≠ [] → steps.length ≤ 16 →
          (∀ k, planStepsOf 1 steps = .error k → Refuses i s .planInvalid k) ∧
          (∀ l, planStepsOf 1 steps = .ok l →
            (∀ k, shapeOf l = .error k → Refuses i s .planInvalid k) ∧
            (∀ shape, shapeOf l = .ok shape →
              Serves i s (fun u => { u with plans := u.plans.set (slot - 1) (some ⟨shape, l⟩) })
                (.plain .ok (match shape with | .full => 1 | .relock => 2)))))))) ∧
  (∀ l : List PlanStep, shapeOf l = .ok .full ↔
    ∃ d before c after u k f, l = d :: before ++ c :: after ++ [u, k, f] ∧ d.kind = .datum ∧
      (∀ t ∈ before, t.kind = .load) ∧ c.kind = .creep ∧ (∀ t ∈ after, t.kind = .load) ∧
      (after.map (·.target)).Pairwise (· ≥ ·) ∧ u.kind = .unload ∧ k.kind = .lockoff ∧ f.kind = .liftoff) ∧
  (∀ l : List PlanStep, shapeOf l = .ok .relock ↔ ∃ k f, l = [k, f] ∧ k.kind = .lockoff ∧ f.kind = .liftoff) ∧
  (∀ t rest, t.kind = .lockoff →
    (rest = [] → shapeOf (t :: rest) = .error 2) ∧
    (∀ u more, rest = u :: more →
      (u.kind ≠ .liftoff → shapeOf (t :: rest) = .error 2) ∧
      (u.kind = .liftoff → more ≠ [] → shapeOf (t :: rest) = .error 3))) ∧
  (∀ t rest k, t.kind ≠ .lockoff →
    let l := t :: rest
    let begins (part : List PlanStep) : Prop := ∃ more, shapeOf (part ++ more) = .ok .full
    (shapeOf l = .error k ↔
      1 ≤ k ∧ begins (l.take (k - 1)) ∧
        ((k ≤ l.length ∧ ¬begins (l.take k)) ∨ (k = l.length + 1 ∧ shapeOf l ≠ .ok .full)))) ∧
  (∀ r : RawStep,
    let fits : Prop :=
      (r.kind = 1 ∧ r.hold ≤ 3600) ∨ (r.kind = 2 ∧ 1 ≤ r.target ∧ r.target ≤ 1000 ∧ r.hold ≤ 3600) ∨
        (r.kind = 3 ∧ r.ext ≤ 1) ∨ (r.kind = 4 ∧ r.hold ≤ 3600) ∨ r.kind = 5 ∨ r.kind = 6
    (¬fits → planStepOf r = none) ∧
    (fits → ∃ t, planStepOf r = some t ∧
      r.kind = (match t.kind with
        | .datum => 1 | .load => 2 | .creep => 3 | .unload => 4 | .lockoff => 5 | .liftoff => 6) ∧
      t.target = r.target ∧ t.hold = r.hold ∧ t.ext = r.ext)) ∧
  (∀ (k : Nat) (r : RawStep) (rest : List RawStep), planStepsOf k (r :: rest) =
    match planStepOf r with
    | none => .error k
    | some t => (planStepsOf (k + 1) rest).map (t :: ·))

/-! ## The stressing stations -/

/-- R27, R28, R29, R37, R156, R159, R160: START_TEST. The checks in their order: those of the station, of the anchor and
its plan, and checks 8 to 13, with what it is to be cured, to have a busy neighbour, and to have room in the row; an
accepted test moves the anchor to STRESSING, reserves its proof load in its row when the plan is full, builds the
context from the entry, the plan and the settings in force, and begins step 1 with a ramp to the datum load or to the
lock-off target. A test baseline is captured from each LOAD_CELL point linked to a listed neighbour that is VALID in the
published scan; at a rebase one already held stays for a point that is not. Each captured value is the limit or setting
of its name.
(A point still marked UNUSED there: log 35; extended in force is clear until CREEP begins: log 36.) -/
def Obligations.StartTestBuildsTheTest : Prop :=
  (∀ (tag a slot n : Nat) (s : State), s.accepts (.startTest tag n a slot) →
    let i : Instr := .startTest tag n a slot
    let cured (e : Entry) : Prop :=
      e.postDone = e.decl.passes ∧ (∀ q ∈ s.grout.queue, q.anchor ≠ e.decl.id) ∧
        (∀ q, s.grout.pass = some q → q.anchor ≠ e.decl.id) ∧
        ∃ ended, e.primaryEnd = some ended ∧ ended + e.decl.cure * 3600 ≤ s.site.clock
    let near (st : Stn) (e : Entry) : Prop :=
      ∃ c, (s.stn st.other).ctx = some c ∧
        (c.anchor ∈ e.decl.neighbours ∨ ∃ o, s.entry c.anchor = some o ∧ e.decl.id ∈ o.decl.neighbours)
    let room (e : Entry) : Prop :=
      let row := s.row e.decl.row
      let ceiling := s.site.limits.ceilings.getD (e.decl.row - 1) 0
      ceiling ≠ 0 ∧ row.locked + row.reserved + e.decl.pp ≤ ceiling
    let rating (st : Stn) : Nat := match st with | .s1 => s.site.limits.rating1 | .s2 => s.site.limits.rating2
    let starts (st : Stn) (e : Entry) (p : Plan) : Prop :=
      ∃ t c, exec i s = .next t ∧ t.link.reply.map (fun r => (r.status.code, r.status.detail, r.fields)) =
          some (.accepted, 0, []) ∧
        t.reg = s.reg.map (fun x => if x.decl.id == e.decl.id then
            { x with attempts := x.attempts + 1, prior := some x.stage
                     test := some ⟨st, slot, p.shape, s.site.clock⟩, stage := .stressing, postDue := false
                     interrupted := none }
          else x) ∧
        t.rows = (if p.shape = .full then
            s.rows.set (e.decl.row - 1)
              { s.row e.decl.row with reserved := (s.row e.decl.row).reserved + e.decl.pp }
          else s.rows) ∧
        (t.stn st).ctx = some c ∧ (t.stn st).state = .ramping ∧ (t.stn st).ovl.count = 0 ∧
        (t.stn st).pump.cmd = 0 ∧ (t.stn st).relCmd = false ∧
        c.anchor = e.decl.id ∧ c.row = e.decl.row ∧ c.pp = e.decl.pp ∧ c.pa = e.decl.pa ∧
        c.plo = e.decl.plo ∧ c.steps = p.steps ∧ c.shape = p.shape ∧ c.slot = slot ∧
        c.cap = Captured.of s.site ∧ c.step = 1 ∧ c.begun = true ∧ c.phase = .ramp ∧
        c.target = (if p.shape = .full then e.decl.pa
          else lockTargetOf e.decl.plo s.site.settings.overdrive) ∧
        c.readings = [] ∧ c.extInForce = false ∧ c.seatDone = false ∧ c.causes = .none ∧ c.decision = none ∧
        c.baselines = s.baselinesOf e.decl.neighbours false [] ∧
        t.stn st.other = s.stn st.other ∧ (t.stn st).load = (s.stn st).load ∧
        (t.stn st).enc = (s.stn st).enc ∧ (t.stn st).passed = true ∧ t.winch = s.winch ∧
        t.grout = s.grout ∧ t.fe = s.fe ∧ t.faults = s.faults ∧ t.wall = s.wall ∧ t.archive = s.archive ∧
        t.notices = s.notices ∧ t.site = s.site ∧ t.plans = s.plans ∧ t.phase = s.phase ∧
        t.resets = s.resets ∧ t.estopHigh = s.estopHigh ∧ t.wallTripHigh = s.wallTripHigh
    (n ≠ 1 → n ≠ 2 → Refuses i s .outOfRange 1) ∧
    (∀ st : Stn, n = st.code → (slot = 0 ∨ 4 < slot) → Refuses i s .outOfRange 3) ∧
    (∀ st : Stn, n = st.code → 1 ≤ slot → slot ≤ 4 →
      (s.enabled st = false → Refuses i s .disabled) ∧
      (s.enabled st = true → (s.stn st).state ≠ .idle → Refuses i s .busy) ∧
      (s.enabled st = true → (s.stn st).state = .idle → s.faults.emergency.set = true → Refuses i s .emergency) ∧
      (s.enabled st = true → (s.stn st).state = .idle → s.faults.emergency.set = false →
        ((s.faults.trip = true ∨ s.combined st.code = true) → Refuses i s .faulted) ∧
        (s.faults.trip = false → s.combined st.code = false →
          ((s.stn st).passed = false → Refuses i s .selftestDue) ∧
          ((s.stn st).passed = true →
            (s.entry a = none → Refuses i s .noSuchAnchor) ∧
            (∀ e, s.entry a = some e →
              (e.stage ≠ .grouted → e.stage ≠ .rejected → e.stage ≠ .lockFault → Refuses i s .wrongStage) ∧
              ((e.stage = .grouted ∨ e.stage = .rejected ∨ e.stage = .lockFault) →
                (∀ p, s.plan slot = some p → (p.shape = .full ↔ e.stage = .lockFault) → Refuses i s .planInvalid) ∧
                (s.plan slot = none → Refuses i s .planInvalid) ∧
                (∀ p, s.plan slot = some p → (p.shape = .relock ↔ e.stage = .lockFault) →
                  (3 ≤ e.attempts → Refuses i s .attemptsExhausted) ∧
                  (e.attempts < 3 → s.site.clockValid = false → Refuses i s .clockUnset) ∧
                  (e.attempts < 3 → s.site.clockValid = true →
                    (p.shape = .full → ¬cured e → Refuses i s .notCured) ∧
                    ((p.shape = .full → cured e) →
                      (rating st < e.decl.pp → Refuses i s .outOfRange 8) ∧
                      (∀ k, e.decl.pp ≤ rating st → relationFailure s.site e.decl = some k → Refuses i s .outOfRange k) ∧
                      (e.decl.pp ≤ rating st → relationFailure s.site e.decl = none →
                        (near st e → Refuses i s .neighbourBusy) ∧
                        (¬near st e → p.shape = .full → ¬room e → Refuses i s .rowCeiling e.decl.row) ∧
                        (∀ d rest, ¬near st e → (p.shape = .full → room e) → p.steps = d :: rest →
                          d.kind = (if p.shape = .full then .datum else .lockoff) →
                          starts st e p)))))))))))) ∧
  (∀ (s : State) (neighbours : List Nat) (rebase : Bool) (old : List (Option Int)),
    let captured := s.baselinesOf neighbours rebase old
    captured.length = 16 ∧
    ∀ k < 16,
      let p := s.point (k + 1)
      let watched := p.kind = .loadCell ∧ ∃ id ∈ neighbours, p.linked = some id
      (∀ v, watched → s.scanned (k + 1) = .valid v → captured[k]? = some (some v)) ∧
      ((¬watched ∨ ∀ v, s.scanned (k + 1) ≠ .valid v) →
        captured[k]? = some (if rebase then old.getD k none else none))) ∧
  (∀ site : Site,
    let l := site.limits
    let t := site.settings
    Captured.of site =
      { loadTol := t.loadTol, rateLimit := l.rateLimit, topUpMax := t.topUpMax, stroke := t.stroke
        strokeMargin := t.strokeMargin, creepLimit := l.creepLimit, loPct := l.loPct, hiPct := l.hiPct
        liftThreshold := t.liftThreshold, liftTol := l.liftTol, overdrive := t.overdrive, seatTime := t.seatTime
        rampDemand := t.rampDemand, releaseDemand := t.releaseDemand, nbrLimit := t.nbrLimit })

/-- R37 to R44, R50, R53: how a step begins. The staged adjustments come first: a staged P_lo is written into the
anchor's entry and the context, a staged extended flag into the CREEP step of the plan copy, and both become absent;
step begun is set, and the step's first movement starts. The first movement of each kind of step: DATUM and UNLOAD
ramp to the datum load, LOAD to its part of the proof load, CREEP to the proof load, LOCKOFF to the lock-off target;
LIFTOFF releases a load above tolerance and else seeks from a zeroed displacement. A step that starts afresh keeps
extended in force and the lock-off target; a CREEP step that starts afresh loses its creep readings and the creep
outcome.
(When the first sample of a movement comes: log 18; that a ramp begins with hold elapsed and top-ups at 0: log 32.) -/
def Obligations.StepsBeginWithTheirMovement : Prop :=
  (∀ (s : State) (st : Stn) (c : TestCtx), (s.stn st).ctx = some c →
    let applied : TestCtx :=
      { c with
        plo := c.stagedPlo.getD c.plo
        steps := match c.stagedExt with
          | none => c.steps
          | some b => c.steps.map fun t => if t.kind = .creep then { t with ext := if b then 1 else 0 } else t
        stagedPlo := none, stagedExt := none, begun := true }
    let written (e : Entry) : Entry := { e with decl := { e.decl with plo := applied.plo } }
    let reg := match c.stagedPlo with
      | none => s.reg
      | some _ => s.reg.map fun e => if e.decl.id == c.anchor then written e else e
    s.beginStep st = { s with reg := reg }.setStn st ({ s.stn st with ctx := some applied }.enterStep false)) ∧
  (∀ (x : Station) (c : TestCtx) (t : PlanStep) (again : Bool), x.ctx = some c → c.current = some t →
    let y := x.enterStep again
    let ramp (target : Nat) : Prop :=
      y.state = .ramping ∧ y.pump.cmd = 0 ∧ y.relCmd = false ∧
      ∃ d, y.ctx = some d ∧ d.phase = .ramp ∧ d.target = target ∧ d.motion = some (.start .ramp x.runLoad) ∧
        d.holdSamples = 0 ∧ d.topUps = 0 ∧ d.step = c.step ∧ d.causes = c.causes ∧ d.decision = c.decision ∧
        d.extInForce = (if t.kind = .creep ∧ again = false then t.ext == 1 else c.extInForce) ∧
        d.readings = (if t.kind = .creep ∧ again = true then
            c.readings.filter (fun r => !(r.kind == .creep && r.step == c.step)) else c.readings) ∧
        d.lockTarget = (if t.kind = .lockoff then some target else c.lockTarget) ∧
        d.creep = (if t.kind = .creep then ⟨none, none, none, false⟩ else c.creep) ∧ d.figures = c.figures ∧
        d.seatDone = c.seatDone
    ((t.kind = .datum ∨ t.kind = .unload) → ramp c.pa) ∧
    (t.kind = .load → ramp ((2 * (c.pp * t.target) + 1000) / 2000)) ∧
    (t.kind = .creep → ramp c.pp) ∧
    (t.kind = .lockoff → again = false → ramp ((2 * (c.plo * (1000 + c.cap.overdrive)) + 1000) / 2000)) ∧
    (∀ v, t.kind = .lockoff → again = true → c.lockTarget = some v → ramp v) ∧
    (t.kind = .liftoff → x.runLoad ≤ c.cap.loadTol →
      y.state = .seeking ∧ y.pump.cmd = c.cap.rampDemand ∧ y.relCmd = false ∧ y.enc.count = 0 ∧ y.enc.win = [0] ∧
      ∃ d, y.ctx = some d ∧ d.phase = .seek ∧ d.liftLoad = none ∧
        d.target = c.plo + (2 * (c.plo * c.cap.liftTol) + 1000) / 2000 + c.cap.loadTol ∧
        d.motion = some (.start .seek x.runLoad)) ∧
    (t.kind = .liftoff → c.cap.loadTol < x.runLoad →
      y.state = .releasing ∧ y.pump.cmd = 0 ∧ y.relCmd = true ∧ y.enc = x.enc ∧
      ∃ d, y.ctx = some d ∧ d.phase = .release ∧ d.liftLoad = none ∧ d.motion = some (.start .release x.runLoad)) ∧
    (y.load = x.load ∧ y.seat = x.seat ∧ y.ovl = x.ovl ∧ y.nbr = x.nbr ∧ y.passed = x.passed ∧
      y.pump.applied = x.pump.applied))

/-- R47, R48, R49, R51: HOLD_TEST and ABORT_TEST. A hold stops the drives and the movement, enters HELD with cause
HOST and raises TEST_HELD; in HELD only the cause joins. An abort takes the decision ABORTED, HOST, unless one stands,
and the station releases to zero; a seat pulse runs on, a running release continues, and from FAULT the release
begins, and the causes whose condition has ended leave the set.
(That the causes which ended in FAULT leave the set there: log 27; the elapsed hold and the top-ups of a held test read 0
and those of one in UNLOADING stay, log 32; the release drives at once, log 18; a pulse that runs on from FAULT: log 33;
the phase and the current target of a held test and in UNLOADING: log 39.) -/
def Obligations.HoldAndAbortTheTest : Prop :=
  ∀ (tag n : Nat) (s : State),
    let hold : Instr := .holdTest tag n
    let abort : Instr := .abortTest tag n
    (n ≠ 1 → n ≠ 2 →
      (s.accepts hold → Refuses hold s .outOfRange 1) ∧ (s.accepts abort → Refuses abort s .outOfRange 1)) ∧
    (∀ st : Stn, n = st.code →
      let x := s.stn st
      (s.enabled st = false →
        (s.accepts hold → Refuses hold s .disabled) ∧ (s.accepts abort → Refuses abort s .disabled)) ∧
      (s.enabled st = true →
        (s.accepts hold →
          (x.state = .fault → Refuses hold s .faulted) ∧
          ((x.state = .idle ∨ x.state = .selftest ∨ x.state = .seating ∨ x.state = .releasing ∨ x.state = .unloading) →
            Refuses hold s .wrongStage) ∧
          (∀ c, x.ctx = some c → (x.state = .ramping ∨ x.state = .holding ∨ x.state = .seeking) →
            let causes := { c.causes with host := true }
            Serves hold s
              (fun u =>
                (u.setStn st
                  { x with
                    state := .held, pump := { x.pump with cmd := 0 }, relCmd := false
                    ctx := some { c with causes := causes, motion := none, holdSamples := 0, topUps := 0 } }).notice
                  .testHeld st.origin (some c.anchor) causes.bits)
              (.plain .ok)) ∧
          (∀ c, x.ctx = some c → x.state = .held →
            Serves hold s
              (fun u => u.setStn st { x with ctx := some { c with causes := { c.causes with host := true } } })
              (.plain .ok))) ∧
        (s.accepts abort →
          ((x.state = .idle ∨ x.state = .selftest) → Refuses abort s .wrongStage) ∧
          (x.state = .unloading → Refuses abort s .ok) ∧
          (x.state ≠ .idle → x.state ≠ .selftest → x.state ≠ .unloading → s.faults.emergency.set = true →
            Refuses abort s .emergency) ∧
          (∀ c, x.ctx = some c → s.faults.emergency.set = false →
            let decided : TestCtx := { c with decision := some (c.decision.getD (.aborted .host)) }
            let releasing (c : TestCtx) : Station :=
              { x with
                state := .unloading, pump := { x.pump with cmd := 0 }, relCmd := true
                ctx := some { c with motion := some (.start .release x.runLoad), phase := .release } }
            (x.state = .fault →
              let thawed : TestCtx :=
                { c with causes :=
                  ⟨c.causes.host, c.causes.trip && s.faults.trip, false, false, c.causes.neighbour⟩ }
              Serves abort s (fun u => u.setStn st (releasing thawed)) (.plain .ok)) ∧
            ((x.state = .ramping ∨ x.state = .holding ∨ x.state = .seeking ∨ x.state = .held) →
              Serves abort s (fun u => u.setStn st (releasing decided)) (.plain .ok)) ∧
            (x.state = .seating → Serves abort s (fun u => u.setStn st { x with ctx := some decided }) (.plain .ok)) ∧
            (x.state = .releasing →
              Serves abort s (fun u => u.setStn st { x with state := .unloading, ctx := some decided }) (.plain .ok))))))

/-- R50, R156, R193: RESUME_TEST. The checks in their order; a resume removes HOST and NEIGHBOUR_RISE, captures the
neighbour baselines again when rebase is set, and starts the current step afresh, or begins it where it had not begun.
(A rebase code above 1 is refused, R193, before the checks of the station: log 29; a point still marked UNUSED at a rebase:
log 35.) -/
def Obligations.ResumeTestRestartsTheStep : Prop :=
  ∀ (tag n rebase : Nat) (s : State), s.accepts (.resumeTest tag n rebase) →
    let i : Instr := .resumeTest tag n rebase
    (1 < rebase → Refuses i s .outOfRange 2) ∧
    (rebase ≤ 1 → n ≠ 1 → n ≠ 2 → Refuses i s .outOfRange 1) ∧
    (∀ st : Stn, n = st.code → rebase ≤ 1 →
      (s.enabled st = false → Refuses i s .disabled) ∧
      (s.enabled st = true →
        ((s.stn st).state = .fault → Refuses i s .faulted) ∧
        ((s.stn st).state ≠ .fault → (s.stn st).state ≠ .held → Refuses i s .wrongStage) ∧
        (∀ c, (s.stn st).state = .held → (s.stn st).ctx = some c →
          ((c.causes.trip = true ∨ c.causes.emergency = true ∨ c.causes.linkLost = true) →
            Refuses i s .conditionPresent c.causes.bits) ∧
          (c.causes.trip = false → c.causes.emergency = false → c.causes.linkLost = false →
            let ids := ((s.entry c.anchor).map (·.decl.neighbours)).getD []
            let kept : TestCtx :=
              { c with
                causes := .none
                baselines := if rebase = 1 then s.baselinesOf ids true c.baselines else c.baselines }
            Serves i s
              (fun u =>
                let v := u.setStn st
                  { s.stn st with
                    ctx := some kept
                    nbr := if rebase = 1 then (s.stn st).nbr.map (fun g => { g with count := 0 }) else (s.stn st).nbr }
                if c.begun then v.modStn st (·.enterStep true) else v.beginStep st)
              (.plain .ok)))))

/-- R53, R193: ADJUST_TEST. The checks in their order; an accepted request stages P_lo, the extended flag, or both in the
context, and changes nothing else. A step has begun when the step index is past it, or at it with step begun.
(The codes of the presence bytes and of the flag, which R193 checks, come before R53's own checks; the detail of the
extended flag on a plan without CREEP: log 29.) -/
def Obligations.AdjustTestStagesTheValues : Prop :=
  ∀ (tag n : Nat) (plo ext : RawOption) (s : State), s.accepts (.adjustTest tag n plo ext) →
    let i : Instr := .adjustTest tag n plo ext
    (1 < plo.present → Refuses i s .outOfRange 2) ∧
    (plo.present ≤ 1 → (1 < ext.present ∨ ext.present = 1 ∧ 1 < ext.val) → Refuses i s .outOfRange 3) ∧
    (plo.present ≤ 1 → ext.present ≤ 1 → (ext.present = 1 → ext.val ≤ 1) →
      (n ≠ 1 → n ≠ 2 → Refuses i s .outOfRange 1) ∧
      (∀ st : Stn, n = st.code →
        (s.enabled st = false → Refuses i s .disabled) ∧
        (s.enabled st = true →
          ((s.stn st).state = .fault → Refuses i s .faulted) ∧
          ((s.stn st).ctx = none → (s.stn st).state ≠ .fault → Refuses i s .wrongStage) ∧
          ((s.stn st).state = .unloading → Refuses i s .wrongStage) ∧
          (∀ c, (s.stn st).ctx = some c → (s.stn st).state ≠ .fault → (s.stn st).state ≠ .unloading →
            let place (kind : StepKind) (j : Nat) : Prop :=
              1 ≤ j ∧ (c.steps[j - 1]?).map (·.kind) = some kind ∧ ∀ t ∈ c.steps.take (j - 1), t.kind ≠ kind
            let begun (kind : StepKind) : Prop := ∃ j, place kind j ∧ (j < c.step ∨ j = c.step ∧ c.begun = true)
            let new := plo.val
            let tol := (2 * (new * c.cap.liftTol) + 1000) / 2000
            let target := (2 * (new * (1000 + c.cap.overdrive)) + 1000) / 2000
            let fits := 1 ≤ new ∧ new ≤ 30000 ∧ c.pa < new ∧ target ≤ c.pp ∧ new + tol + c.cap.loadTol ≤ c.pp
            (plo.present = 1 → (c.shape = .relock ∨ begun .lockoff) → Refuses i s .wrongStage 10) ∧
            ((plo.present = 0 ∨ c.shape = .full ∧ ¬begun .lockoff) →
              (plo.present = 1 → ¬fits → Refuses i s .outOfRange 10) ∧
              ((plo.present = 0 ∨ fits) →
                (ext.present = 1 → (c.shape = .relock ∨ begun .creep) →
                  (∀ j, place .creep j → Refuses i s .wrongStage j) ∧
                  ((∀ t ∈ c.steps, t.kind ≠ .creep) → Refuses i s .wrongStage Config.noCreepDetail.toNat)) ∧
                ((ext.present = 0 ∨ c.shape = .full ∧ ¬begun .creep) →
                  let staged : TestCtx :=
                    { c with
                      stagedPlo := if plo.present = 1 then some plo.val else c.stagedPlo
                      stagedExt := if ext.present = 1 then some (decide (ext.val = 1)) else c.stagedExt }
                  Serves i s (fun u => u.setStn st { s.stn st with ctx := some staged }) (.plain .ok))))))))

/-- R34, R37 to R39, R41 to R43, R56, R57, R62 to R65: HOLD_END. A DATUM hold zeroes the displacement and records load
and displacement 0; a LOAD hold records load and displacement, and the step completes; an UNLOAD hold records the
permanent reading and judges L_app and creep; a LOCKOFF hold ends in the seat event. In any other state nothing
happens. The apparent free length is formed whole and rounded half up, 65535 at most; its bounds are rounded up and
down. (The rig asserts HOLD_END: log 2.) -/
def Obligations.HoldEndCompletesTheStep : Prop :=
  (∀ (st : Stn) (s : State), s.phase = .running →
    let x := s.stn st
    (x.state ≠ .holding → exec (.holdEnd st) s = .next s) ∧
    (∀ c t, x.state = .holding → x.ctx = some c → c.current = some t →
      let stopped (e : Encoder) (c : TestCtx) : Station :=
        { x with pump := { x.pump with cmd := 0 }, relCmd := false, enc := e, ctx := some { c with motion := none } }
      let reading (disp : Int) : Reading :=
        { step := c.step, kind := .step, due := t.hold, load := x.runLoad, disp := disp, time := s.site.clock }
      (t.kind = .creep → exec (.holdEnd st) s = .next s) ∧
      (t.kind = .datum →
        exec (.holdEnd st) s =
          .next ((s.setStn st (stopped { x.enc with count := 0, win := [0] }
            { c with readings := c.readings ++ [reading 0] })).completeStep st)) ∧
      (t.kind = .load →
        exec (.holdEnd st) s =
          .next ((s.setStn st (stopped x.enc { c with readings := c.readings ++ [reading x.runDisp] })).completeStep st)) ∧
      (t.kind = .lockoff → exec (.holdEnd st) s = .next ((s.setStn st (stopped x.enc c)).seatEvent st)) ∧
      (∀ e, t.kind = .unload → s.entry c.anchor = some e →
        let dispAt (c : TestCtx) (k : Nat) : Int := ((c.readings[k]?).map (·.disp)).getD 0
        let d : TestCtx := { c with readings := c.readings ++ [reading x.runDisp] }
        let f := unloadFigures e.decl c.pp c.pa c.cap.loPct c.cap.hiPct
          (dispAt d (c.creep.peak.getD 0) - x.runDisp)
        let reasons := (if c.creep.failed then [Reason.creepExceeded] else []) ++ f.2
        let judged := s.setStn st (stopped x.enc { d with figures := some f.1 })
        exec (.holdEnd st) s =
          .next (if reasons = [] then judged.completeStep st
            else judged.takeDecision st (.failed reasons))))) ∧
  (∀ (d : Decl) (pp pa lo hi : Nat) (ds : Int), pa < pp →
    let divisor := (pp - pa) * 100000
    let exact := (2 * (d.area * d.modulus * ds.toNat) + divisor) / (2 * divisor)
    let figures : LAppFigures :=
      { lApp := if ds ≤ 0 then 0 else min 65535 exact, lower := (d.lFree * lo + 99) / 100
        upper := d.lFree + d.lBond * hi / 100 }
    unloadFigures d pp pa lo hi ds =
      (figures,
        (if ds ≤ 0 then [.elasticNonpositive] else if 65535 < exact then [.lappClamped] else []) ++
          (if figures.lApp < figures.lower then [.lappLow] else if figures.upper < figures.lApp then [.lappHigh]
            else [])))

/-- R37, R43, R46, R48, R159, R160: what ends a step, the seat event and a test. A completed step raises STEP_DONE,
and the next begins unless a cause stands, which holds the station; the seat event moves the anchor's load from the
reserved to the locked sum once, sets counted and seat done, and starts the pulse; a test end writes the result and
the new stage, takes back the reservation of a full test that did not seat, raises TEST_ENDED and leaves the station
IDLE. The result carries the station, the plan, the times, the decision with its cause, the readings, the creep outcome
and every figure as far as the test formed them; a PASSED or FAILED decision gives the verdict and its reasons, an
ABORTED one no verdict and no reasons.
(The phase and the current target between two steps: log 39; the elapsed hold and the top-ups stay in SEATING: log 32; a
seat pulse that runs on after the end: log 33; extended used of a test that did not begin CREEP is clear: log 36.) -/
def Obligations.StepSeatAndTestEnd : Prop :=
  ∀ (st : Stn) (s : State) (c : TestCtx), (s.stn st).ctx = some c →
    let x := s.stn st
    let next : Station :=
      { x with
        pump := { x.pump with cmd := 0 }, relCmd := false
        ctx := some { c with motion := none, step := c.step + 1, begun := false } }
    let told := s.notice .stepDone st.origin (some c.anchor) c.step
    (c.causes = .none → s.completeStep st = (told.setStn st next).beginStep st) ∧
    (c.causes ≠ .none → s.completeStep st = (told.setStn st next).hold st) ∧
    (∀ e, s.entry c.anchor = some e →
      let seated := s.setStn st
        { x with
          state := .seating, pump := { x.pump with cmd := 0 }, relCmd := false
          seat := some (x.seat.getD ⟨c.cap.seatTime, 0⟩)
          ctx := some { c with motion := none, phase := .seat, seatDone := true } }
      (e.counted = true → s.seatEvent st = seated) ∧
      (e.counted = false →
        s.seatEvent st =
          { seated with
            rows := s.rows.set (c.row - 1) ⟨(s.row c.row).locked + c.plo, (s.row c.row).reserved - c.pp⟩
            reg := s.reg.map fun y => if y.decl.id == c.anchor then { y with counted := true } else y })) ∧
    (∀ d, c.decision = some d →
      let kind : EndKind := match d with | .passed => .passed | .failed _ => .failed | .aborted _ => .aborted
      let cause : Option AbortCause := match d with | .aborted a => some a | _ => none
      let result (start : Nat) : TestResult :=
        { stn := st, slot := c.slot, shape := c.shape, start := start, endTime := s.now, endKind := kind, abort := cause
          seatDone := c.seatDone, readings := c.readings, ksPrimary := c.creep.ksPrimary
          ksExtended := c.creep.ksExtended, extendedUsed := c.extInForce, figures := c.figures
          lockTarget := c.lockTarget, liftLoad := c.liftLoad
          verdict := match d with | .passed => some .passed | .failed _ => some .failed | .aborted _ => none
          reasons := match d with | .failed l => l | _ => [] }
      let causeCode : Nat :=
        match cause with
        | none => 0
        | some .host => 1
        | some .holdLoss => 2
        | some .rampTimeout => 3
        | some .strokeEnd => 4
        | some .overload => 5
        | some .reset => 6
      let ended (e : Entry) : Entry :=
        { e with
          result := some (result ((e.test.map (·.start)).getD 0))
          stage := newStage d c.seatDone c.shape (e.prior.getD e.stage), prior := none, test := none }
      let row : Row := { s.row c.row with reserved := (s.row c.row).reserved - c.pp }
      let idle : Station :=
        { x with
          state := .idle, ctx := none, pump := { x.pump with cmd := 0 }, relCmd := false
          ovl := { x.ovl with count := 0 }, nbr := x.nbr.map fun g => { g with count := 0 } }
      let closed : State :=
        { s with
          reg := s.reg.map fun e => if e.decl.id == c.anchor then ended e else e
          rows := if c.shape = .full ∧ c.seatDone = false then s.rows.set (c.row - 1) row else s.rows }
      s.endTest st =
        (closed.setStn st idle).notice .testEnded st.origin (some c.anchor)
          ((match kind with | .passed => 1 | .failed => 2 | .aborted => 3) + 256 * causeCode)) ∧
    (∀ d seat shape prior,
      newStage d seat shape prior =
        match d with
        | .passed => .locked
        | .failed _ => if seat then .lockFault else .rejected
        | .aborted _ => if seat then .lockFault else if shape = .relock then .lockFault else prior)

/-- R40, R56, R59 to R61: CREEP_READING. The readings of a CREEP hold stand at 60, 300, 600 and 3000 s; the difference
of the 600 s and 60 s displacements is judged against the cap, and an extended test goes on where it fails; the
difference of the 3000 s and 300 s displacements is judged in the same way.
(The rig asserts CREEP_READING: log 2.) -/
def Obligations.CreepReadingsAreTakenAndJudged : Prop :=
  ∀ (st : Stn) (s : State) (c : TestCtx) (t : PlanStep), s.phase = .running → (s.stn st).ctx = some c →
    c.current = some t → t.kind = .creep →
    let x := s.stn st
    let read (due : Nat) : TestCtx :=
      { c with
        creepTaken := c.creepTaken + 1
        readings := c.readings ++ [⟨c.step, .creep, due, x.runLoad, x.runDisp, s.site.clock⟩] }
    let ks : Int := x.runDisp - ((c.readings[c.readings.length - 2]?).map (·.disp)).getD 0
    let last := c.readings.length
    let done (d : TestCtx) : State :=
      (s.setStn st { x with pump := { x.pump with cmd := 0 }, relCmd := false, ctx := some { d with motion := none } }).completeStep st
    (x.state ≠ .holding → exec (.creepReading st) s = .next s) ∧
    (x.state = .holding →
      (c.creepTaken = 0 → exec (.creepReading st) s = .next (s.setStn st { x with ctx := some (read 60) })) ∧
      (c.creepTaken = 1 → exec (.creepReading st) s = .next (s.setStn st { x with ctx := some (read 300) })) ∧
      (c.creepTaken = 2 → 2 ≤ c.readings.length → exec (.creepReading st) s =
        .next (if ks ≤ c.cap.creepLimit then
            done { read 600 with creep := ⟨some ks, none, some last, false⟩ }
          else if c.extInForce then
            s.setStn st { x with ctx := some { read 600 with creep := { c.creep with ksPrimary := some ks } } }
          else done { read 600 with creep := ⟨some ks, none, some last, true⟩ })) ∧
      (c.creepTaken = 3 → 2 ≤ c.readings.length → exec (.creepReading st) s =
        .next (done { read 3000 with
          creep := ⟨c.creep.ksPrimary, some ks, some last, decide ((c.cap.creepLimit : Int) < ks)⟩ })))

/-- R31 to R33, R35, R43, R45, R52, R89: RAMP_TIMEOUT, WHOLE_SECOND, RELEASE_DUTY_END and SEAT_PULSE_END. A ramp or
seek that runs out of time ends the test ABORTED, RAMP_TIMEOUT; at a whole second a load that rose or fell by more
than the rate in force throttles the pump or the valve for the next second, and else they are driven; the duty end
closes the valve; the end of the seat pulse starts the release. A ramp whose direction is not fixed yet has neither.
(The rig asserts these events: log 2; a release drives at once: log 18; the elapsed hold and the top-ups stay in UNLOADING
and RELEASING: log 32; a pulse that runs on through UNLOADING, IDLE and SELFTEST just ends: log 33; the phase and the
current target in UNLOADING: log 39.) -/
def Obligations.TimedEventsOfAMovement : Prop :=
  ∀ (st : Stn) (s : State), s.phase = .running →
    let x := s.stn st
    (∀ c m, x.ctx = some c → c.motion = some m →
      let rate := if m.kind = .seek then max 1 (c.cap.rateLimit / 4) else c.cap.rateLimit
      let gated : TestCtx := { c with motion := some { m with second := 0, secLoad := x.runLoad } }
      ((x.state = .ramping ∧ (m.kind = .rampUp ∨ m.kind = .rampDown) ∨ x.state = .seeking ∧ m.kind = .seek) →
        exec (.rampTimeout st) s =
          .next (s.setStn st
            { x with
              state := .unloading, pump := { x.pump with cmd := 0 }, relCmd := true
              ctx := some
                { c with
                  decision := some (c.decision.getD (.aborted .rampTimeout))
                  motion := some (.start .release x.runLoad), phase := .release } })) ∧
      ((m.kind = .rampUp ∨ m.kind = .topUp ∨ m.kind = .seek) →
        exec (.wholeSecond st) s =
          .next (s.setStn st
            { x with
              pump := { x.pump with cmd := if m.secLoad + rate < x.runLoad then 0 else c.cap.rampDemand }
              relCmd := false, ctx := some gated })) ∧
      ((m.kind = .rampDown ∨ m.kind = .correction ∨ m.kind = .release) →
        exec (.wholeSecond st) s =
          .next (s.setStn st
            { x with
              pump := { x.pump with cmd := 0 }, relCmd := decide (m.secLoad ≤ x.runLoad + rate)
              ctx := some gated })) ∧
      (m.kind = .ramp → exec (.rampTimeout st) s = .next s ∧ exec (.wholeSecond st) s = .next s)) ∧
    ((x.state ≠ .ramping ∧ x.state ≠ .seeking ∨ x.ctx = none) → exec (.rampTimeout st) s = .next s) ∧
    ((x.ctx = none ∨ ∃ c, x.ctx = some c ∧ c.motion = none) →
      exec (.rampTimeout st) s = .next s ∧ exec (.wholeSecond st) s = .next s) ∧
    exec (.releaseDutyEnd st) s = .next (s.setStn st { x with relCmd := false }) ∧
    (x.seat = none → exec (.seatPulseEnd st) s = .next s) ∧
    (∀ p, x.seat = some p →
      (x.state ≠ .seating → exec (.seatPulseEnd st) s = .next (s.setStn st { x with seat := none })) ∧
      (∀ c, x.state = .seating → x.ctx = some c →
        exec (.seatPulseEnd st) s =
          .next (s.setStn st
            { x with
              seat := none, pump := { x.pump with cmd := 0 }, relCmd := true
              state := if c.decision.isSome then .unloading else .releasing
              ctx := some { c with motion := some (.start .release x.runLoad), phase := .release } })))

/-- R45, R52, R95, R96, R98: JACK_OVERLOAD_TRIP. During a test the station goes to FAULT with its drives off, takes the
decision ABORTED, OVERLOAD unless one stands, and OVERLOAD is raised; in UNLOADING the flag alone is raised; in SELFTEST
the trip ends the self-test with PASS; without a test or self-test nothing happens.
(The rig asserts the trip, which counts no sample of a self-test, log 2; OVERLOAD is raised after the station has gone
to FAULT, log 8; the threshold last evaluated stays, log 38; in FAULT the test keeps its phase and its current target,
log 39, and its elapsed hold and top-ups, log 32.) -/
def Obligations.JackOverloadTripStopsTheTest : Prop :=
  ∀ (st : Stn) (s : State), s.phase = .running →
    let x := s.stn st
    let quiet : Guard := { x.ovl with count := 0 }
    (∀ c, x.ctx = some c → x.state ≠ .selftest →
      (x.state ≠ .unloading →
        exec (.jackOverloadTrip st) s =
          .next ((s.setStn st
            { x with
              state := .fault, ovl := quiet, pump := { x.pump with cmd := 0 }, relCmd := false
              ctx := some { c with motion := none, decision := some (c.decision.getD (.aborted .overload)) } }).raise
            (.overload st))) ∧
      (x.state = .unloading →
        exec (.jackOverloadTrip st) s = .next ((s.setStn st { x with ovl := quiet }).raise (.overload st)))) ∧
    (∀ self, x.state = .selftest → x.self = some self →
      exec (.jackOverloadTrip st) s = .next (s.endSelftest (.overload st) (some self.count))) ∧
    (x.ctx = none → x.state ≠ .selftest → exec (.jackOverloadTrip st) s = .next s)

/-- R76 to R79, R82, R83, R89, R96, R98, R110, R120, R121, R136, R139: SAMPLE. A sample of an enabled station's
channel is judged and converted, joins the window when it is VALID, and an OPEN or OVER sample raises its fault; with
a sample of LOAD1 or LOAD2 the displacement is published, and with one of TENSION the paid length; the guards and the
station then act on the published values. A sample of a disabled station changes nothing. A
VALID code is converted by the calibration, rounded half away from zero and clamped to the span. The jack overload
guard of a test counts the VALID samples whose running load is above the lesser of the jack rating and P_p plus 50,
and a trip sends the station to FAULT. In PAYING the peak tension rises; a length that has reached the target ends the
run, and else a trip of the jam guard, and else one of the slack guard, which is active from 200 cm on. With a pass
the peak pressure rises; the refusal guard, in PUMPING, ends the pass, and the overpressure guard raises OVERPRESSURE
and ends it FAULT.
(The order of the guard and the station at one sample: log 6. That an overload trip sends the station to FAULT before
OVERLOAD is raised, and that OVERPRESSURE is raised before the pass ends: log 8. A raise hands its notice before TRIP
is judged: log 26. The threshold last evaluated is refreshed at every sample while the guard is active, at one that is
not VALID too: log 38. The samples counted for the times left of the seat pulse, the pause and the no-flow time: log 12.) -/
def Obligations.SamplePublishesAndTheStationActs : Prop :=
  (∀ (s : State) (code : Nat) (first : Bool), s.phase = .running →
    let taken (c : Channel) (cal : Cal) : Channel :=
      if code < 9830 then { c with mark := some .isOpen }
      else if 57344 < code then { c with mark := some .isOver }
      else { win := (if 16 ≤ c.win.length then c.win.tail else c.win) ++ [convert cal code], mark := some .valid }
    let judged (u : State) (isOpen isOver : Flag) : State :=
      if code < 9830 then u.raise isOpen else if 57344 < code then u.raise isOver else u
    let cal (n : Nat) : Cal := s.fe.cals.getD (n - 1) (.factory 0)
    (∀ st : Stn,
      let chan := match st with | .s1 => Chan.load1 | .s2 => Chan.load2
      (s.enabled st = false → exec (.sample chan code first) s = .next s) ∧
      (s.enabled st = true →
        let x := s.stn st
        let u := judged
          (s.setStn st
            { x with
              load := taken x.load (cal st.code)
              enc :=
                { x.enc with
                  win := (if 16 ≤ x.enc.win.length then x.enc.win.tail else x.enc.win) ++ [x.enc.count]
                  mark := some .valid }
              seat := x.seat.map fun p => { p with samples := p.samples + 1 } })
          (.loadOpen st) (.loadOver st)
        exec (.sample chan code first) s =
          .next (if (u.stn st).state = .selftest then u.selfLoad st
            else if first then (u.overloadSample st).stationSample st else (u.stationSample st).overloadSample st))) ∧
    (s.site.enables.w = false → exec (.sample .tension code first) s = .next s) ∧
    (s.site.enables.w = true →
      exec (.sample .tension code first) s =
        .next (judged
          { s with winch :=
              { s.winch with
                tension := taken s.winch.tension (cal 3)
                paid := roundAway (s.winch.drum * s.site.settings.drumMm) 100 } }
          .tensionOpen .tensionOver).winchSample) ∧
    (s.site.enables.g = false → exec (.sample .pressure code first) s = .next s) ∧
    (s.site.enables.g = true →
      exec (.sample .pressure code first) s =
        .next ((judged { s with grout := { s.grout with pressure := taken s.grout.pressure (cal 4) } }
          .pressureOpen .pressureOver).groutSample first))) ∧
  (∀ (cal : Cal) (code : Nat),
    let span : Int := cal.span
    let c : Int := code - cal.zero
    convert cal code =
      if cal.signed = true then max (-span) (min span (roundAway ((c - 32768) * span) 21845))
      else max 0 (min span (roundAway ((c - 10923) * span) 43690))) ∧
  (∀ (num : Int) (den : Nat), 0 < den →
    let r := roundAway num den
    2 * |r * den - num| ≤ den ∧ (2 * |r * den - num| = den → |num| < |r| * den)) ∧
  (∀ (x : Station) (c : Channel),
    let mean (win : List Int) : Int := if win = [] then 0 else roundAway win.sum win.length
    x.runLoad = x.load.level ∧ x.runDisp = mean x.enc.win ∧ c.level = (mean c.win).toNat) ∧
  (∀ (s : State) (st : Stn),
    let x := s.stn st
    let rating := match st with | .s1 => s.site.limits.rating1 | .s2 => s.site.limits.rating2
    (x.ctx = none → s.overloadSample st = s) ∧
    (∀ c, x.ctx = some c →
      let limit := min rating (c.pp + 50)
      let n := min 32 (x.ovl.count + 1)
      let counted (k : Nat) : State := s.setStn st { x with ovl := ⟨k, some limit⟩ }
      ((x.load.mark ≠ some .valid ∨ x.runLoad ≤ limit) → s.overloadSample st = counted 0) ∧
      (x.load.mark = some .valid → limit < x.runLoad → n < s.site.settings.nOverload →
        s.overloadSample st = counted n) ∧
      (x.load.mark = some .valid → limit < x.runLoad → s.site.settings.nOverload ≤ n →
        s.overloadSample st = (counted 0).overloadTrip st) ∧
      s.overloadTrip st =
        (if x.state = .unloading then s
        else s.setStn st
          { x with
            state := .fault, pump := { x.pump with cmd := 0 }, relCmd := false
            ctx := some { c with motion := none, decision := some (c.decision.getD (.aborted .overload)) } }).raise
          (.overload st))) ∧
  (∀ (s : State) (r : Run), s.winch.state = .paying → s.winch.run = some r →
    let w := s.winch
    let t := s.site.settings
    let level := w.tension.level
    let tight := w.tension.mark = some .valid ∧ t.jamTension ≤ level
    let loose := w.tension.mark = some .valid ∧ 200 ≤ w.paid ∧ level ≤ t.slackTension
    let jamCount := if tight then min 32 (w.jam.count + 1) else 0
    let slackCount := if loose then min 32 (w.slack.count + 1) else 0
    let jams := tight ∧ t.nJam ≤ jamCount
    let slacks := loose ∧ t.nSlack ≤ slackCount
    let slackSeen := if 200 ≤ w.paid then some t.slackTension else w.slack.last
    let noted : Run := { r with peak := if w.tension.win = [] then r.peak else max r.peak level }
    let ended (reason : RunEnd) : State :=
      { s with winch :=
        { w with
          state := .stopping, run := some { noted with reason := some reason, halt := none, brakeSamples := 0 }
          jam := ⟨0, some t.jamTension⟩, slack := ⟨0, slackSeen⟩ } }
    ((r.target : Int) ≤ w.paid → s.winchSample = ended .reached) ∧
    (w.paid < (r.target : Int) →
      (jams → s.winchSample = ended .jammed) ∧
      (¬jams → slacks → s.winchSample = ended .slack) ∧
      (¬jams → ¬slacks →
        s.winchSample =
          { s with winch :=
            { w with run := some noted, jam := ⟨jamCount, some t.jamTension⟩, slack := ⟨slackCount, slackSeen⟩ } }))) ∧
  (∀ s : State, s.winch.state = .idle → s.winch.run = none → s.winchSample = s) ∧
  (∀ (s : State) (first : Bool), s.grout.state ≠ .selftest →
    let g := s.grout
    let note (p : Pass) : Pass :=
      { p with
        peakPressure := if g.pressure.win = [] then p.peakPressure else max p.peakPressure g.pressure.level
        pauseSamples := if g.state = .paused then p.pauseSamples + 1 else p.pauseSamples
        noFlow := p.noFlow.map fun q => (q.1 + 1, q.2) }
    let v : State := { s with grout := { g with pass := g.pass.map note } }
    s.groutSample first = if first then v.overpressureSample.refusalSample else v.refusalSample.overpressureSample) ∧
  (∀ s : State,
    let g := s.grout
    let top := s.site.limits.maxPressure
    let refusal (k limit : Nat) : State := { s with grout := { g with refusal := ⟨k, some limit⟩ } }
    let overp (k : Nat) : State := { s with grout := { g with overp := ⟨k, some top⟩ } }
    let r := min 32 (g.refusal.count + 1)
    let o := min 32 (g.overp.count + 1)
    (g.state ≠ .pumping → s.refusalSample = s) ∧
    (g.pass = none → s.refusalSample = s ∧ s.overpressureSample = s) ∧
    (∀ p, g.pass = some p →
      (g.state = .pumping →
        ((g.pressure.mark ≠ some .valid ∨ g.pressure.level < p.refusal) → s.refusalSample = refusal 0 p.refusal) ∧
        (g.pressure.mark = some .valid → p.refusal ≤ g.pressure.level →
          (r < s.site.settings.nRefusal → s.refusalSample = refusal r p.refusal) ∧
          (s.site.settings.nRefusal ≤ r → s.refusalSample = (refusal 0 p.refusal).endPass .refusal))) ∧
      ((g.pressure.mark ≠ some .valid ∨ g.pressure.level < top) → s.overpressureSample = overp 0) ∧
      (g.pressure.mark = some .valid → top ≤ g.pressure.level →
        (o < s.site.settings.nOverpressure → s.overpressureSample = overp o) ∧
        (s.site.settings.nOverpressure ≤ o →
          s.overpressureSample = ((overp 0).raise .overpressure).endPass .fault))))

/-- R31 to R37, R40, R44 to R46, R49, R68: what a stressing station does at a sample. Stroke end first: the decision is
taken, and a running release continues in UNLOADING at this sample; it is not checked once a decision stands, and a held
station does nothing else. A ramp fixes its direction at its first sample,
drives until its target is in band, and then holds; it goes on while it is out of band, and ends ABORTED, RAMP_TIMEOUT
when its allowed time has run out; a rising seek ends at the lift-off displacement or at its cap, or goes on, or times
out, and the lift-off load is judged against P_lo and the tolerance; a release goes on down to zero load and ends
there, and with it an UNLOADING test. A hold ends, or takes its creep reading, at the sample at which its time is due;
else it keeps the load in band: a load below band starts a counted top-up, or ends the test HOLD_LOSS when none is
left, a load above band a correction, and each runs to the target. A release that is done in RELEASING starts the seek
of LIFTOFF, or holds the test when a cause stands; at any other step, which is LOCKOFF, the step completes.
(The order of these at one sample: log 6; a release or a seek that begins at a sample drives at once and is judged from
the next: log 18; the elapsed hold and the top-ups stay in UNLOADING and SEEKING and read 0 in HELD: log 32; the phase and
the current target in UNLOADING: log 39. HOLD_END, CREEP_READING and a whole second do as their own statements say.) -/
def Obligations.StationActsAtASample : Prop :=
  (∀ (st : Stn) (s : State), s.phase = .running →
    exec (.wholeSecond st) s = .next (s.setStn st (s.stn st).wholeSecond) ∧
    ∀ c t, (s.stn st).state = .holding → (s.stn st).ctx = some c → c.current = some t →
      (t.kind ≠ .creep → exec (.holdEnd st) s = .next (s.holdEnd st)) ∧
      (t.kind = .creep → exec (.creepReading st) s = .next (s.creepReading st))) ∧
  (∀ (st : Stn) (s : State) (c : TestCtx), (s.stn st).ctx = some c →
    let x := s.stn st
    let load := x.runLoad
    let strokeEnd := (c.cap.stroke : Int) - c.cap.strokeMargin ≤ x.runDisp
    let going (y : Station) (c : TestCtx) (m : Motion) : State :=
      let n : Motion := { m with samples := m.samples + 1, second := m.second + 1 }
      let z : Station := { y with ctx := some { c with motion := some n } }
      s.setStn st (if 50 ≤ m.second + 1 then z.wholeSecond else z)
    let late (m : Motion) (rate : Nat) : Prop :=
      50 * (3 * (((c.target - m.startLoad) + (m.startLoad - c.target) + rate - 1) / rate) + 60) ≤ m.samples + 1
    ((x.state = .ramping ∨ x.state = .holding ∨ x.state = .seating ∨ x.state = .seeking ∨ x.state = .held) → strokeEnd →
      c.decision = none → s.stationSample st = s.takeDecision st (.aborted .strokeEnd)) ∧
    (x.state = .releasing → strokeEnd → c.decision = none →
      let d : TestCtx := { c with decision := some (.aborted .strokeEnd) }
      let y : Station := { x with state := .unloading, ctx := some d }
      (load ≤ c.cap.loadTol → s.stationSample st = (s.setStn st y).endTest st) ∧
      (∀ m, c.cap.loadTol < load → c.motion = some m → s.stationSample st = going y d m)) ∧
    ((¬strokeEnd ∨ c.decision ≠ none) →
      (∀ m, x.state = .ramping → c.motion = some m →
        (m.kind = .ramp → load + c.cap.loadTol < c.target →
          s.stationSample st = s.setStn st
            { x with pump := { x.pump with cmd := c.cap.rampDemand }, relCmd := false,
                     ctx := some { c with motion := some (.start .rampUp load) } }) ∧
        (m.kind = .ramp → c.target + c.cap.loadTol < load →
          s.stationSample st = s.setStn st
            { x with pump := { x.pump with cmd := 0 }, relCmd := true,
                     ctx := some { c with motion := some (.start .rampDown load) } }) ∧
        ((m.kind = .rampUp ∧ load + c.cap.loadTol < c.target ∨ m.kind = .rampDown ∧ c.target + c.cap.loadTol < load) →
          (late m c.cap.rateLimit → s.stationSample st = s.takeDecision st (.aborted .rampTimeout)) ∧
          (¬late m c.cap.rateLimit → s.stationSample st = going x c m)) ∧
        ((m.kind = .ramp ∧ c.target ≤ load + c.cap.loadTol ∧ load ≤ c.target + c.cap.loadTol ∨
          m.kind = .rampUp ∧ c.target ≤ load + c.cap.loadTol ∨ m.kind = .rampDown ∧ load ≤ c.target + c.cap.loadTol) →
          s.stationSample st =
            (s.setStn st
              { x with
                state := .holding, pump := { x.pump with cmd := 0 }, relCmd := false
                ctx := some { c with motion := none, phase := .hold, holdSamples := 0, topUps := 0, creepTaken := 0 } }).holdSample
              st)) ∧
      (∀ m, x.state = .seeking → c.motion = some m →
        ((c.cap.liftThreshold : Int) ≤ x.runDisp → s.stationSample st = s.setStn st (x.judgeLift c (some load))) ∧
        (x.runDisp < (c.cap.liftThreshold : Int) → c.target ≤ load →
          s.stationSample st = s.setStn st (x.judgeLift c none)) ∧
        (m.kind = .seek → x.runDisp < (c.cap.liftThreshold : Int) → load < c.target →
          (late m (max 1 (c.cap.rateLimit / 4)) → s.stationSample st = s.takeDecision st (.aborted .rampTimeout)) ∧
          (¬late m (max 1 (c.cap.rateLimit / 4)) → s.stationSample st = going x c m))) ∧
      (x.state = .holding →
        s.stationSample st = (s.setStn st { x with ctx := some { c with holdSamples := c.holdSamples + 1 } }).holdSample st) ∧
      ((x.state = .seating ∨ x.state = .held) → s.stationSample st = s) ∧
      (load ≤ c.cap.loadTol → x.state = .releasing → s.stationSample st = s.releaseDone st)) ∧
    (∀ m, c.cap.loadTol < load → c.motion = some m →
      (x.state = .releasing ∧ (¬strokeEnd ∨ c.decision ≠ none) ∨ x.state = .unloading) →
      s.stationSample st = going x c m) ∧
    (load ≤ c.cap.loadTol → x.state = .unloading → s.stationSample st = s.endTest st) ∧
    (x.state = .fault → s.stationSample st = s) ∧
    (let still : State := s.setStn st
       { x with pump := { x.pump with cmd := 0 }, relCmd := false, ctx := some { c with motion := none } }
     let lifting := (c.steps[c.step - 1]?).map (·.kind) = some .liftoff
     let tol := (2 * (c.plo * c.cap.liftTol) + 1000) / 2000
     (¬lifting → s.releaseDone st = still.completeStep st) ∧
     (lifting → c.causes ≠ .none → s.releaseDone st = still.hold st) ∧
     (lifting → c.causes = .none →
       s.releaseDone st = s.setStn st
         { x with
           state := .seeking, pump := { x.pump with cmd := c.cap.rampDemand }, relCmd := false
           enc := { x.enc with count := 0, win := [0] }
           ctx := some
             { c with
               motion := some (.start .seek load), phase := .seek, target := c.plo + tol + c.cap.loadTol } }))) ∧
  (∀ (st : Stn) (s : State) (c : TestCtx) (t : PlanStep), (s.stn st).ctx = some c → c.current = some t →
    let due (time : Nat) : Prop := 50 * time ≤ c.holdSamples
    let kept := s.setStn st (s.stn st).keepBand
    ((t.kind = .datum ∨ t.kind = .load ∨ t.kind = .unload) →
      (due t.hold → s.holdSample st = s.holdEnd st) ∧ (¬due t.hold → s.holdSample st = kept)) ∧
    (t.kind = .lockoff → (due 10 → s.holdSample st = s.holdEnd st) ∧ (¬due 10 → s.holdSample st = kept)) ∧
    (t.kind = .creep → (s.stn st).state = .holding →
      let next := if c.creepTaken = 0 then 60 else if c.creepTaken = 1 then 300 else if c.creepTaken = 2 then 600 else 3000
      (¬due next → s.holdSample st = kept) ∧
      (due next →
        let u := s.creepReading st
        ((u.stn st).state = .holding → s.holdSample st = u.setStn st (u.stn st).keepBand) ∧
        ((u.stn st).state ≠ .holding → s.holdSample st = u)))) ∧
  (∀ (x : Station) (c : TestCtx), x.ctx = some c →
    let load := x.runLoad
    let below := load + c.cap.loadTol < c.target
    let above := c.target + c.cap.loadTol < load
    let topUp : Station :=
      { x with
        pump := { x.pump with cmd := c.cap.rampDemand }, relCmd := false
        ctx := some { c with topUps := c.topUps + 1, motion := some (.start .topUp load) } }
    let correction : Station :=
      { x with
        pump := { x.pump with cmd := 0 }, relCmd := true, ctx := some { c with motion := some (.start .correction load) } }
    let lost : Station :=
      { x with
        state := .unloading, pump := { x.pump with cmd := 0 }, relCmd := true
        ctx := some
          { c with
            decision := some (c.decision.getD (.aborted .holdLoss)), motion := some (.start .release load)
            phase := .release } }
    let idle : Station :=
      { x with pump := { x.pump with cmd := 0 }, relCmd := false, ctx := some { c with motion := none } }
    let reached (m : Motion) : Prop := m.kind = .topUp ∧ c.target ≤ load ∨ m.kind = .correction ∧ load ≤ c.target
    let going (m : Motion) : Station :=
      { x with ctx := some { c with motion := some { m with samples := m.samples + 1, second := m.second + 1 } } }
    ((c.motion = none ∨ ∃ m, c.motion = some m ∧ reached m) →
      (below → c.topUps < c.cap.topUpMax → x.keepBand = topUp) ∧
      (below → c.cap.topUpMax ≤ c.topUps → x.state = .holding → x.keepBand = lost) ∧
      (above → x.keepBand = correction)) ∧
    (¬below → ¬above → c.motion = none → x.keepBand = x) ∧
    (∀ m, c.motion = some m →
      (reached m → ¬below → ¬above → x.keepBand = idle) ∧
      (¬reached m → x.keepBand = if 50 ≤ m.second + 1 then (going m).wholeSecond else going m))) ∧
  (∀ (x : Station) (c : TestCtx) (load : Option Nat),
    let tol := (2 * (c.plo * c.cap.liftTol) + 1000) / 2000
    let d : TestCtx := { c with liftLoad := load }
    ((∃ l, load = some l ∧ c.plo ≤ l + tol ∧ l ≤ c.plo + tol) →
      x.judgeLift c load = { x with ctx := some d }.take .passed) ∧
    ((∃ l, load = some l ∧ l + tol < c.plo) →
      x.judgeLift c load = { x with ctx := some d }.take (.failed [.liftoffLow])) ∧
    ((load = none ∨ ∃ l, load = some l ∧ c.plo + tol < l) →
      x.judgeLift c load = { x with ctx := some d }.take (.failed [.liftoffHigh]))) ∧
  (∀ (x : Station) (c : TestCtx) (d : Decision), x.ctx = some c →
    let decided : TestCtx := { c with decision := some (c.decision.getD d) }
    ((x.state = .seating ∨ x.state = .unloading ∨ x.state = .fault) → x.take d = { x with ctx := some decided }) ∧
    (x.state = .releasing → x.take d = { x with state := .unloading, ctx := some decided }) ∧
    ((x.state = .ramping ∨ x.state = .holding ∨ x.state = .seeking ∨ x.state = .held) →
      x.take d =
        { x with
          state := .unloading, pump := { x.pump with cmd := 0 }, relCmd := true
          ctx := some { decided with motion := some (.start .release x.runLoad), phase := .release } }))
/-! ## The measurement front end and the outputs -/

/-- R73 to R75, R79, R193: SET_CALIBRATION. The checks in their order: a selector is busy while its station is not
IDLE, or while a test holds a baseline from its point; the record of the selector
is replaced as a whole and its average is emptied; a point's scan and baseline, and every other selector, stay.
(The signed and invert fields of the other selectors: log 16.) -/
def Obligations.SetCalibrationReplacesTheRecord : Prop :=
  ∀ (tag sel : Nat) (zero : Int) (span signed invert : Nat) (s : State),
    s.accepts (.setCalibration tag sel zero span signed invert) →
    let i : Instr := .setCalibration tag sel zero span signed invert
    let top := if sel = 3 then 2000 else if sel = 4 then 10000 else if 5 ≤ sel ∧ signed ≠ 0 then 32000 else 30000
    let cal : Cal := ⟨zero, span, decide (signed = 1)⟩
    let watched (x : Station) : Prop := ∃ c b, x.ctx = some c ∧ c.baselines[sel - 5]? = some (some b)
    let busy :=
      sel = 1 ∧ s.s1.state ≠ .idle ∨ sel = 2 ∧ s.s2.state ≠ .idle ∨ sel = 3 ∧ s.winch.state ≠ .idle ∨
        sel = 4 ∧ s.grout.state ≠ .idle ∨ 5 ≤ sel ∧ (watched s.s1 ∨ watched s.s2)
    ((sel = 0 ∨ 22 < sel) → Refuses i s .outOfRange 1) ∧
    (1 ≤ sel → sel ≤ 20 →
      (busy → Refuses i s .busy) ∧
      (¬busy →
        (¬(-2000 ≤ zero ∧ zero ≤ 2000) → Refuses i s .outOfRange 2) ∧
        (-2000 ≤ zero → zero ≤ 2000 →
          (¬(1 ≤ span ∧ span ≤ top) → Refuses i s .outOfRange 3) ∧
          (1 ≤ span → span ≤ top →
            ((1 < signed ∨ signed = 1 ∧ sel < 5) → Refuses i s .outOfRange 4) ∧
            (signed ≤ 1 → (signed = 1 → 5 ≤ sel) →
              Serves i s
                (fun u =>
                  { u with
                    fe := { u.fe with cals := u.fe.cals.set (sel - 1) cal }
                    s1 := if sel = 1 then { u.s1 with load := { u.s1.load with win := [] } } else u.s1
                    s2 := if sel = 2 then { u.s2 with load := { u.s2.load with win := [] } } else u.s2
                    winch := if sel = 3 then { u.winch with tension := { u.winch.tension with win := [] } } else u.winch
                    grout := if sel = 4 then { u.grout with pressure := { u.grout.pressure with win := [] } }
                      else u.grout })
                (.plain .ok)))))) ∧
    ((sel = 21 ∨ sel = 22) →
      let st : Stn := if sel = 21 then .s1 else .s2
      (1 < invert → Refuses i s .outOfRange 5) ∧
      (invert ≤ 1 → (s.stn st).state ≠ .idle → Refuses i s .busy) ∧
      (invert ≤ 1 → (s.stn st).state = .idle →
        (signed ≠ 0 → Refuses i s .outOfRange 4) ∧
        (signed = 0 →
          Serves i s
            (fun u =>
              { u with
                fe :=
                  { u.fe with
                    invert1 := if sel = 21 then decide (invert = 1) else u.fe.invert1
                    invert2 := if sel = 22 then decide (invert = 1) else u.fe.invert2 } }.setStn st
                { s.stn st with enc := { (s.stn st).enc with win := [] } })
            (.plain .ok))))

/-- R92, R93, R134: SET_STATIONS. The checks in their order; the four enables are written at once, a station that
becomes disabled is emptied with its guards, its applied demand and its fault group, TRIP is judged again, and a G
that becomes enabled lets the arbiter act.
(The published paid length of a disabled winch: log 37; a seat pulse that still runs at a disabling: log 33.) -/
def Obligations.SetStationsWritesTheEnables : Prop :=
  ∀ (tag a b c d : Nat) (s : State), s.accepts (.setStations tag a b c d) →
    let i : Instr := .setStations tag a b c d
    let was := s.site.enables
    let idle := [decide (was.s1 = true ∧ a = 0 → s.s1.state = .idle), decide (was.s2 = true ∧ b = 0 → s.s2.state = .idle),
      decide (was.w = true ∧ c = 0 → s.winch.state = .idle), decide (was.g = true ∧ d = 0 → s.grout.state = .idle)]
    (∀ k, [a, b, c, d].findIdx? (fun v => decide (1 < v)) = some k → Refuses i s .outOfRange (k + 1)) ∧
    (a ≤ 1 → b ≤ 1 → c ≤ 1 → d ≤ 1 →
      (∀ k, idle.findIdx? (fun ok => !ok) = some k → Refuses i s .busy (k + 1)) ∧
      (idle.all (fun ok => ok) = true →
        let off (was : Bool) (v : Nat) : Bool := was && v == 0
        let bits : BitVec 20 := (if off was.s1 a then 0x0000F#20 else 0#20) ||| (if off was.s2 b then 0x000F0#20 else 0#20) |||
          (if off was.w c then 0x00300#20 else 0#20) ||| (if off was.g d then 0x03C00#20 else 0#20)
        let groups : BitVec 6 := (if off was.s1 a then 1#6 else 0#6) ||| (if off was.s2 b then 2#6 else 0#6) |||
          (if off was.w c then 4#6 else 0#6) ||| (if off was.g d then 8#6 else 0#6)
        Serves i s
          (fun u =>
            let v := State.judgeTrip
              { u with
                site := { u.site with enables := ⟨a == 1, b == 1, c == 1, d == 1⟩ }
                s1 := if off was.s1 a then u.s1.disable else u.s1
                s2 := if off was.s2 b then u.s2.disable else u.s2
                winch := if off was.w c then u.winch.disable else u.winch
                grout := if off was.g d then u.grout.disable else u.grout
                faults := { u.faults with det := u.faults.det &&& ~~~bits, comb := u.faults.comb &&& ~~~groups } }
            if was.g = false ∧ d = 1 then v.arbiter else v)
          (.plain .ok))) ∧
    (∀ x : Station,
      x.disable.load = ⟨[], none⟩ ∧ x.disable.enc = { x.enc with count := 0, win := [], mark := none } ∧
      x.disable.ovl.count = 0 ∧
      x.disable.nbr = x.nbr.map (fun g => { g with count := 0 }) ∧ x.disable.pump = ⟨x.pump.cmd, 0⟩ ∧
      x.disable.passed = x.passed ∧ x.disable.state = x.state ∧ x.disable.ctx = x.ctx ∧ x.disable.seat = x.seat ∧
      x.disable.relCmd = x.relCmd) ∧
    (∀ w : Winch,
      w.disable.tension = ⟨[], none⟩ ∧ w.disable.drum = 0 ∧ w.disable.paid = 0 ∧ w.disable.jam.count = 0 ∧
      w.disable.slack.count = 0 ∧ w.disable.state = w.state ∧ w.disable.run = w.run) ∧
    (∀ g : Grout,
      g.disable.pressure = ⟨[], none⟩ ∧ g.disable.flow.stray = 0 ∧ g.disable.flow.published = 0 ∧
      g.disable.refusal.count = 0 ∧ g.disable.overp.count = 0 ∧ g.disable.pump = ⟨g.pump.cmd, 0⟩ ∧
      (∀ v ∈ g.disable.valves, v.cmd = false ∧ (v.state = .closed ∨ v.state = .closing)) ∧ g.disable.queue = g.queue ∧ g.disable.ports = g.ports ∧
      g.disable.state = g.state)

/-- R80, R83 to R86, R88, R138: ENCODER_EDGE, DRUM_PULSE, FLOW_PULSE, NO_FLOW_TIME and PWM_PERIOD_START.
(The rig asserts the pulses, the period start and NO_FLOW_TIME: log 2; which edges count up: log 14; input filters are
left out: log 13; the levels of the encoder lines move while the part does not run: log 21; a stray pulse after the leak limit was lowered: log 17.) -/
def Obligations.PulsesAndPeriodsAreCounted : Prop :=
  (∀ (s : State) (st : Stn) (line : EncLine), s.phase ≠ .running →
    let e := (s.stn st).enc
    let moved : Encoder :=
      { e with a := (if line = .b then e.a else !e.a), b := (if line = .a then e.b else !e.b) }
    exec (.encoderEdge st line) s = .next (s.setStn st { s.stn st with enc := moved })) ∧
  ∀ s : State, s.phase = .running →
    (∀ st : Stn,
      let x := s.stn st
      let inv := match st with | .s1 => s.fe.invert1 | .s2 => s.fe.invert2
      let after (line : EncLine) : Encoder :=
        { x.enc with a := (if line = .b then x.enc.a else !x.enc.a), b := (if line = .a then x.enc.b else !x.enc.b) }
      let up (line : EncLine) : Bool := if line = .a then (after .a).a != (after .a).b else (after .b).a == (after .b).b
      (-30000 ≤ x.enc.count → x.enc.count ≤ 30000 →
        exec (.encoderEdge st .both) s = .next (s.setStn st { x with enc := after .both })) ∧
      (∀ line, line ≠ .both →
        (s.enabled st = false → exec (.encoderEdge st line) s = .next (s.setStn st { x with enc := after line })) ∧
        (s.enabled st = true →
          let n := x.enc.count + (if up line != inv then 1 else -1)
          (-30000 ≤ n → n ≤ 30000 →
            exec (.encoderEdge st line) s = .next (s.setStn st { x with enc := { after line with count := n } })) ∧
          ((n < -30000 ∨ 30000 < n) →
            exec (.encoderEdge st line) s =
              .next ((s.setStn st { x with enc := after line }).raise (.encoderRange st)))))) ∧
    (∀ high : Bool,
      let n := s.winch.drum + (if high then 1 else -1)
      exec (.drumPulse high) s =
        .next { s with winch :=
          { s.winch with
            drum :=
              if s.site.enables.w = false then s.winch.drum
              else if n < -9999999 then -9999999 else if 9999999 < n then 9999999 else n } }) ∧
    (∀ period : Nat, 1 ≤ period →
      let f := s.grout.flow
      let q := s.site.settings.quantum
      let flow := if f.timed then min 2000 ((2 * (q * 600000) + period) / (2 * period)) else f.published
      (s.site.enables.g = false → exec (.flowPulse period) s = .next s) ∧
      (∀ p, s.site.enables.g = true → s.grout.windowOpen = true → s.grout.pass = some p →
        let volume := min 9999999 (p.volume + q)
        let v := { s with grout :=
          { s.grout with
            flow := { f with published := flow, timed := true }
            pass := some { p with volume := volume, peakFlow := max p.peakFlow flow, noFlow := none } } }
        exec (.flowPulse period) s =
          .next (if s.grout.state = .pumping ∧ p.cap ≤ volume then v.endPass .volumeReached else v)) ∧
      (s.site.enables.g = true → s.grout.windowOpen = false →
        let n := min 255 (f.stray + 1)
        let leak := s.site.settings.leakLimit ≤ n ∧ (f.stray < s.site.settings.leakLimit ∨ f.lowered = true)
        let v := { s with grout := { s.grout with flow := { f with stray := n, lowered := f.lowered && !decide leak } } }
        exec (.flowPulse period) s = .next (if leak then v.raise .valveLeak else v))) ∧
    exec .noFlowTime s =
      .next (if s.grout.windowOpen then
        { s with grout := { s.grout with flow := { s.grout.flow with published := 0, timed := false } } } else s) ∧
    (let e := s.site.enables
     let applied (p : PumpOut) (on : Bool) : PumpOut := ⟨p.cmd, if s.faults.trip || s.faults.emergency.set || !on then 0 else p.cmd⟩
     exec .pwmPeriodStart s =
      .next
        { s with
          s1 := { s.s1 with pump := applied s.s1.pump e.s1 }
          s2 := { s.s2 with pump := applied s.s2.pump e.s2 }
          grout := { s.grout with pump := applied s.grout.pump e.g }.judgeFlow }) ∧
    (∀ g : Grout,
      (g.windowOpen = true ↔ (∃ v ∈ g.valves, v.state = .opened) ∧ 0 < g.pump.applied) ∧
      (g.windowOpen = g.flow.isOpen → g.judgeFlow = g) ∧
      (g.windowOpen ≠ g.flow.isOpen →
        g.judgeFlow = { g with flow := { g.flow with published := 0, isOpen := g.windowOpen, timed := false } }))

/-! ## The winch -/

/-- R118, R119: WINCH_RUN. The checks in their order; an accepted run zeroes the drum count, builds its context with
the target formed from the anchor, removes interrupted, and enters PAYING with both guard counts at 0.
R83, R95, R110, R120 to R125: WINCH_STOP, WINCH_JAM_TRIP, WINCH_SLACK_TRIP, BRAKE_INTERVAL_EXPIRY. A stop or a trip
ends a run in PAYING: at a trip's sample the length is formed from the drum count and the
peak raised, and a trip at a length that has
reached the target ends the run REACHED; the slack guard is active from 200 cm on. In STOPPING a stop is answered OK
and changes nothing; at the expiry the result is written, a REACHED run makes the anchor PLACED, RUN_ENDED is raised,
and W is IDLE. A jam trip in SELFTEST ends the self-test.
(The rig asserts the trips and the expiry, and a trip counts no sample of a self-test: log 2; the threshold last
evaluated stays at a trip row: log 38; the brake interval counts the samples of STOPPING: log 12.) -/
def Obligations.WinchRunsStartAndEnd : Prop :=
  (∀ (tag a : Nat) (s : State), s.accepts (.winchRun tag a) →
    let i : Instr := .winchRun tag a
    (s.site.enables.w = false → Refuses i s .disabled) ∧
    (s.site.enables.w = true →
      (s.winch.state ≠ .idle → Refuses i s .busy) ∧
      (s.winch.state = .idle →
        (s.faults.emergency.set = true → Refuses i s .emergency) ∧
        (s.faults.emergency.set = false →
          ((s.faults.trip = true ∨ s.combined 3 = true) → Refuses i s .faulted) ∧
          (s.faults.trip = false → s.combined 3 = false →
            (s.entry a = none → Refuses i s .noSuchAnchor) ∧
            (∀ e, s.entry a = some e →
              (e.stage ≠ .declared → Refuses i s .wrongStage) ∧
              (e.stage = .declared →
                let run : Run :=
                  { anchor := e.decl.id, target := e.decl.lFree + e.decl.lBond + s.site.settings.headAllowance
                    reason := none, halt := none, peak := 0, brakeSamples := 0 }
                Serves i s
                  (fun u =>
                    { u with
                      reg := u.reg.map fun x => if x.decl.id == e.decl.id then { x with interrupted := none } else x
                      winch :=
                        { u.winch with
                          state := .paying, run := some run, drum := 0, jam := { u.winch.jam with count := 0 }
                          slack := { u.winch.slack with count := 0 } } })
                  (.plain .accepted)))))))) ∧
  (∀ s : State,
    let w := s.winch
    let ended (u : State) (reason : RunEnd) : State :=
      { u with winch :=
        { u.winch with
          state := .stopping, jam := { u.winch.jam with count := 0 }, slack := { u.winch.slack with count := 0 }
          run := u.winch.run.map fun r => { r with reason := some reason, halt := none, brakeSamples := 0 } } }
    let length := roundAway (w.drum * s.site.settings.drumMm) 100
    let peaked (r : Run) : Run := { r with peak := if w.tension.win = [] then r.peak else max r.peak w.tension.level }
    let formed : State := { s with winch := { w with paid := length, run := w.run.map peaked } }
    let there (reason : RunEnd) : RunEnd :=
      if w.run.any (fun r => decide ((r.target : Int) ≤ length)) then .reached else reason
    (∀ tag, s.accepts (.winchStop tag) →
      (s.site.enables.w = false → Refuses (.winchStop tag) s .disabled) ∧
      (s.site.enables.w = true →
        ((w.state = .idle ∨ w.state = .selftest) → Refuses (.winchStop tag) s .wrongStage) ∧
        (w.state = .paying → Serves (.winchStop tag) s (fun u => ended u .stopped) (.plain .ok)) ∧
        (w.state = .stopping → Serves (.winchStop tag) s (fun u => u) (.plain .ok)))) ∧
    (s.phase = .running →
      (w.state = .paying →
        exec .winchJamTrip s = .next (ended formed (there .jammed)) ∧
        (200 ≤ length → exec .winchSlackTrip s = .next (ended formed (there .slack))) ∧
        (length < 200 → exec .winchSlackTrip s = .next s)) ∧
      ((w.state = .idle ∨ w.state = .stopping) →
        exec .winchJamTrip s = .next s ∧ exec .winchSlackTrip s = .next s) ∧
      (w.state = .selftest → exec .winchSlackTrip s = .next s) ∧
      (∀ t, w.state = .selftest → w.self = some t →
        exec .winchJamTrip s = .next (s.endSelftest .jam (some t.count))) ∧
      (w.state ≠ .stopping → exec .brakeIntervalExpiry s = .next s) ∧
      (∀ r reason, w.state = .stopping → w.run = some r → r.reason = some reason →
        let result : WinchResult := ⟨reason, w.paid, r.peak⟩
        let done (e : Entry) : Entry :=
          { e with winch := some result, stage := if reason = .reached then .placed else e.stage }
        let after : State :=
          { s with
            reg := s.reg.map fun e => if e.decl.id == r.anchor then done e else e
            winch := { w with state := .idle, run := none } }
        exec .brakeIntervalExpiry s =
          .next (after.notice .runEnded .w (some r.anchor) (reason.code + 256 * (r.halt.map (·.code)).getD 0)))) ∧
    (∀ r, w.run = some r →
      let raised := if w.tension.win = [] then r.peak else max r.peak w.tension.level
      (w.state = .stopping →
        s.winchSample =
          { s with winch := { w with run := some { r with peak := raised, brakeSamples := r.brakeSamples + 1 } } }) ∧
      (w.state = .paying → (r.target : Int) ≤ w.paid →
        let t := s.winchSample
        t.winch.state = .stopping ∧
          t.winch.run = some { r with peak := raised, reason := some .reached, halt := none, brakeSamples := 0 } ∧
          t = { s with winch := t.winch }))) ∧
  [RunEnd.reached, .jammed, .slack, .stopped, .halted].map RunEnd.code = [1, 2, 3, 4, 5] ∧
  [HaltCause.trip, .emergency, .linkLost].map HaltCause.code = [1, 2, 3]

/-! ## The grout manifold -/

/-- R130: RELEASE_PORT. A port outside 1 to 6 and the port of the active pass are refused; otherwise the port is empty, and
nothing else changes: not the queue, not a stage, and no request is served; the arbiter passes over a request whose
anchor has no port. It is served while G is disabled, and not
while the LINK_LOST state is set. -/
def Obligations.ReleasePortEmptiesThePort : Prop :=
  ∀ (tag port : Nat) (s : State),
    let i : Instr := .releasePort tag port
    (s.accepts i →
      ((port = 0 ∨ 6 < port) → Refuses i s .outOfRange 1) ∧
      (∀ p, 1 ≤ port → port ≤ 6 → s.grout.pass = some p → p.port = port → Refuses i s .busy) ∧
      ((∀ p, s.grout.pass = some p → p.port ≠ port) → 1 ≤ port → port ≤ 6 →
        Serves i s (fun u => { u with grout := { u.grout with ports := u.grout.ports.set (port - 1) none } }) (.plain .ok) ∧
        (s.grout.ports[port - 1]? = some none → Serves i s (fun u => u) (.plain .ok)))) ∧
    (s.phase = .running → s.link.reply = none → s.link.queue = [] → s.link.lost = true → Refuses i s .linkLost) ∧
    (∀ q ∈ s.grout.queue, s.portOf q.anchor = none → q ∈ s.arbiter.grout.queue)

/-- R129, R131 to R133: ASSIGN_PORT, GROUT_REQUEST and GROUT_CANCEL. The checks in their order; the port takes the anchor, or
a PRIMARY request joins the end of the queue, and the arbiter acts; a cancelled request leaves the queue. -/
def Obligations.PortsAndTheGroutQueue : Prop :=
  ∀ (tag port a : Nat) (s : State),
    let assign : Instr := .assignPort tag port a
    let request : Instr := .groutRequest tag a
    let cancel : Instr := .groutCancel tag a
    let active := ∃ p, s.grout.pass = some p ∧ p.anchor = a
    let queued := ∃ q ∈ s.grout.queue, q.anchor = a
    let full := 8 ≤ s.grout.queue.length
    let primaries (e : Entry) : Nat := (e.passes.filter fun p => p.kind == .primary).length
    (s.accepts assign →
      ((port = 0 ∨ 6 < port) → Refuses assign s .outOfRange 1) ∧
      (1 ≤ port → port ≤ 6 →
        ((∃ p, s.grout.pass = some p ∧ p.port = port) → Refuses assign s .busy) ∧
        ((∀ p, s.grout.pass = some p → p.port ≠ port) →
          (s.entry a = none → Refuses assign s .noSuchAnchor) ∧
          (s.entry a ≠ none →
            (s.grout.ports[port - 1]? = some (some a) → Serves assign s (fun u => u) (.plain .ok)) ∧
            (∀ b, s.grout.ports[port - 1]? = some (some b) → b ≠ a → Refuses assign s .busy b) ∧
            (s.grout.ports[port - 1]? = some none →
              (∀ q, s.portOf a = some q → Refuses assign s .duplicate q) ∧
              (s.portOf a = none →
                Serves assign s
                  (fun u =>
                    State.arbiter { u with grout := { u.grout with ports := u.grout.ports.set (port - 1) (some a) } })
                  (.plain .ok))))))) ∧
    (s.accepts request →
      (s.site.enables.g = false → Refuses request s .disabled) ∧
      (s.site.enables.g = true →
        (full → Refuses request s .full) ∧
        (¬full →
          ((queued ∨ active) → Refuses request s .duplicate) ∧
          (¬queued → ¬active →
            (s.entry a = none → Refuses request s .noSuchAnchor) ∧
            (∀ e, s.entry a = some e →
              (e.stage ≠ .placed → Refuses request s .wrongStage) ∧
              (e.stage = .placed →
                (3 ≤ primaries e → Refuses request s .attemptsExhausted) ∧
                (primaries e < 3 →
                  (s.portOf a = none → Refuses request s .noPort) ∧
                  (s.portOf a ≠ none →
                    (s.site.clockValid = false → Refuses request s .clockUnset) ∧
                    (s.site.clockValid = true →
                      Serves request s
                        (fun u =>
                          State.arbiter
                            { u with grout :=
                              { u.grout with queue := u.grout.queue ++ [⟨a, .primary, u.site.clock⟩] } })
                        (.plain .ok (s.grout.queue.length + 1))))))))))) ∧
    (s.accepts cancel →
      (active → Refuses cancel s .busy) ∧
      (¬active → ¬queued → Refuses cancel s .wrongStage) ∧
      (∀ front q back, ¬active → s.grout.queue = front ++ q :: back → q.anchor = a → (∀ r ∈ front, r.anchor ≠ a) →
        Serves cancel s (fun u => { u with grout := { u.grout with queue := front ++ back } }) (.plain .ok)))

/-- R134, R135: ARBITER_SERVE and the arbiter. It serves nothing while a condition fails or no request is eligible; else it
serves the request nearest the front that has a port: the request leaves the queue, the pass context and the entry's
pass in progress are built, G is STARTING with the port valve commanded open, and PASS_STARTED is raised. -/
def Obligations.ArbiterServesTheOldestEligible : Prop :=
  ∀ s : State,
    let ready := s.grout.state = .idle ∧ s.grout.pass = none ∧ s.site.enables.g = true ∧ s.faults.trip = false ∧
      s.faults.emergency.set = false ∧ s.link.lost = false ∧ s.combined 4 = false
    (s.phase = .running → exec .arbiterServe s = .next s.arbiter) ∧
    (¬ready → s.arbiter = s) ∧
    ((∀ r ∈ s.grout.queue, s.portOf r.anchor = none) → s.arbiter = s) ∧
    (∀ front r back port e, ready → s.grout.queue = front ++ r :: back → (∀ q ∈ front, s.portOf q.anchor = none) →
      s.portOf r.anchor = some port → s.entry r.anchor = some e → (∀ q ∈ front, q.anchor ≠ r.anchor) →
      let post := e.decl.post.getD default
      let pass : Pass :=
        { anchor := r.anchor, kind := r.kind, port := port, start := s.site.clock
          cap := if r.kind = .primary then e.decl.volCap else post.volCap
          refusal := if r.kind = .primary then e.decl.refusal else post.refusal
          volume := 0, peakPressure := 0, peakFlow := 0, causes := .none, pauseSamples := 0, pauseLimit := 0
          noFlow := none, reason := none, endTime := none }
      let served (e : Entry) : Entry :=
        { e with
          pass := some ⟨r.kind, port, s.site.clock⟩, interrupted := none
          stage := if r.kind = .primary then .grouting else e.stage
          postDue := if r.kind = .post then false else e.postDue }
      let after : State :=
        { s with
          reg := s.reg.map fun e => if e.decl.id == r.anchor then served e else e
          grout :=
            ({ s.grout with
              queue := front ++ back, pass := some pass, state := .starting
              refusal := { s.grout.refusal with count := 0 }, overp := { s.grout.overp with count := 0 } }.modValve
              port Valve.openCmd).judgeFlow }
      s.arbiter = after.notice .passStarted .g (some r.anchor)
        ((match r.kind with | .primary => 1 | .post => 2) + 256 * port))

/-- R138, R140 to R143: GROUT_STOP, GROUT_PAUSE and GROUT_RESUME. A stop ends the pass STOPPED; a pause commands the pump 0
and the valve closed and starts the pause timer, and in PAUSED only adds its cause; a resume removes HOST and opens the
valve again, unless a condition cause or the GROUT combined flag stands. -/
def Obligations.PassesStopPauseAndResume : Prop :=
  ∀ (tag : Nat) (s : State),
    let stop : Instr := .groutStop tag
    let pause : Instr := .groutPause tag
    let resume : Instr := .groutResume tag
    let st := s.grout.state
    (s.site.enables.g = false →
      (s.accepts stop → Refuses stop s .disabled) ∧ (s.accepts pause → Refuses pause s .disabled) ∧
      (s.accepts resume → Refuses resume s .disabled)) ∧
    (s.site.enables.g = true →
      (s.accepts stop →
        ((st = .idle ∨ st = .selftest) → Refuses stop s .wrongStage) ∧
        ((st = .starting ∨ st = .pumping ∨ st = .paused) → Serves stop s (fun u => u.endPass .stopped) (.plain .ok)) ∧
        (st = .ending → Serves stop s (fun u => u) (.plain .ok))) ∧
      (s.accepts pause →
        ((st = .idle ∨ st = .selftest ∨ st = .ending) → Refuses pause s .wrongStage) ∧
        (∀ p, s.grout.pass = some p →
          let causes := { p.causes with host := true }
          ((st = .starting ∨ st = .pumping) →
            let paused : Pass :=
              { p with causes := causes, noFlow := none, pauseSamples := 0, pauseLimit := s.site.settings.pauseLimit }
            Serves pause s
              (fun u =>
                { u with grout :=
                  ({ u.grout with
                    state := .paused, pass := some paused, refusal := { u.grout.refusal with count := 0 }
                    pump := { u.grout.pump with cmd := 0 } }.modValve p.port Valve.closeCmd).judgeFlow })
              (.plain .ok)) ∧
          (st = .paused →
            Serves pause s (fun u => { u with grout := { u.grout with pass := some { p with causes := causes } } })
              (.plain .ok)))) ∧
      (s.accepts resume →
        (st ≠ .paused → Refuses resume s .wrongStage) ∧
        (∀ p, st = .paused → s.grout.pass = some p →
          ((p.causes.trip = true ∨ p.causes.emergency = true ∨ p.causes.linkLost = true) →
            Refuses resume s .conditionPresent p.causes.bits) ∧
          (p.causes.trip = false → p.causes.emergency = false → p.causes.linkLost = false →
            (s.combined 4 = true → Refuses resume s .faulted) ∧
            (s.combined 4 = false →
              let resumed : Pass := { p with causes := { p.causes with host := false } }
              Serves resume s
                (fun u =>
                  { u with grout :=
                    ({ u.grout with state := .starting, pass := some resumed }.modValve p.port Valve.openCmd).judgeFlow })
                (.plain .ok))))))

/-- R90, R136 to R139, R142, R144: VALVE_TRAVEL_END, NO_FLOW, PAUSE_EXPIRED, GROUT_REFUSAL_TRIP and GROUT_OVERPRESSURE_TRIP.
An opened valve starts the pump and the no-flow timer; a trip raises the peak
pressure, as its sample does; an end event sets the reason and the end time, stops the pump and
closes the valve, and the pass completes when the valve is CLOSED: the entry takes its pass list item, its stage and its
count, PASS_ENDED is raised, and the arbiter acts. A valve keeps R90's state from the commands and the ends of its travel; a
command in its present direction leaves the state.
(The rig asserts these events: log 2; OVERPRESSURE is raised before the pass ends: log 8; the threshold last evaluated
stays at a trip row: log 38.) -/
def Obligations.PassesEndAndComplete : Prop :=
  (∀ (s : State) (p : Pass), s.phase = .running → s.grout.pass = some p →
    let g := s.grout
    let travelled := (g.modValve p.port Valve.travelEnd).judgeFlow
    let peak := if g.pressure.win = [] then p.peakPressure else max p.peakPressure g.pressure.level
    let peaked : Grout := { g with pass := some { p with peakPressure := peak } }
    ((g.valve p.port).state = .opening → g.state = .starting →
      exec (.valveTravelEnd p.port) s =
        .next { s with grout :=
          { travelled with
            state := .pumping, pump := { g.pump with cmd := 1000 }
            pass := some { p with noFlow := some (0, s.site.settings.noFlowTime) } } }) ∧
    ((g.valve p.port).state = .closing → g.state = .ending →
      exec (.valveTravelEnd p.port) s = .next ({ s with grout := travelled }.completePass)) ∧
    (∀ port, (port ≠ p.port ∨ (g.valve port).state = .opened ∨ (g.valve port).state = .closed ∨
        g.state ≠ .starting ∧ g.state ≠ .ending) →
      exec (.valveTravelEnd port) s = .next { s with grout := (g.modValve port Valve.travelEnd).judgeFlow }) ∧
    (∀ t, g.state = .pumping → p.noFlow = some t → exec .noFlow s = .next (s.endPass .noFlow)) ∧
    (p.noFlow = none → exec .noFlow s = .next s) ∧
    (g.state ≠ .pumping → exec .noFlow s = .next s ∧ exec .groutRefusalTrip s = .next s) ∧
    (g.state = .pumping → exec .groutRefusalTrip s = .next ({ s with grout := peaked }.endPass .refusal)) ∧
    (g.state = .paused → exec .pauseExpired s = .next (s.endPass .pauseExpired)) ∧
    (g.state ≠ .paused → exec .pauseExpired s = .next s) ∧
    (g.state ≠ .selftest →
      let counted : State := { s with grout := { peaked with overp := { g.overp with count := 0 } } }
      exec .groutOverpressureTrip s = .next ((counted.raise .overpressure).endPass .fault)) ∧
    (∀ reason,
      let ending := { s with grout :=
        ({ g with
          state := .ending, pass := some { p with reason := some reason, endTime := s.now, noFlow := none }
          refusal := { g.refusal with count := 0 }, pump := { g.pump with cmd := 0 } }.modValve
          p.port Valve.closeCmd).judgeFlow }
      ((g.state = .starting ∨ g.state = .pumping ∨ g.state = .paused) →
        s.endPass reason = if (ending.grout.valve p.port).state = .closed then ending.completePass else ending) ∧
      ((g.state = .idle ∨ g.state = .ending ∨ g.state = .selftest) → s.endPass reason = s)) ∧
    (∀ reason, p.reason = some reason →
      let item : PassEntry := ⟨p.kind, p.port, p.start, p.endTime, some p.volume, some p.peakPressure, some p.peakFlow, reason⟩
      let passEnded (e : Entry) : Entry :=
        { e with
          passes := e.passes ++ [item], pass := none
          stage := if p.kind = .post then e.stage else if reason = .volumeReached then .grouted else .placed
          primaryEnd := if p.kind = .primary ∧ reason = .volumeReached then p.endTime else e.primaryEnd
          postDone := if p.kind = .post then e.postDone + 1 else e.postDone }
      let after : State :=
        { s with
          reg := s.reg.map fun e => if e.decl.id == p.anchor then passEnded e else e
          grout :=
            { g with
              state := .idle, pass := none, refusal := { g.refusal with count := 0 }
              overp := { g.overp with count := 0 } } }
      s.completePass = (after.notice .passEnded .g (some p.anchor) (p.kind.code + 256 * reason.code)).arbiter)) ∧
  (∀ s : State, s.phase = .running → s.grout.pass = none →
    (∀ port, exec (.valveTravelEnd port) s = .next { s with grout := (s.grout.modValve port Valve.travelEnd).judgeFlow }) ∧
    exec .noFlow s = .next s ∧ exec .groutRefusalTrip s = .next s ∧ exec .pauseExpired s = .next s ∧
    (s.grout.state ≠ .selftest → exec .groutOverpressureTrip s = .next s)) ∧
  (∀ (s : State) (t : SelfTest), s.phase = .running → s.grout.state = .selftest → s.grout.self = some t →
    exec .groutOverpressureTrip s = .next (s.endSelftest .overpressure (some t.count))) ∧
  (∀ v : Valve,
    ((v.state = .closed ∨ v.state = .closing) → v.openCmd = ⟨.opening, true⟩) ∧
    ((v.state = .opening ∨ v.state = .opened) → v.openCmd = ⟨v.state, true⟩) ∧
    ((v.state = .opening ∨ v.state = .opened) → v.closeCmd = ⟨.closing, false⟩) ∧
    ((v.state = .closed ∨ v.state = .closing) → v.closeCmd = ⟨v.state, false⟩) ∧
    (v.state = .opening → v.travelEnd = ⟨.opened, v.cmd⟩) ∧ (v.state = .closing → v.travelEnd = ⟨.closed, v.cmd⟩) ∧
    ((v.state = .opened ∨ v.state = .closed) → v.travelEnd = v)) ∧
  (∀ (g : Grout) (port : Nat) (f : Valve → Valve), 1 ≤ port → port ≤ g.valves.length →
    let h := g.modValve port f
    h = { g with valves := h.valves } ∧ h.valves.length = g.valves.length ∧ h.valve port = f (g.valve port) ∧
    ∀ other, 1 ≤ other → other ≠ port → h.valve other = g.valve other) ∧
  [PassKind.primary, .post].map PassKind.code = [1, 2] ∧
  [PassEnd.volumeReached, .noFlow, .refusal, .stopped, .fault, .pauseExpired, .interrupted].map PassEnd.code =
    [1, 2, 3, 4, 5, 6, 7]

/-! ## Faults, self-tests and the emergency state -/

/-- R93, R95, R98 to R100, R102, R103, R106 to R108, R134: CLEAR_FAULT, CLEAR_GROUP and a raise. A raise latches its flag,
sets the combined flag unless masked, and hands FAULT_RAISED, with the anchor of the test, run or pass of its origin,
when it latches from clear; into a disabled station's
group it does nothing. CLEAR_FAULT clears a flag whose condition has gone, and answers OK with no change in such a
group; CLEAR_GROUP clears a combined flag whose flags are all clear. TRIP is judged again at a raise and at a cleared
group: asserted, it forces the pumps off and is handed to every station, and while EMERGENCY is set the port valves
stay forced closed; deasserted, its cause is dropped and the arbiter acts, EMERGENCY set or not. The condition of each
flag is that of the table of R98.
(The tilt limit by which the condition of TILT_EXCEEDED is judged is the one of the latest evaluation, as log 34 reads
R95 and R152; a port valve's command under the force of EMERGENCY: log 22; FAULT_RAISED comes before the effects of TRIP: log 26.) -/
def Obligations.FlagsLatchClearAndTrip : Prop :=
  (∀ (tag g k : Nat) (s : State), s.accepts (.clearFault tag g k) →
    ((g = 0 ∨ 6 < g) → Refuses (.clearFault tag g k) s .outOfRange 1) ∧
    (1 ≤ g → g ≤ 6 →
      ((∀ f ∈ Flag.all, f.group = g → f.code ≠ k) → Refuses (.clearFault tag g k) s .outOfRange 2) ∧
      (∀ f ∈ Flag.all, f.group = g → f.code = k →
        (s.groupLive g = false → Serves (.clearFault tag g k) s (fun u => u) (.plain .ok)) ∧
        (s.groupLive g = true → s.flag f = true → s.condition f = true →
          Refuses (.clearFault tag g k) s .conditionPresent k) ∧
        (s.groupLive g = true → (s.flag f = false ∨ s.condition f = false) →
          Serves (.clearFault tag g k) s
            (fun u => { u with faults := { u.faults with det := u.faults.det &&& ~~~BitVec.twoPow 20 f.bit } })
            (.plain .ok))))) ∧
  (∀ (tag g : Nat) (s : State), s.accepts (.clearGroup tag g) →
    ((g = 0 ∨ 6 < g) → Refuses (.clearGroup tag g) s .outOfRange 1) ∧
    (∀ f ∈ Flag.all, f.group = g → s.flag f = true → (∀ h ∈ Flag.all, h.group = g → s.flag h = true → f.code ≤ h.code) →
      Refuses (.clearGroup tag g) s .flagsRemain f.code) ∧
    (1 ≤ g → g ≤ 6 → (∀ f ∈ Flag.all, f.group = g → s.flag f = false) →
      (s.combined g = false → Serves (.clearGroup tag g) s (fun u => u) (.plain .ok)) ∧
      (s.combined g = true →
        Serves (.clearGroup tag g) s
          (fun u =>
            let v := State.judgeTrip
              { u with faults := { u.faults with comb := u.faults.comb &&& ~~~BitVec.twoPow 6 (g - 1) } }
            if g = 4 then v.arbiter else v)
          (.plain .ok)))) ∧
  (Flag.all =
      [.overload .s1, .loadOpen .s1, .loadOver .s1, .encoderRange .s1, .overload .s2, .loadOpen .s2, .loadOver .s2,
       .encoderRange .s2, .tensionOpen, .tensionOver, .overpressure, .pressureOpen, .pressureOver, .valveLeak,
       .tiltExceeded, .monitorSensor, .linkLost, .selftestFailed, .archiveWrite, .clockLost] ∧
    (Flag.all.map fun f => (f.group, f.code)) =
      [(1, 1), (1, 2), (1, 3), (1, 4), (2, 1), (2, 2), (2, 3), (2, 4), (3, 5), (3, 6), (4, 7), (4, 8), (4, 9), (4, 10),
       (5, 11), (5, 12), (6, 13), (6, 14), (6, 15), (6, 16)] ∧
    Flag.all.map Flag.bit = List.range 20 ∧
    (∀ (s : State) (f : Flag) (g : Nat),
      s.flag f = s.faults.det.getLsbD f.bit ∧ s.combined g = s.faults.comb.getLsbD (g - 1)) ∧
    ∀ s : State, s.groupLive 1 = s.site.enables.s1 ∧ s.groupLive 2 = s.site.enables.s2 ∧
      s.groupLive 3 = s.site.enables.w ∧ s.groupLive 4 = s.site.enables.g ∧ s.groupLive 5 = true ∧
      s.groupLive 6 = true) ∧
  (∀ (s : State) (f : Flag),
    (s.groupLive f.group = false → s.raise f = s) ∧
    (s.groupLive f.group = true →
      let masked := s.site.limits.combMask.getLsbD f.bit
      let latched : State :=
        { s with faults :=
          { s.faults with
            det := s.faults.det ||| BitVec.twoPow 20 f.bit
            comb := if masked then s.faults.comb else s.faults.comb ||| BitVec.twoPow 6 (f.group - 1) } }
      let origin : Origin :=
        match f.group with
        | 1 => .s1 | 2 => .s2 | 3 => .w | 4 => .g | 5 => .wall | _ => if f = .archiveWrite then .archive else .system
      let anchor : Option Nat :=
        match f.group with
        | 1 => s.s1.ctx.map (·.anchor) | 2 => s.s2.ctx.map (·.anchor) | 3 => s.winch.run.map (·.anchor)
        | 4 => s.grout.pass.map (·.anchor) | _ => none
      let told := latched.notice .faultRaised origin anchor (f.group + 256 * f.code)
      s.raise f = State.judgeTrip
        (if s.flag f = false ∧ f ≠ .linkLost ∧ f ≠ .selftestFailed ∧ f ≠ .clockLost then told else latched))) ∧
  (∀ s : State, s.phase = .running →
    let line := decide (s.faults.comb &&& ~~~s.site.limits.tripMask ≠ 0#6)
    let pumps (u : State) : State :=
      { u with
        s1 := { u.s1 with pump := { u.s1.pump with applied := 0 } }
        s2 := { u.s2 with pump := { u.s2.pump with applied := 0 } }
        grout := { u.grout with pump := { u.grout.pump with applied := 0 } } }
    (line = s.faults.trip → s.judgeTrip = s) ∧
    (line = true → s.faults.trip = false → s.faults.emergency.set = false →
      let forced := pumps { s with faults := { s.faults with trip := true } }
      s.judgeTrip = { forced with grout := forced.grout.judgeFlow }.handCause .trip .trip) ∧
    (line = true → s.faults.trip = false → s.faults.emergency.set = true →
      let forced := pumps { s with faults := { s.faults with trip := true } }
      let closed : Grout := { forced.grout with valves := s.grout.valves.map Valve.closeCmd }
      s.judgeTrip = { forced with grout := closed.judgeFlow }.handCause .trip .trip) ∧
    (line = false → s.faults.trip = true →
      s.judgeTrip = ({ s with faults := { s.faults with trip := false } }.dropCause .trip).arbiter)) ∧
  (∀ s : State,
    let holds (f : Flag) (condition : Prop) : Prop := s.condition f = true ↔ condition
    (∀ st : Stn,
      let x := s.stn st
      holds (.overload st) (x.state = .fault) ∧ holds (.loadOpen st) (x.load.mark = some .isOpen) ∧
      holds (.loadOver st) (x.load.mark = some .isOver) ∧
      holds (.encoderRange st) (x.enc.count = 30000 ∨ x.enc.count = -30000)) ∧
    holds .tensionOpen (s.winch.tension.mark = some .isOpen) ∧ holds .tensionOver (s.winch.tension.mark = some .isOver) ∧
    holds .pressureOpen (s.grout.pressure.mark = some .isOpen) ∧
    holds .pressureOver (s.grout.pressure.mark = some .isOver) ∧
    holds .overpressure (s.site.limits.maxPressure ≤ s.grout.pressure.level) ∧
    holds .valveLeak (s.site.settings.leakLimit ≤ s.grout.flow.stray) ∧
    holds .tiltExceeded (∃ k b v limit, k < 16 ∧ (s.point (k + 1)).kind = .tilt ∧ (s.point (k + 1)).baseline = some b ∧
      s.scanned (k + 1) = .valid v ∧ (s.wall.tilt.getD k .rest).last = some limit ∧ (limit : Int) < |v - b|) ∧
    holds .monitorSensor (∃ k < 16, (s.point (k + 1)).kind ≠ .unused ∧
      (s.scanned (k + 1) = .isOpen ∨ s.scanned (k + 1) = .isOver)) ∧
    holds .linkLost (s.link.lost = true) ∧ holds .selftestFailed False ∧ holds .archiveWrite False ∧
    holds .clockLost (s.site.clockValid = false))

/-- R108, R114, R189 with R48, R49, R52, R120, R123, R141: a condition handed to the stations holds a test that ramps,
holds or seeks and joins the cause set of one that is held, seating or releasing; it halts a run in PAYING; it pauses
a pass that starts or pumps and joins the set of a paused one. Its end takes the cause from every test context and
every paused pass that holds it, but from no test in FAULT, whose set is frozen.
(The stations are reached in the order S1, S2, W, G: log 8; that R52's freeze goes before R48, R108, R115 and R191: log 27; the
elapsed hold and the top-ups of a held test read 0: log 32; its phase and its current target stay: log 39.) -/
def Obligations.ConditionsReachEveryStation : Prop :=
  (∀ (s : State) (c : Cause) (h : HaltCause),
    s.handCause c h = (((s.addCause c .s1).addCause c .s2).endRun .halted (some h)).addPassCause c) ∧
  (∀ (s : State) (c : Cause) (st : Stn),
    let x := s.stn st
    let joined (d : TestCtx) : TestCtx := { d with causes := d.causes.add c }
    (x.ctx = none → s.addCause c st = s) ∧
    (∀ d, x.ctx = some d →
      ((x.state = .ramping ∨ x.state = .holding ∨ x.state = .seeking) →
        s.addCause c st =
          (s.setStn st
            { x with
              state := .held, pump := { x.pump with cmd := 0 }, relCmd := false
              ctx := some { joined d with motion := none, holdSamples := 0, topUps := 0 } }).notice
            .testHeld st.origin (some d.anchor) (d.causes.add c).bits) ∧
      ((x.state = .held ∨ x.state = .seating ∨ x.state = .releasing) →
        s.addCause c st = s.setStn st { x with ctx := some (joined d) }) ∧
      ((x.state = .fault ∨ x.state = .unloading ∨ x.state = .idle ∨ x.state = .selftest) → s.addCause c st = s) ∧
      (x.state = .fault → s.removeCauseAt c st = s) ∧
      (x.state ≠ .fault →
        s.removeCauseAt c st = s.setStn st { x with ctx := some { d with causes := d.causes.remove c } })) ∧
    (x.ctx = none → s.removeCauseAt c st = s)) ∧
  (∀ (s : State) (r : RunEnd) (h : Option HaltCause),
    (s.winch.state ≠ .paying → s.endRun r h = s) ∧
    (∀ run, s.winch.state = .paying → s.winch.run = some run →
      s.endRun r h =
        { s with winch :=
          { s.winch with
            state := .stopping, run := some { run with reason := some r, halt := h, brakeSamples := 0 }
            jam := { s.winch.jam with count := 0 }, slack := { s.winch.slack with count := 0 } } })) ∧
  (∀ (s : State) (c : Cause) (p : Pass), s.grout.pass = some p →
    let joined : Pass := { p with causes := p.causes.add c }
    ((s.grout.state = .starting ∨ s.grout.state = .pumping) →
      s.addPassCause c =
        { s with grout :=
          ({ s.grout with
            state := .paused, refusal := { s.grout.refusal with count := 0 }, pump := { s.grout.pump with cmd := 0 }
            pass := some { joined with noFlow := none, pauseSamples := 0, pauseLimit := s.site.settings.pauseLimit } }.modValve
            p.port Valve.closeCmd).judgeFlow }) ∧
    (s.grout.state = .paused → s.addPassCause c = { s with grout := { s.grout with pass := some joined } }) ∧
    (s.grout.state = .ending → s.addPassCause c = s)) ∧
  (∀ (s : State) (c : Cause), s.grout.pass = none → s.addPassCause c = s) ∧
  (∀ d : CauseSet,
    d.add .host = { d with host := true } ∧ d.add .trip = { d with trip := true } ∧
    d.add .emergency = { d with emergency := true } ∧ d.add .linkLost = { d with linkLost := true } ∧
    d.add .neighbour = { d with neighbour := true } ∧ d.remove .host = { d with host := false } ∧
    d.remove .trip = { d with trip := false } ∧ d.remove .emergency = { d with emergency := false } ∧
    d.remove .linkLost = { d with linkLost := false } ∧ d.remove .neighbour = { d with neighbour := false } ∧
    d.bits = (if d.host then 1 else 0) + (if d.trip then 2 else 0) + (if d.emergency then 4 else 0) +
      (if d.linkLost then 8 else 0) + (if d.neighbour then 16 else 0)) ∧
  (∀ (s : State) (c : Cause),
    let u := (s.removeCauseAt c .s1).removeCauseAt c .s2
    s.dropCause c =
      { u with grout := { u.grout with pass := u.grout.pass.map fun p => { p with causes := p.causes.remove c } } })

/-- R109 to R111, R134: RUN_SELFTEST, SELFTEST_FAIL and the end of a self-test. The checks in their order; the station
enters SELFTEST with a fresh context and its guard at 0. A passed test writes its record with the sample count at the
trip and the time, returns the station to IDLE with its standing PASSED where it has one, and hands SELFTEST_DONE with
result 1; a failed test writes its record, its standing is DUE, and it hands result 2 and raises SELFTEST_FAILED;
after a test of G the arbiter acts. Each sample of the channel feeds the guard a value above its threshold, and the
test passes at the sample of the trip or fails at the sample N + 4; a sample of PRESSURE or TENSION in SELFTEST, published
as any other, does this and nothing else, as one of LOAD1 or LOAD2 does.
(The rig asserts SELFTEST_FAIL: log 2; a seat pulse that still runs goes on in SELFTEST: log 33.) -/
def Obligations.SelftestRunsAndEnds : Prop :=
  (∀ (tag g : Nat) (s : State), s.accepts (.runSelftest tag g) →
    let i : Instr := .runSelftest tag g
    let fresh : SelfTest := ⟨0, none, false⟩
    let go (enabled idle : Bool) (effect : State → State) : Prop :=
      (enabled = false → Refuses i s .disabled) ∧
      (enabled = true → idle = false → Refuses i s .busy) ∧
      (enabled = true → idle = true → s.faults.emergency.set = true → Refuses i s .emergency) ∧
      (enabled = true → idle = true → s.faults.emergency.set = false → Serves i s effect (.plain .accepted))
    ((g = 0 ∨ 4 < g) → Refuses i s .outOfRange 1) ∧
    (∀ st : Stn, g = st.code →
      go (s.enabled st) ((s.stn st).state == .idle)
        (fun u => u.setStn st
          { s.stn st with state := .selftest, self := some fresh, ovl := { (s.stn st).ovl with count := 0 } })) ∧
    (g = 3 → go s.site.enables.g (s.grout.state == .idle)
      (fun u => { u with grout :=
        { u.grout with state := .selftest, self := some fresh, overp := { u.grout.overp with count := 0 } } })) ∧
    (g = 4 → go s.site.enables.w (s.winch.state == .idle)
      (fun u => { u with winch :=
        { u.winch with state := .selftest, self := some fresh, jam := { u.winch.jam with count := 0 } } }))) ∧
  (∀ s : State, s.phase = .running →
    let failed (n : Nat) (u : State) : State :=
      { u with faults := { u.faults with records := u.faults.records.set (n - 1) (some ⟨false, none, s.now⟩) } }
    (∀ g, (g = 0 ∨ 4 < g) → exec (.selftestFail g) s = .next s) ∧
    (∀ st : Stn, (s.stn st).state ≠ .selftest → exec (.selftestFail st.code) s = .next s) ∧
    (s.grout.state ≠ .selftest → exec (.selftestFail 3) s = .next s) ∧
    (s.winch.state ≠ .selftest → exec (.selftestFail 4) s = .next s) ∧
    (∀ (st : Stn) t, (s.stn st).state = .selftest → (s.stn st).self = some t →
      exec (.selftestFail st.code) s =
        .next ((((failed st.code s).setStn st
          { s.stn st with state := .idle, self := none, ovl := { (s.stn st).ovl with count := 0 }, passed := false }).notice
          .selftestDone st.origin none (st.code + 512)).raise .selftestFailed)) ∧
    (∀ t, s.grout.state = .selftest → s.grout.self = some t →
      exec (.selftestFail 3) s =
        .next (((State.notice
          { failed 3 s with grout :=
            { s.grout with state := .idle, self := none, overp := { s.grout.overp with count := 0 } } }
          .selftestDone .g none 515).raise .selftestFailed).arbiter)) ∧
    (∀ t, s.winch.state = .selftest → s.winch.self = some t →
      exec (.selftestFail 4) s =
        .next ((State.notice
          { failed 4 s with winch :=
            { s.winch with state := .idle, self := none, jam := { s.winch.jam with count := 0 } } }
          .selftestDone .w none 516).raise .selftestFailed))) ∧
  (∀ (s : State) (k : Nat),
    let passed (n : Nat) : State :=
      { s with faults := { s.faults with records := s.faults.records.set (n - 1) (some ⟨true, some k, s.now⟩) } }
    (∀ st : Stn,
      s.endSelftest (.overload st) (some k) =
        ((passed st.code).setStn st
          { s.stn st with state := .idle, self := none, ovl := { (s.stn st).ovl with count := 0 }, passed := true }).notice
          .selftestDone st.origin none (st.code + 256)) ∧
    s.endSelftest .overpressure (some k) =
      (State.notice
        { passed 3 with grout :=
          { s.grout with state := .idle, self := none, overp := { s.grout.overp with count := 0 } } }
        .selftestDone .g none 259).arbiter ∧
    s.endSelftest .jam (some k) =
      State.notice
        { passed 4 with winch := { s.winch with state := .idle, self := none, jam := { s.winch.jam with count := 0 } } }
        .selftestDone .w none 260) ∧
  (∀ (t : SelfTest) (g : Guard) (threshold n : Nat), 1 ≤ n → n ≤ 32 → g.count ≤ 32 →
    selfSample t g threshold n =
      if n ≤ g.count + 1 then (⟨t.count + 1, some (t.count + 1), true⟩, ⟨0, some threshold⟩, some true)
      else ({ t with count := t.count + 1 }, ⟨g.count + 1, some threshold⟩,
        if n + 4 ≤ t.count + 1 then some false else none)) ∧
  (∀ (s : State) (t : SelfTest),
    let fed (g : TestedGuard) (r : SelfTest × Guard × Option Bool) (u : State) : State :=
      if r.2.2 = none then u else u.endSelftest g r.1.tripSeen
    (∀ st : Stn, (s.stn st).state = .selftest → (s.stn st).self = some t →
      let rating := match st with | .s1 => s.site.limits.rating1 | .s2 => s.site.limits.rating2
      let r := selfSample t (s.stn st).ovl rating s.site.settings.nOverload
      s.selfLoad st = fed (.overload st) r (s.setStn st { s.stn st with self := some r.1, ovl := r.2.1 })) ∧
    (s.grout.state = .selftest → s.grout.self = some t →
      let r := selfSample t s.grout.overp s.site.limits.maxPressure s.site.settings.nOverpressure
      s.selfPressure = fed .overpressure r { s with grout := { s.grout with self := some r.1, overp := r.2.1 } }) ∧
    (s.winch.state = .selftest → s.winch.self = some t →
      let r := selfSample t s.winch.jam s.site.settings.jamTension s.site.settings.nJam
      s.selfTension = fed .jam r { s with winch := { s.winch with self := some r.1, jam := r.2.1 } })) ∧
  (∀ s : State,
    (∀ first, s.grout.state = .selftest → s.groutSample first = s.selfPressure) ∧
    (s.winch.state = .selftest → s.winch.run = none → s.winchSample = s.selfTension))

/-- R90, R107, R113 to R115, R134: EMERGENCY_FALLING_EDGE, EMERGENCY_LINE_RISE and CLEAR_EMERGENCY. The first edge sets the
state with its line and its time, hands the notice, forces the pumps off and the port valves closed, and is handed to
the stations; a later edge adds its line and hands the notice again; an edge outside running only moves the line, and
so does every rise. A clear with both lines HIGH ends the state, its cause and its notice, and the arbiter acts.
(The order of the effects: log 8. A test in FAULT keeps the cause by R52's freeze: log 27. That the force changes the command
of a port valve is log 22's reading of R90 beside
R107, whose forces change no command.) -/
def Obligations.EmergencyIsSetAndCleared : Prop :=
  (∀ (line : EmLine) (s : State),
    let high := match line with | .estop => s.estopHigh | .wallTrip => s.wallTripHigh
    let low := s.setLine line false
    let code := match line with | .estop => 1 | .wallTrip => 2
    let e := s.faults.emergency
    let estop := e.estop || line == .estop
    let wall := e.wallTrip || line == .wallTrip
    exec (.emergencyLineRise line) s = .next (s.setLine line true) ∧
    (high = false → exec (.emergencyFallingEdge line) s = .next s) ∧
    (high = true → s.phase ≠ .running → exec (.emergencyFallingEdge line) s = .next low) ∧
    (high = true → s.phase = .running → e.set = true →
      exec (.emergencyFallingEdge line) s =
        .next ({ low with faults := { s.faults with emergency := ⟨true, estop, wall, e.time⟩ } }.notice
          .emergency .system none code)) ∧
    (high = true → s.phase = .running → e.set = false →
      let told := { low with faults := { s.faults with emergency := ⟨true, estop, wall, s.now⟩ } }.notice
        .emergency .system none code
      let forced : State :=
        { told with
          s1 := { s.s1 with pump := { s.s1.pump with applied := 0 } }
          s2 := { s.s2 with pump := { s.s2.pump with applied := 0 } }
          grout :=
            { s.grout with
              pump := { s.grout.pump with applied := 0 }, valves := s.grout.valves.map Valve.closeCmd }.judgeFlow }
      exec (.emergencyFallingEdge line) s = .next (forced.handCause .emergency .emergency))) ∧
  (∀ (tag : Nat) (s : State), s.accepts (.clearEmergency tag) →
    let lows := (if s.estopHigh then 0 else 1) + (if s.wallTripHigh then 0 else 2)
    (s.faults.emergency.set = false → Serves (.clearEmergency tag) s (fun u => u) (.plain .ok)) ∧
    (s.faults.emergency.set = true → lows ≠ 0 → Refuses (.clearEmergency tag) s .conditionPresent lows) ∧
    (s.faults.emergency.set = true → lows = 0 →
      Serves (.clearEmergency tag) s
        (fun u =>
          ((State.dropCause { u with faults := { u.faults with emergency := ⟨false, false, false, none⟩ } } .emergency).endCondition
            .emergency .system).arbiter)
        (.plain .ok)))

/-! ## The Wall Watch -/

/-- R151 to R153: SET_POINT and BASELINE. The checks in their order; a point is rewritten for its kind, and a point
that is no longer TILT loses its baseline and its guard's count; a baseline is captured from the published scan or
cleared, with the guard's count at 0, and after a capture the guard is not active until the next completed scan. A
point is busy while a running test holds a test baseline from it.
(A recapture, and a reset after a capture: log 34.) -/
def Obligations.PointsAndBaselinesAreSet : Prop :=
  (∀ (tag p kind linked limit : Nat) (s : State), s.accepts (.setPoint tag p kind linked limit) →
    let i : Instr := .setPoint tag p kind linked limit
    let held (x : Station) : Bool := x.ctx.any fun c => (c.baselines.getD (p - 1) none).isSome
    let busy := (if held s.s1 then 1 else 0) + (if held s.s2 then 2 else 0)
    let old := s.point p
    let write (u : State) (x : Point) : State := { u with wall := { u.wall with points := u.wall.points.set (p - 1) x } }
    let zeroed (l : List Guard) : List Guard := l.mapIdx fun k g => if k = p - 1 then { g with count := 0 } else g
    let cleared (u : State) (x : Point) : State :=
      { u with wall := ⟨u.wall.points.set (p - 1) x, zeroed u.wall.tilt⟩ }
    ((p = 0 ∨ 16 < p) → Refuses i s .outOfRange 1) ∧
    (1 ≤ p → p ≤ 16 →
      (busy ≠ 0 → Refuses i s .busy busy) ∧
      (busy = 0 →
        ((kind = 0 ∨ 3 < kind) → Refuses i s .outOfRange 2) ∧
        (kind = 1 → Serves i s (fun u => cleared u ⟨.unused, none, none, 0, false⟩) (.plain .ok)) ∧
        (kind = 2 →
          (65000 < linked → Refuses i s .outOfRange 3) ∧
          (linked ≤ 65000 →
            (∀ q, linked ≠ 0 → s.linkHolder p linked = some q → Refuses i s .duplicate q) ∧
            ((linked = 0 ∨ s.linkHolder p linked = none) →
              Serves i s
                (fun u => cleared u ⟨.loadCell, if linked = 0 then none else some linked, none, 0, false⟩)
                (.plain .ok)))) ∧
        (kind = 3 →
          ((limit = 0 ∨ 32000 < limit) → Refuses i s .outOfRange 4) ∧
          (1 ≤ limit → limit ≤ 32000 →
            Serves i s
              (fun u => write u
                (if old.kind = .tilt then ⟨.tilt, none, old.baseline, limit, old.fresh⟩
                else ⟨.tilt, none, none, limit, false⟩))
              (.plain .ok)))))) ∧
  (∀ (tag p action : Nat) (s : State), s.accepts (.baseline tag p action) →
    let i : Instr := .baseline tag p action
    let zeroed (l : List Guard) : List Guard := l.mapIdx fun k g => if k = p - 1 then { g with count := 0 } else g
    let write (u : State) (b : Option Int) : State :=
      { u with wall :=
        ⟨u.wall.points.set (p - 1) { s.point p with baseline := b, fresh := b.isSome }, zeroed u.wall.tilt⟩ }
    ((p = 0 ∨ 16 < p) → Refuses i s .outOfRange 1) ∧
    (1 ≤ p → p ≤ 16 →
      ((action = 0 ∨ 2 < action) → Refuses i s .outOfRange 2) ∧
      (1 ≤ action → action ≤ 2 →
        ((s.point p).kind ≠ .tilt → Refuses i s .wrongStage) ∧
        ((s.point p).kind = .tilt →
          (action = 2 → Serves i s (fun u => write u none) (.plain .ok)) ∧
          (action = 1 → (∀ v, s.scanned p ≠ .valid v) → Refuses i s .conditionPresent p) ∧
          (∀ v, action = 1 → s.scanned p = .valid v →
            Serves i s (fun u => write u (some v)) (.plain .ok s.fe.scanCount)))))) ∧
  (∀ (s : State) (p id q : Nat), s.linkHolder p id = some q →
    1 ≤ q ∧ q ≤ 16 ∧ q ≠ p ∧ (s.point q).linked = some id) ∧
  (∀ (s : State) (p id : Nat),
    s.linkHolder p id = none ↔ ∀ q, 1 ≤ q → q ≤ 16 → q ≠ p → (s.point q).linked ≠ some id)

/-- R48, R87, R94, R95, R98, R153 to R155, R157: SCAN_COMPLETE, WALL_TILT_TRIP and NEIGHBOUR_RISE_TRIP. A scan publishes a
mark for each point under the next counter, and makes every tilt guard with a baseline active; a point in use that is
OPEN or OVER raises MONITOR_SENSOR; each tilt guard and each neighbour-rise guard is evaluated on its point, its count
returned to 0 where the point is not VALID or the guard not active, and a trip raises TILT_EXCEEDED or hands
NEIGHBOUR_RISE to the test.
(In which order the Wall Watch and the stations act on a scan, and MONITOR_SENSOR before TILT_EXCEEDED: log 7. The
trip rows act whatever the count, and do nothing where their guard is not active, which the tilt guard of a point is not
while `fresh` stands after a capture: log 2; the threshold last evaluated
stays at a scan that is not VALID and at a trip row: log 38.) -/
def Obligations.ScansAreJudged : Prop :=
  (∀ (codes : List Nat) (wallFirst : Bool) (s : State), s.phase = .running →
    let value (k : Nat) : PointReading :=
      let code := codes.getD k 0
      if (s.point (k + 1)).kind = .unused then .unused
      else if code < 9830 then .isOpen else if 57344 < code then .isOver
      else .valid (convert (s.fe.cals.getD (k + 4) (.factory 30000)) code)
    let published : State :=
      { s with fe := { s.fe with scanCount := (s.fe.scanCount + 1) % 256, scan := (List.range 16).map value } }
    exec (.scanComplete codes wallFirst) s =
      .next (if wallFirst then (published.wallScan.riseScan .s1).riseScan .s2
        else ((published.riseScan .s1).riseScan .s2).wallScan)) ∧
  (∀ s : State,
    let sensed := if s.condition .monitorSensor then s.raise .monitorSensor else s
    let evals := (List.range 16).map sensed.tiltAt
    let active := sensed.wall.points.map fun p => { p with fresh := false }
    let counted := { sensed with wall := ⟨active, evals.map (·.1)⟩ }
    s.wallScan = if evals.any (·.2) then counted.raise .tiltExceeded else counted) ∧
  (∀ (s : State) (st : Stn),
    let evals := (List.range 16).map (s.riseAt (s.stn st))
    let counted := s.setStn st { s.stn st with nbr := evals.map (·.1) }
    s.riseScan st = if evals.any (·.2) then counted.addCause .neighbour st else counted) ∧
  (∀ (s : State) (k : Nat) (b v : Int), (s.point (k + 1)).kind = .tilt → (s.point (k + 1)).baseline = some b →
    s.scanned (k + 1) = .valid v →
    let g := s.wall.tilt.getD k .rest
    let limit := (s.point (k + 1)).limit
    let n := min 32 (g.count + 1)
    s.tiltAt k =
      if (limit : Int) < |v - b| then
        if s.site.settings.nTilt ≤ n then (⟨0, some limit⟩, true) else (⟨n, some limit⟩, false)
      else (⟨0, some limit⟩, false)) ∧
  (∀ (s : State) (k : Nat),
    let unread := ∀ v, s.scanned (k + 1) ≠ .valid v
    ((unread ∨ (s.point (k + 1)).kind ≠ .tilt ∨ (s.point (k + 1)).baseline = none) →
      s.tiltAt k = (⟨0, (s.wall.tilt.getD k .rest).last⟩, false)) ∧
    ∀ x : Station, (unread ∨ x.ctx = none ∨ ∃ c, x.ctx = some c ∧ c.baselines.getD k none = none) →
      s.riseAt x k = (⟨0, (x.nbr.getD k .rest).last⟩, false)) ∧
  (∀ (s : State) (x : Station) (c : TestCtx) (k : Nat) (b v : Int), x.ctx = some c → c.baselines[k]? = some (some b) →
    s.scanned (k + 1) = .valid v →
    let g := x.nbr.getD k .rest
    let n := min 32 (g.count + 1)
    s.riseAt x k =
      if (c.cap.nbrLimit : Int) < v - b then
        if s.site.settings.nNeighbour ≤ n then (⟨0, some c.cap.nbrLimit⟩, true) else (⟨n, some c.cap.nbrLimit⟩, false)
      else (⟨0, some c.cap.nbrLimit⟩, false)) ∧
  (∀ (s : State) (p : Nat), s.phase = .running →
    let zeroed (l : List Guard) : List Guard := l.mapIdx fun k g => if k = p - 1 then { g with count := 0 } else g
    ((s.point p).kind = .tilt → (s.point p).baseline ≠ none → (s.point p).fresh = false →
      exec (.wallTiltTrip p) s =
        .next (State.raise { s with wall := { s.wall with tilt := zeroed s.wall.tilt } } .tiltExceeded)) ∧
    (((s.point p).kind ≠ .tilt ∨ (s.point p).baseline = none ∨ (s.point p).fresh = true) →
      exec (.wallTiltTrip p) s = .next s)) ∧
  (∀ (s : State) (st : Stn) (p : Nat), s.phase = .running →
    let zeroed (l : List Guard) : List Guard := l.mapIdx fun k g => if k = p - 1 then { g with count := 0 } else g
    let held : Bool := (s.stn st).ctx.any fun c => (c.baselines.getD (p - 1) none).isSome
    (held = false → exec (.neighbourRiseTrip st p) s = .next s) ∧
    (held = true →
      exec (.neighbourRiseTrip st p) s =
        .next ((s.setStn st { s.stn st with nbr := zeroed (s.stn st).nbr }).addCause .neighbour st)))

/-! ## The Archive -/

/-- R164 to R168, R170, R171, R173: CLOSE_ANCHOR, APPEND_END, MARK_EXPORTED, ERASE_OLDEST and ERASE_END. The checks in their
order; a close forms the record, writes it into the next slot and moves the anchor to CLOSING; an append that reads back
makes the slot VALID and removes the entry with its port and its cure entry, and one that does not makes it TORN and
returns the anchor to its stage; an erase empties its block, or leaves it EXPORTED and raises ARCHIVE_WRITE.
(The outcome of an append and of an erase is the rig's: log 9.) -/
def Obligations.ArchiveAppendsAndErases : Prop :=
  (∀ (tag a : Nat) (s : State), s.accepts (.closeAnchor tag a) →
    let i : Instr := .closeAnchor tag a
    let k := s.archive.nextSlot
    let closable (e : Entry) := e.stage = .locked ∨ e.stage = .rejected ∨ e.stage = .lockFault ∨ e.stage = .voided
    (s.entry a = none → Refuses i s .noSuchAnchor) ∧
    (∀ e, s.entry a = some e →
      (¬closable e → Refuses i s .wrongStage) ∧
      (closable e →
        (s.site.clockValid = false → Refuses i s .clockUnset) ∧
        (s.site.clockValid = true →
          (s.archive.activity ≠ .idle → Refuses i s .busy) ∧
          (s.archive.activity = .idle →
            (4294967295 ≤ s.archive.nextNumber → Refuses i s .archiveFull 0) ∧
            (s.archive.nextNumber < 4294967295 →
              (slotAt s.archive.slots k ≠ none → Refuses i s .archiveFull ((k - 1) / 128 + 1)) ∧
              (slotAt s.archive.slots k = none →
                let record : Record :=
                  { number := s.archive.nextNumber, slot := k, closeTime := s.site.clock, closingStage := e.stage
                    interruptedAtClose := e.interrupted, decl := e.decl, attempts := e.attempts, counted := e.counted
                    primaryEnd := e.primaryEnd, postDone := e.postDone, postDue := e.postDue, winch := e.winch
                    passes := e.passes, result := e.result }
                let closing (x : Entry) : Entry := { x with prior := some x.stage, interrupted := none, stage := .closing }
                let archive : Archive :=
                  { slots := setSlot s.archive.slots k (.writing record)
                    blocks := if k % 128 = 1 then s.archive.blocks.set ((k - 1) / 128) .filling else s.archive.blocks
                    nextNumber := s.archive.nextNumber + 1
                    nextSlot := k % 1024 + 1
                    activity := .appending e.decl.id s.archive.nextNumber k }
                Serves i s
                  (fun u =>
                    let v : State :=
                      { u with
                        reg := u.reg.map fun x => if x.decl.id == e.decl.id then closing x else x
                        archive := archive }
                    if slotAt archive.slots archive.nextSlot ≠ none then
                      v.notice .archiveFull .archive none ((archive.nextSlot - 1) / 128 + 1)
                    else v)
                  ⟨.accepted, 0, [.u32 s.archive.nextNumber, .u16 k]⟩))))))) ∧
  (∀ (s : State) (a n k : Nat) (ok : Bool), s.phase = .running → s.archive.activity = .appending a n k →
    let settled (x : Slot) : Archive :=
      { s.archive with
        slots := setSlot s.archive.slots k x, activity := .idle
        blocks := if k % 128 = 0 then s.archive.blocks.set ((k - 1) / 128) .full else s.archive.blocks }
    let gone : State :=
      { s with
        reg := s.reg.filter fun e => e.decl.id != a
        grout :=
          { s.grout with
            ports := s.grout.ports.map fun p => if p = some a then none else p
            cure := s.grout.cure.filter fun c => c != a } }
    let back (e : Entry) : Entry := { e with stage := e.prior.getD e.stage, prior := none }
    (∀ r, ok = true → slotAt s.archive.slots k = some (.writing r) →
      exec (.appendEnd ok) s =
        .next ({ gone with archive := settled (.valid r) }.notice .archiveDone .archive (some a) 1)) ∧
    (ok = false →
      exec (.appendEnd ok) s =
        .next ((State.raise
          { s with
            reg := s.reg.map fun e => if e.decl.id == a then back e else e
            archive := settled (.torn n) }
          .archiveWrite).notice .archiveDone .archive (some a) 2)) ∧
    exec (.eraseEnd ok) s = .next s) ∧
  (∀ (tag b : Nat) (s : State), s.accepts (.markExported tag b) →
    ((b = 0 ∨ 8 < b) → Refuses (.markExported tag b) s .outOfRange 1) ∧
    (1 ≤ b → b ≤ 8 →
      (s.archive.blocks[b - 1]? = some .exported → Serves (.markExported tag b) s (fun u => u) (.plain .ok)) ∧
      (s.archive.blocks[b - 1]? = some .empty → Refuses (.markExported tag b) s .wrongStage 1) ∧
      (s.archive.blocks[b - 1]? = some .filling → Refuses (.markExported tag b) s .wrongStage 2) ∧
      (s.archive.blocks[b - 1]? = some .erasing → Refuses (.markExported tag b) s .wrongStage 5) ∧
      (s.archive.blocks[b - 1]? = some .full →
        Serves (.markExported tag b) s
          (fun u => { u with archive := { u.archive with blocks := u.archive.blocks.set (b - 1) .exported } })
          (.plain .ok)))) ∧
  (∀ (tag : Nat) (s : State), s.accepts (.eraseOldest tag) →
    let i : Instr := .eraseOldest tag
    (s.archive.activity ≠ .idle → Refuses i s .busy) ∧
    (s.archive.activity = .idle →
      (s.archive.oldest = none → Refuses i s .notExported 0) ∧
      (∀ b, s.archive.oldest = some b →
        (s.archive.block b ≠ .exported → Refuses i s .notExported b) ∧
        (s.archive.block b = .exported →
          Serves i s
            (fun u => { u with archive :=
              { u.archive with blocks := u.archive.blocks.set (b - 1) .erasing, activity := .erasing b } })
            (.plain .accepted b))))) ∧
  (∀ (s : State) (b : Nat), s.phase = .running → s.archive.activity = .erasing b →
    let emptied : Archive :=
      { s.archive with
        slots := s.archive.slots.filter fun p => !decide ((p.1 - 1) / 128 + 1 = b)
        blocks := s.archive.blocks.set (b - 1) .empty, activity := .idle }
    exec (.eraseEnd true) s =
      .next (if slotAt s.archive.slots s.archive.nextSlot ≠ none ∧ slotAt emptied.slots emptied.nextSlot = none then
          { s with archive := emptied }.endCondition .archiveFull .archive
        else { s with archive := emptied }) ∧
    exec (.eraseEnd false) s =
      .next (State.raise
        { s with archive := { s.archive with blocks := s.archive.blocks.set (b - 1) .exported, activity := .idle } }
        .archiveWrite) ∧
    exec (.appendEnd true) s = .next s) ∧
  (∀ (s : State) (ok : Bool), s.phase = .running → s.archive.activity = .idle →
    exec (.appendEnd ok) s = .next s ∧ exec (.eraseEnd ok) s = .next s)

/-! ## Notices -/

/-- R175 to R180: TAKE_NOTICE, SET_NOTICE_LEVEL and a raise. A notice handed to the Notice Unit is raised with the site time,
absent while the clock is not valid; the sixteen kinds have the codes and classes of R175's table. A kind at OFF is not recorded; a pending entry of the same
kind and origin counts again; a full set gives up the oldest entry of its lowest level to a higher one, or flags the
overflow. A take returns the oldest entry that can be chosen at the highest level: an event leaves, a condition is
acknowledged. A level is written, and OFF removes the kind's entries. The end of a condition removes its entry,
acknowledged or not, and the others keep their order. ATTN is asserted, while the part runs, by an entry that is not
acknowledged with a level at or above the floor.
(The bytes of the TAKE_NOTICE reply: log 11; the overflow latch after a take: log 30.) -/
def Obligations.NoticesAreRaisedTakenAndLevelled : Prop :=
  (∀ (s : State) (k : NoticeKind) (o : Origin) (a : Option Nat) (d : Nat),
    s.notice k o a d =
      { s with notices := s.notices.raise k o a d (if s.site.clockValid = true then some s.site.clock else none) }) ∧
  (let kinds : List NoticeKind :=
     [.stepDone, .testEnded, .testHeld, .runEnded, .passStarted, .passEnded, .postgroutDue, .cureComplete, .faultRaised,
      .emergency, .linkLost, .selftestDone, .archiveDone, .archiveFull, .clockLost, .resetDone]
   (∀ k, k ∈ kinds) ∧ kinds.map NoticeKind.code = (List.range 16).map (· + 1) ∧
   kinds.filter NoticeKind.isCondition = [.postgroutDue, .emergency, .archiveFull, .clockLost] ∧
   [Origin.s1, .s2, .w, .g, .wall, .system, .archive].map Origin.code = [1, 2, 3, 4, 5, 6, 7] ∧
   [Level.off, .low, .mid, .high].map Level.rank = [0, 1, 2, 3] ∧
   ∀ (u : NoticeUnit) (k : NoticeKind), 1 ≤ k.code → k.code ≤ u.levels.length → u.levels[k.code - 1]? = some (u.level k)) ∧
  (∀ (u : NoticeUnit) (k : NoticeKind) (o : Origin) (a : Option Nat) (d : Nat) (t : Option Nat),
    let fresh : Notice := ⟨k, o, a, d, t, 0, false⟩
    let known := ∃ n ∈ u.entries, n.kind = k ∧ n.origin = o
    (u.level k = .off → u.raise k o a d t = u) ∧
    (u.level k ≠ .off → known →
      u.raise k o a d t =
        { u with entries := u.entries.map fun n =>
          if n.kind = k ∧ n.origin = o then { n with again := min 15 (n.again + 1) } else n }) ∧
    (u.level k ≠ .off → ¬known → u.entries.length < 32 →
      u.raise k o a d t = { u with entries := u.entries ++ [fresh] }) ∧
    (∀ front n back, u.level k ≠ .off → ¬known → 32 ≤ u.entries.length → u.entries = front ++ n :: back →
      (∀ m ∈ u.entries, (u.level n.kind).rank ≤ (u.level m.kind).rank) →
      (∀ m ∈ front, (u.level n.kind).rank < (u.level m.kind).rank) →
      ((u.level n.kind).rank < (u.level k).rank →
        u.raise k o a d t = { u with entries := front ++ back ++ [fresh] }) ∧
      ((u.level k).rank ≤ (u.level n.kind).rank → u.raise k o a d t = { u with overflow := true }))) ∧
  (∀ (tag : Nat) (s : State), s.accepts (.takeNotice tag) →
    let free (n : Notice) : Prop := n.acked = false ∧ ¬(s.link.lost = true ∧ n.kind = .linkLost)
    let rank (n : Notice) : Nat := (s.notices.level n.kind).rank
    ((∀ n ∈ s.notices.entries, ¬free n) →
      Serves (.takeNotice tag) s
        (fun u => { u with notices :=
          { u.notices with overflow := u.notices.overflow && decide (32 ≤ u.notices.entries.length) } })
        (.reply [.u8 0])) ∧
    (∀ front n back, s.notices.entries = front ++ n :: back → free n →
      (∀ m ∈ s.notices.entries, free m → rank m ≤ rank n) → (∀ m ∈ front, free m → rank m < rank n) →
      let rest := if n.kind.isCondition then front ++ { n with acked := true } :: back else front ++ back
      Serves (.takeNotice tag) s
        (fun u => { u with notices :=
          { u.notices with entries := rest, overflow := u.notices.overflow && decide (32 ≤ rest.length) } })
        (.reply (.u8 1 :: noticeFields (s.notices.level n.kind) n)))) ∧
  (∀ (tag k l : Nat) (s : State), s.accepts (.setNoticeLevel tag k l) →
    let i : Instr := .setNoticeLevel tag k l
    (16 < k → Refuses i s .outOfRange 1) ∧
    (k ≤ 16 → 3 < l → Refuses i s .outOfRange 2) ∧
    (k = 0 → l = 0 → Refuses i s .outOfRange 2) ∧
    ((k = 10 ∨ k = 11) → l ≠ 3 → Refuses i s .outOfRange 2) ∧
    (∀ level : Level, l = level.rank → k ≤ 16 →
      (k = 0 → 1 ≤ l → Serves i s (fun u => { u with notices := { u.notices with floor := level } }) (.plain .ok)) ∧
      (1 ≤ k → (k ≠ 10 ∧ k ≠ 11 ∨ l = 3) →
        Serves i s
          (fun u => { u with notices :=
            { u.notices with
              levels := u.notices.levels.set (k - 1) level
              entries := if l = 0 then u.notices.entries.filter (fun n => n.kind.code != k) else u.notices.entries } })
          (.plain .ok)))) ∧
  (∀ (s : State) (k : NoticeKind) (o : Origin),
    let other (n : Notice) : Bool := decide (n.kind ≠ k ∨ n.origin ≠ o)
    s.endCondition k o = { s with notices := { s.notices with entries := s.notices.entries.filter other } } ∧
    (∀ front n back, s.notices.entries = front ++ n :: back → n.kind = k → n.origin = o →
      (∀ m ∈ front ++ back, m.kind ≠ k ∨ m.origin ≠ o) →
      (s.endCondition k o).notices.entries = front ++ back) ∧
    ((∀ n ∈ s.notices.entries, n.kind ≠ k ∨ n.origin ≠ o) → s.endCondition k o = s)) ∧
  (∀ s : State,
    let rank (l : Level) : Nat := match l with | .off => 0 | .low => 1 | .mid => 2 | .high => 3
    s.attn = true ↔ s.phase = .running ∧
      ∃ n ∈ s.notices.entries, n.acked = false ∧
        rank s.notices.floor ≤ rank (s.notices.levels.getD (n.kind.code - 1) .off))

/-! ## Site limits, settings, clock and tags -/

/-- R101, R194 to R198, R85, R189: SET_LIMITS, LOCK_LIMITS, SET_SETTINGS, SET_TAG. The checks in their order; limits
are written together and their masks applied, settings are written together, and the link watch follows a changed
window; locked limits are refused until a POWER or PIN reset; a tag word takes its value. The range of every limit and
setting, and the field that each index writes; a set flag that becomes unmasked sets its combined flag, and TRIP is
judged again.
(A leak limit lowered below the stray count: log 17; the published paid length under a changed mm-per-pulse: log 40; a
count of 0 while the limits are locked: log 42.) -/
def Obligations.LimitsSettingsAndTagsAreWritten : Prop :=
  (∀ (tag : Nat) (items : List (Nat × Nat)) (s : State), s.accepts (.setLimits tag items) →
    let i : Instr := .setLimits tag items
    let l := items.foldl (fun l p => l.write p.1 p.2) s.site.limits
    (s.site.locked = true → Refuses i s .limitsLocked) ∧
    (s.site.locked = false →
      (∀ k, itemFailure limitInRange [] items = some k → Refuses i s .outOfRange k) ∧
      (itemFailure limitInRange [] items = none →
        (items = [] → Serves i s (fun u => u) (.plain .ok)) ∧
        (items ≠ [] →
          let held1 := ∃ c, s.s1.ctx = some c ∧ l.rating1 < c.pp
          let held2 := ∃ c, s.s2.ctx = some c ∧ l.rating2 < c.pp
          let above := (List.range 8).find? fun r => decide (l.ceilings.getD r 0 < (s.row (r + 1)).locked + (s.row (r + 1)).reserved)
          (held1 → Refuses i s .busy 1) ∧
          (¬held1 → held2 → Refuses i s .busy 2) ∧
          (¬held1 → ¬held2 →
            (∀ r, above = some r → Refuses i s .outOfRange (r + 5)) ∧
            (above = none →
              Serves i s (fun u => State.applyMasks { u with site := { u.site with limits := l } }) (.plain .ok))))))) ∧
  (∀ (tag : Nat) (s : State), s.accepts (.lockLimits tag) →
    Serves (.lockLimits tag) s (fun u => { u with site := { u.site with locked := true } }) (.plain .ok)) ∧
  (∀ (tag : Nat) (items : List (Nat × Nat)) (s : State), s.accepts (.setSettings tag items) →
    let i : Instr := .setSettings tag items
    let old := s.site.settings
    let t := items.foldl (fun t p => t.write p.1 p.2) old
    let f := s.grout.flow
    (∀ k, itemFailure settingInRange [] items = some k → Refuses i s .outOfRange k) ∧
    (itemFailure settingInRange [] items = none →
      (t.jamTension ≤ t.slackTension → Refuses i s .outOfRange 15) ∧
      (t.slackTension < t.jamTension → t.stroke ≤ t.strokeMargin → Refuses i s .outOfRange 6) ∧
      (t.slackTension < t.jamTension → t.strokeMargin < t.stroke →
        let lowered := f.lowered || (decide (t.leakLimit < old.leakLimit) && decide (t.leakLimit ≤ f.stray))
        let window : Watch :=
          if t.linkWindow = 1 then .running 2 else if t.linkWindow = 2 then .running 5
          else if t.linkWindow = 3 then .running 20 else if t.linkWindow = 4 then .running 60 else .stopped
        Serves i s
          (fun u =>
            { u with
              site := { u.site with settings := t }
              grout := { u.grout with flow := { f with lowered := lowered } }
              link := if t.linkWindow = old.linkWindow then u.link else { u.link with watch := window } })
          (.plain .ok)))) ∧
  (∀ (tag w v : Nat) (s : State), s.accepts (.setTag tag w v) →
    ((w = 0 ∨ 4 < w) → Refuses (.setTag tag w v) s .outOfRange 1) ∧
    (1 ≤ w → w ≤ 4 →
      Serves (.setTag tag w v) s (fun u => { u with site := { u.site with tags := u.site.tags.set (w - 1) v } })
        (.plain .ok))) ∧
  (∀ (ok : Nat → Nat → Bool) (items : List (Nat × Nat)),
    (itemFailure ok [] items = none ↔ (∀ p ∈ items, ok p.1 p.2 = true) ∧ (items.map (·.1)).Nodup) ∧
    (∀ front p back, items = front ++ p :: back → (∀ q ∈ front, ok q.1 q.2 = true) → (front.map (·.1)).Nodup →
      (ok p.1 p.2 = false ∨ p.1 ∈ front.map (·.1)) → itemFailure ok [] items = some p.1)) ∧
  (∀ k v : Nat,
    let within (table : List (Nat × Nat)) : Prop :=
      1 ≤ k ∧ k ≤ table.length ∧ (table.getD (k - 1) (0, 0)).1 ≤ v ∧ v ≤ (table.getD (k - 1) (0, 0)).2
    (limitInRange k v = true ↔ within
      [(100, 30000), (100, 30000), (1, 1000), (100, 10000), (0, 60000), (0, 60000), (0, 60000), (0, 60000), (0, 60000),
       (0, 60000), (0, 60000), (0, 60000), (1, 720), (1, 5000), (50, 100), (0, 100), (10, 100), (0, 0xFFFFF), (0, 0x3F)]) ∧
    (settingInRange k v = true ↔ within
      [(1, 500), (1, 1000), (1, 1000), (0, 20), (1000, 30000), (0, 5000), (1, 2000), (0, 100), (1, 30), (60, 1800),
       (5, 300), (1, 255), (1, 30000), (1, 2000), (0, 2000), (0, 300), (1, 10000), (1, 1000), (1, 32), (1, 32), (1, 32),
       (1, 32), (1, 32), (1, 32), (1, 32), (0, 3), (0, 3), (0, 3), (0, 3), (0, 4)])) ∧
  (∀ (l : Limits) (v : Nat),
    l.write 1 v = { l with rating1 := v } ∧ l.write 2 v = { l with rating2 := v } ∧
    l.write 3 v = { l with rateLimit := v } ∧ l.write 4 v = { l with maxPressure := v } ∧
    l.write 13 v = { l with minCure := v } ∧ l.write 14 v = { l with creepLimit := v } ∧
    l.write 15 v = { l with loPct := v } ∧ l.write 16 v = { l with hiPct := v } ∧
    l.write 17 v = { l with liftTol := v } ∧
    (∀ r, 1 ≤ r → r ≤ 8 → l.write (r + 4) v = { l with ceilings := l.ceilings.set (r - 1) v }) ∧
    l.write 18 v = { l with combMask := BitVec.ofNat 20 v } ∧ l.write 19 v = { l with tripMask := BitVec.ofNat 6 v }) ∧
  (∀ (t : Settings) (v : Nat),
    t.write 1 v = { t with loadTol := v } ∧ t.write 2 v = { t with rampDemand := v } ∧
    t.write 3 v = { t with releaseDemand := v } ∧ t.write 4 v = { t with topUpMax := v } ∧
    t.write 5 v = { t with stroke := v } ∧ t.write 6 v = { t with strokeMargin := v } ∧
    t.write 7 v = { t with liftThreshold := v } ∧ t.write 8 v = { t with overdrive := v } ∧
    t.write 9 v = { t with seatTime := v } ∧ t.write 10 v = { t with pauseLimit := v } ∧
    t.write 11 v = { t with noFlowTime := v } ∧ t.write 12 v = { t with leakLimit := v } ∧
    t.write 13 v = { t with nbrLimit := v } ∧ t.write 14 v = { t with jamTension := v } ∧
    t.write 15 v = { t with slackTension := v } ∧ t.write 16 v = { t with headAllowance := v } ∧
    t.write 17 v = { t with drumMm := v } ∧ t.write 18 v = { t with quantum := v } ∧
    t.write 19 v = { t with nOverload := v } ∧ t.write 20 v = { t with nRefusal := v } ∧
    t.write 21 v = { t with nOverpressure := v } ∧ t.write 22 v = { t with nJam := v } ∧
    t.write 23 v = { t with nSlack := v } ∧ t.write 24 v = { t with nNeighbour := v } ∧
    t.write 25 v = { t with nTilt := v } ∧ t.write 26 v = { t with filterEnc1 := v } ∧
    t.write 27 v = { t with filterEnc2 := v } ∧ t.write 28 v = { t with filterDrum := v } ∧
    t.write 29 v = { t with filterFlow := v } ∧ t.write 30 v = { t with linkWindow := v }) ∧
  (∀ s : State, ∃ comb : BitVec 6,
    s.applyMasks = State.judgeTrip { s with faults := { s.faults with comb := comb } } ∧
    ∀ g, 1 ≤ g → g ≤ 6 →
      (comb.getLsbD (g - 1) = true ↔
        s.combined g = true ∨
          ∃ f ∈ Flag.all, f.group = g ∧ s.flag f = true ∧ s.site.limits.combMask.getLsbD f.bit = false))

/-- R9, R85, R146 to R148, R197: SET_TIME, SITE_CLOCK_SECOND and SITE_MINUTE. A time before the latest stamp of the
register, the greatest time in the fields R9 lists, is refused; else the clock takes it and is valid, CLOCK_LOST's notice ends, the stray count returns to 0, and
a multiple of 60 s is a site minute. The clock rises by a second up to its end; a site minute returns the stray count
to 0 and runs the scheduler while the clock is valid and G is enabled: it visits the GROUTED entries in order, hands
CURE_COMPLETE for those whose cure has run, once for each, and judges POSTGROUT_DUE at the end of the run.
(SITE_CLOCK_SECOND counts in every phase, and runs the site minute itself: log 23.) -/
def Obligations.ClockAndSiteMinute : Prop :=
  (∀ (tag time : Nat) (s : State), s.accepts (.setTime tag time) →
    (∀ t, s.latestStamp = some t → time < t → Refuses (.setTime tag time) s .timeBack) ∧
    ((∀ t, s.latestStamp = some t → t ≤ time) →
      Serves (.setTime tag time) s
        (fun u =>
          let v := State.endCondition
            { u with
              site := { u.site with clock := time, clockValid := true }
              grout := { u.grout with flow := { u.grout.flow with stray := 0, lowered := false } } }
            .clockLost .system
          if time % 60 = 0 then v.siteMinute else v)
        (.plain .ok))) ∧
  (∀ s : State,
    let v : State := { s with site := { s.site with clock := s.site.clock + 1 } }
    (4294967295 ≤ s.site.clock → exec .siteClockSecond s = .next s) ∧
    (s.site.clock < 4294967295 →
      exec .siteClockSecond s =
        .next (if s.phase = .running ∧ (s.site.clock + 1) % 60 = 0 then v.siteMinute else v))) ∧
  (∀ s : State, s.phase = .running →
    (s.site.clock % 60 ≠ 0 → exec .siteMinute s = .next s) ∧
    (s.site.clock % 60 = 0 → exec .siteMinute s = .next s.siteMinute)) ∧
  (∀ s : State,
    let zeroed : State := { s with grout := { s.grout with flow := { s.grout.flow with stray := 0, lowered := false } } }
    ((s.site.clockValid = false ∨ s.site.enables.g = false) → s.siteMinute = zeroed) ∧
    (s.site.clockValid = true → s.site.enables.g = true → s.siteMinute = zeroed.scheduler)) ∧
  (∀ s : State,
    let ids := (s.reg.filter fun e => e.stage == .grouted).map fun e => e.decl.id
    let visited := ids.foldl visitPost (s, [])
    s.scheduler = (ids.foldl visitCure visited.1).judgeWaiting visited.2) ∧
  (∀ (s : State) (w : List Nat) (e : Entry) (id : Nat), s.entry id = some e →
    let post := e.decl.post.getD default
    let queued := ∃ q ∈ s.grout.queue, q.anchor = e.decl.id
    let active := ∃ p, s.grout.pass = some p ∧ p.anchor = e.decl.id
    let due := e.stage = .grouted ∧ e.postDone < e.decl.passes ∧ ¬queued ∧ ¬active ∧
      ∃ t, e.primaryEnd = some t ∧ t + (e.postDone + 1) * post.interval * 3600 ≤ s.site.clock
    (¬due → visitPost (s, w) id = (s, w)) ∧
    (due → s.portOf id = none →
      visitPost (s, w) id = (s.modEntry id fun x => { x with postDue := true }, w ++ [id])) ∧
    (due → s.portOf id ≠ none → 8 ≤ s.grout.queue.length → visitPost (s, w) id = (s, w ++ [id])) ∧
    (due → s.portOf id ≠ none → s.grout.queue.length < 8 →
      let joined : State := { s with grout := { s.grout with queue := s.grout.queue ++ [⟨id, .post, s.site.clock⟩] } }
      visitPost (s, w) id = ((joined.modEntry id fun x => { x with postDue := false }).arbiter, w))) ∧
  (∀ (s : State) (id : Nat),
    (s.entry id = none → visitCure s id = s) ∧
    (∀ e, s.entry id = some e →
      let cured := e.stage = .grouted ∧ id ∉ s.grout.cure ∧ e.postDone = e.decl.passes ∧
        (∀ q ∈ s.grout.queue, q.anchor ≠ id) ∧ (∀ p, s.grout.pass = some p → p.anchor ≠ id) ∧
        ∃ t, e.primaryEnd = some t ∧ t + e.decl.cure * 3600 ≤ s.site.clock
      (¬cured → visitCure s id = s) ∧
      (cured →
        visitCure s id =
          { s with grout := { s.grout with cure := s.grout.cure ++ [id] } }.notice .cureComplete .g (some id) 0))) ∧
  (∀ (s : State) (w : List Nat),
    let v : State := { s with grout := { s.grout with waiting := w.length, lastRun := some s.site.clock } }
    (w = [] → s.judgeWaiting w = v.endCondition .postgroutDue .g) ∧
    (∀ id rest, w = id :: rest →
      (s.grout.waiting = 0 → s.judgeWaiting w = v.notice .postgroutDue .g (some id) w.length) ∧
      (s.grout.waiting ≠ 0 → s.judgeWaiting w = v))) ∧
  (∀ s : State,
    let stamp (t : Nat) : Prop := ∃ e ∈ s.reg,
      e.primaryEnd = some t ∨ (∃ m, e.test = some m ∧ m.start = t) ∨ (∃ p, e.pass = some p ∧ p.start = t) ∨
      (∃ p ∈ e.passes, p.start = t ∨ p.endTime = some t) ∨
      ∃ r, e.result = some r ∧ (r.start = t ∨ r.endTime = some t ∨ ∃ x ∈ r.readings, x.time = t)
    (s.latestStamp = none ↔ ∀ t, ¬stamp t) ∧
    ∀ t, s.latestStamp = some t ↔ stamp t ∧ ∀ u, stamp u → u ≤ t)

/-! ## Resets -/

/-- R199, R200 with R20 to R22, R30, R79, R94, R97, R104, R111, R113, R116, R126, R136, R145, R160, R173, R174, R182, R190,
R194, R197, R198: POWER_RESET, PIN_RESET, RESET_PIN_RELEASE, RESET and START_UP_END. A reset ends every operation, leaves
every guard at 0 and not evaluated, gathers its cause, and holds the part in reset while the supply or RESET# is LOW;
start-up records the highest cause, clears what it clears and the pending set, raises RESET_DONE and after it CLOCK_LOST
where the clock backup was lost, nothing else, converts the register and scans the Archive, which makes a WRITING slot TORN
and its block FULL when it was the block's last; at its end an erase found cut is run again, EMERGENCY is set where a line
is LOW, a full ring is told, and the part runs with TRIP as judged. RESET is answered first. What is non-volatile stays.
(Start-up in two steps, the conversion at its start: log 19; a lost backup is an operand, and the time of RESET_DONE
where it was lost: log 10; the published paid length after a reset: log 37; the detail of EMERGENCY with both lines LOW:
log 28; extended used of a cut test: log 36; the levels of the encoder lines and of the emergency lines stay: log 5; a
baseline captured before the reset and not yet met by a scan stays so: log 34; the mark of a lowered leak limit is
cleared: log 17.) -/
def Obligations.ResetsCutConvertAndRestart : Prop :=
  (∀ (s : State) (up lost : Bool),
    let r := { s.resets with power := true, supplyLow := !up, backupLost := s.resets.backupLost || lost }
    exec (.powerReset up lost) s =
      .next (if up = false ∨ s.resets.pinLow = true then { s.cut with phase := .inReset, resets := r }
        else { s.cut with resets := r }.beginStartUp)) ∧
  (∀ s : State,
    exec .pinReset s =
      .next { s.cut with phase := .inReset, resets := { s.resets with pin := true, pinLow := true } }) ∧
  (∀ s : State,
    let t := { s with resets := { s.resets with pinLow := false } }
    (s.phase ≠ .inReset → exec .resetPinRelease s = .next t) ∧
    (s.phase = .inReset → s.resets.supplyLow = true → exec .resetPinRelease s = .next t) ∧
    (s.phase = .inReset → s.resets.supplyLow = false → exec .resetPinRelease s = .next t.beginStartUp)) ∧
  (∀ (tag : Nat) (s : State), s.accepts (.reset tag) →
    Serves (.reset tag) s (fun u => { u with link := { u.link with resetAfterReply := true } }) (.plain .ok)) ∧
  (∀ s : State, s.resets.pinLow = false → s.resets.supplyLow = false →
    s.commandReset = { s.cut with resets := { s.resets with command := true } }.beginStartUp) ∧
  (∀ s : State, (s.resets.pinLow = true ∨ s.resets.supplyLow = true) →
    s.commandReset = { s.cut with phase := .inReset, resets := { s.resets with command := true } }) ∧
  (∀ a : Archive, slotsWf a.slots = true → a.blocks.length = 8 →
    let writing (n : Nat) : Bool := a.slots.any fun p => p.1 == n && match p.2 with | .writing _ => true | _ => false
    a.scan =
      { a with
        slots := a.slots.map fun p => (p.1, match p.2 with | .writing r => .torn r.number | x => x)
        blocks := (List.range 8).map fun k => if writing (128 * (k + 1)) then .full else a.block (k + 1) }) ∧
  (∀ s : State,
    let t := s.cut
    (∀ st : Stn, (t.stn st).state = .idle ∧ (t.stn st).ctx = none ∧ (t.stn st).pump = ⟨0, 0⟩ ∧
      (t.stn st).relCmd = false ∧ (t.stn st).seat = none ∧ (t.stn st).load = ⟨[], none⟩ ∧ (t.stn st).enc.count = 0 ∧
      (t.stn st).enc.win = [] ∧ (t.stn st).enc.mark = none ∧ (t.stn st).enc.a = (s.stn st).enc.a ∧
      (t.stn st).enc.b = (s.stn st).enc.b ∧ (t.stn st).self = none ∧
      (t.stn st).nbr = List.replicate 16 ⟨0, none⟩ ∧ (t.stn st).ovl = ⟨0, none⟩ ∧ (t.stn st).passed = (s.stn st).passed) ∧
    (t.winch.state = .idle ∧ t.winch.run = none ∧ t.winch.drum = 0 ∧ t.winch.self = none ∧ t.winch.paid = 0 ∧
      t.winch.tension = ⟨[], none⟩ ∧ t.winch.jam = ⟨0, none⟩ ∧ t.winch.slack = ⟨0, none⟩) ∧
    (t.grout.self = none ∧ t.grout.pressure = ⟨[], none⟩ ∧ t.grout.refusal = ⟨0, none⟩ ∧ t.grout.overp = ⟨0, none⟩ ∧
      t.grout.flow = ⟨0, false, false, 0, false⟩ ∧ t.grout.valves.length = 6) ∧
    (t.fe.scanCount = 0 ∧ t.fe.scan = List.replicate 16 .notScanned ∧ t.fe.invert1 = s.fe.invert1 ∧
      t.fe.invert2 = s.fe.invert2 ∧ t.wall.tilt = List.replicate 16 ⟨0, none⟩) ∧
    (t.archive = { s.archive with activity := .idle } ∧
      t.link = ⟨.waiting, [], none, false, false, .stopped, false⟩ ∧
      t.faults = { s.faults with trip := false, emergency := ⟨false, false, false, none⟩ }) ∧
    (t.phase = s.phase ∧ t.resets = s.resets ∧ t.estopHigh = s.estopHigh ∧ t.wallTripHigh = s.wallTripHigh ∧
      t.notices = s.notices ∧ t.draws = s.draws ∧ t.pending = s.pending) ∧
    (t.grout.state = .idle ∧ t.grout.pass = none ∧ t.grout.queue = [] ∧ t.grout.ports = s.grout.ports ∧
      t.grout.cure = s.grout.cure ∧ t.grout.pump = ⟨0, 0⟩ ∧ t.grout.flow.stray = 0 ∧ t.grout.waiting = 0 ∧
      t.grout.lastRun = none ∧ ∀ v ∈ t.grout.valves, v.state = .closed) ∧
    (t.faults.trip = false ∧ t.faults.emergency.set = false ∧ t.link.lost = false ∧ t.link.queue = []) ∧
    (t.rows = s.rows.map (fun r => { r with reserved := 0 }) ∧ t.reg = s.reg ∧ t.plans = s.plans ∧
      t.wall.points = s.wall.points ∧ t.fe.cals = s.fe.cals ∧ t.site = s.site ∧ t.archive.slots = s.archive.slots ∧
      t.archive.nextNumber = s.archive.nextNumber ∧ t.archive.nextSlot = s.archive.nextSlot ∧
      t.notices.levels = s.notices.levels ∧ t.notices.floor = s.notices.floor)) ∧
  (∀ s : State,
    let t := s.beginStartUp
    let cause : ResetCause := if s.resets.power then .power else if s.resets.pin then .pin else .command
    let clockLost := s.resets.power = true ∧ s.resets.backupLost = true
    let now := if clockLost then none else s.now
    t.phase = .startUp ∧ t.resets = { s.resets with recorded := cause } ∧
    (t.s1 = { s.s1 with passed := t.s1.passed } ∧ t.s2 = { s.s2 with passed := t.s2.passed } ∧ t.winch = s.winch ∧
      t.grout = s.grout ∧ t.fe = s.fe ∧ t.wall = s.wall ∧ t.link = s.link ∧ t.faults.trip = s.faults.trip ∧
      t.faults.emergency = s.faults.emergency ∧ t.estopHigh = s.estopHigh ∧ t.wallTripHigh = s.wallTripHigh ∧
      t.notices.levels = s.notices.levels ∧ t.notices.floor = s.notices.floor) ∧
    t.reg = s.reg.map (Entry.convert now) ∧ t.archive = s.archive.scan ∧ t.plans = s.plans ∧ t.rows = s.rows ∧
    (cause = .command → t.faults.det = s.faults.det ∧ t.faults.comb = s.faults.comb ∧
      t.faults.records = s.faults.records ∧ t.site = s.site ∧ t.s1.passed = s.s1.passed ∧ t.s2.passed = s.s2.passed) ∧
    (cause = .pin → t.faults.det = 0#20 ∧ t.faults.comb = 0#6 ∧ t.faults.records = [none, none, none, none] ∧
      t.s1.passed = false ∧ t.s2.passed = false ∧ t.site = { s.site with locked := false }) ∧
    (cause = .power → t.faults.records = [none, none, none, none] ∧ t.s1.passed = false ∧ t.s2.passed = false ∧
      t.site =
        { s.site with
          locked := false, tags := [0, 0, 0, 0], clock := if clockLost then 0 else s.site.clock
          clockValid := if clockLost then false else s.site.clockValid } ∧
      (∀ f ∈ Flag.all, t.flag f = decide (f = .clockLost ∧ clockLost)) ∧
      t.faults.comb = (if clockLost ∧ s.site.limits.combMask.getLsbD 19 = false then 0x20#6 else 0#6)) ∧
    (let code := match cause with | .power => 1 | .pin => 2 | .command => 3
     t.notices.entries =
      (if s.notices.level .resetDone = .off then [] else [⟨.resetDone, .system, none, code, s.now, 0, false⟩]) ++
      (if clockLost ∧ s.notices.level .clockLost ≠ .off then [⟨.clockLost, .system, none, 0, none, 0, false⟩] else [])) ∧
    t.notices.overflow = false) ∧
  (∀ (s : State) (ok : Bool),
    (s.phase ≠ .startUp → exec (.startUpEnd ok) s = .next s) ∧
    (s.phase = .startUp →
      ∃ t, exec (.startUpEnd ok) s = .next t ∧ t.phase = .running ∧ t.faults.trip = t.tripJudged ∧
        t.resets = { s.resets with power := false, pin := false, command := false, backupLost := false } ∧
        t.link.rx = .waiting ∧ t.link.queue = [] ∧ t.link.reply = none ∧ t.link.overrun = false ∧
        t.link.lost = false ∧ t.link.watch = s.watchFromSettings ∧
        (t.faults.emergency.set = true ↔ s.estopHigh = false ∨ s.wallTripHigh = false ∨ s.faults.emergency.set = true) ∧
        t.reg = s.reg ∧ t.site = s.site ∧ t.rows = s.rows ∧ t.plans = s.plans ∧ t.s1 = s.s1 ∧ t.s2 = s.s2 ∧
        t.winch = s.winch ∧ t.grout = s.grout ∧ t.wall = s.wall ∧ t.fe = s.fe)) ∧
  (∀ s : State, s.phase = .startUp →
    let erasing (b : Nat) : Prop := 1 ≤ b ∧ b ≤ 8 ∧ s.archive.block b = .erasing
    let linesRead (u : State) : State :=
      if u.estopHigh = true ∧ u.wallTripHigh = true then u
      else
        State.notice { u with faults := { u.faults with emergency := ⟨true, !u.estopHigh, !u.wallTripHigh, u.now⟩ } }
          .emergency .system none (if u.estopHigh then 2 else if u.wallTripHigh then 1 else Config.bothLinesDetail.toNat)
    let ringJudged (u : State) : State :=
      if slotAt u.archive.slots u.archive.nextSlot ≠ none then
        u.notice .archiveFull .archive none ((u.archive.nextSlot - 1) / 128 + 1)
      else u
    let up (u : State) : State :=
      let v := ringJudged (linesRead u)
      { v with
        phase := .running
        resets := { s.resets with power := false, pin := false, command := false, backupLost := false }
        faults := { v.faults with trip := decide (v.faults.comb &&& ~~~v.site.limits.tripMask ≠ 0#6) }
        link := { Link.rest with watch := s.watchFromSettings } }
    ((∀ b, ¬erasing b) → ∀ ok, exec (.startUpEnd ok) s = .next (up s)) ∧
    (∀ b, erasing b → (∀ c, erasing c → b ≤ c) →
      exec (.startUpEnd true) s =
        .next (up { s with archive :=
          { s.archive with
            slots := s.archive.slots.filter fun p => !decide ((p.1 - 1) / 128 + 1 = b)
            blocks := s.archive.blocks.set (b - 1) .empty, activity := .idle } }) ∧
      exec (.startUpEnd false) s =
        .next (up (State.raise
          { s with archive := { s.archive with blocks := s.archive.blocks.set (b - 1) .exported, activity := .idle } }
          .archiveWrite)))) ∧
  (∀ (now : Option Nat) (e : Entry),
    let c := e.convert now
    (e.stage ≠ .stressing → e.stage ≠ .closing → e.pass = none → c = e) ∧
    (e.stage = .stressing → e.pass = none → e.prior ≠ some .closing →
      c.stage = (if e.counted then .lockFault else e.prior.getD .grouted) ∧ c.prior = none ∧ c.test = none ∧
      c.interrupted = some .test ∧ c.attempts = e.attempts ∧ c.decl = e.decl ∧ c.passes = e.passes ∧
      (∃ r, c.result = some r ∧ r.endKind = .aborted ∧ r.abort = some .reset ∧ r.endTime = none ∧ r.readings = []) ∧
      ∀ m, e.test = some m →
        c.result = some
          { stn := m.stn, slot := m.slot, shape := m.shape, start := m.start, endTime := none, endKind := .aborted
            abort := some .reset, seatDone := decide (m.shape = .full) && e.counted, readings := []
            ksPrimary := none, ksExtended := none, extendedUsed := false, figures := none, lockTarget := none
            liftLoad := none, verdict := none, reasons := [] }) ∧
    (∀ p, e.pass = some p → e.stage ≠ .stressing → e.stage ≠ .closing →
      c = { e with
        passes := e.passes ++ [⟨p.kind, p.port, p.start, now, none, none, none, .interrupted⟩], pass := none
        interrupted := some .grout, stage := if p.kind = .primary then .placed else e.stage
        postDone := if p.kind = .post then e.postDone + 1 else e.postDone }) ∧
    (∀ k, e.stage = .closing → e.pass = none → e.prior = some k →
      c = { e with stage := k, prior := none, interrupted := some .close }))
end

