-- ==== Sys2Proof/Laws/State.lean ====
section
/-! SUPPORT. Each named update of the state, field by field: what it writes, and the fields it leaves as they were. -/

namespace Sys2Proof.Machine

variable (s : State)

/-! ## setStn -/

@[simp] theorem State.setStn_phase (st : Stn) (x : Station) : (s.setStn st x).phase = s.phase := by cases st <;> rfl
@[simp] theorem State.setStn_resets (st : Stn) (x : Station) : (s.setStn st x).resets = s.resets := by cases st <;> rfl
@[simp] theorem State.setStn_estopHigh (st : Stn) (x : Station) : (s.setStn st x).estopHigh = s.estopHigh := by cases st <;> rfl
@[simp] theorem State.setStn_wallTripHigh (st : Stn) (x : Station) : (s.setStn st x).wallTripHigh = s.wallTripHigh := by cases st <;> rfl
@[simp] theorem State.setStn_reg (st : Stn) (x : Station) : (s.setStn st x).reg = s.reg := by cases st <;> rfl
@[simp] theorem State.setStn_plans (st : Stn) (x : Station) : (s.setStn st x).plans = s.plans := by cases st <;> rfl
@[simp] theorem State.setStn_winch (st : Stn) (x : Station) : (s.setStn st x).winch = s.winch := by cases st <;> rfl
@[simp] theorem State.setStn_grout (st : Stn) (x : Station) : (s.setStn st x).grout = s.grout := by cases st <;> rfl
@[simp] theorem State.setStn_fe (st : Stn) (x : Station) : (s.setStn st x).fe = s.fe := by cases st <;> rfl
@[simp] theorem State.setStn_faults (st : Stn) (x : Station) : (s.setStn st x).faults = s.faults := by cases st <;> rfl
@[simp] theorem State.setStn_wall (st : Stn) (x : Station) : (s.setStn st x).wall = s.wall := by cases st <;> rfl
@[simp] theorem State.setStn_rows (st : Stn) (x : Station) : (s.setStn st x).rows = s.rows := by cases st <;> rfl
@[simp] theorem State.setStn_archive (st : Stn) (x : Station) : (s.setStn st x).archive = s.archive := by cases st <;> rfl
@[simp] theorem State.setStn_notices (st : Stn) (x : Station) : (s.setStn st x).notices = s.notices := by cases st <;> rfl
@[simp] theorem State.setStn_link (st : Stn) (x : Station) : (s.setStn st x).link = s.link := by cases st <;> rfl
@[simp] theorem State.setStn_site (st : Stn) (x : Station) : (s.setStn st x).site = s.site := by cases st <;> rfl
@[simp] theorem State.setStn_draws (st : Stn) (x : Station) : (s.setStn st x).draws = s.draws := by cases st <;> rfl
@[simp] theorem State.setStn_pending (st : Stn) (x : Station) : (s.setStn st x).pending = s.pending := by cases st <;> rfl

/-! ## modStn -/

@[simp] theorem State.modStn_phase (st : Stn) (f : Station → Station) : (s.modStn st f).phase = s.phase := by cases st <;> rfl
@[simp] theorem State.modStn_resets (st : Stn) (f : Station → Station) : (s.modStn st f).resets = s.resets := by cases st <;> rfl
@[simp] theorem State.modStn_estopHigh (st : Stn) (f : Station → Station) : (s.modStn st f).estopHigh = s.estopHigh := by cases st <;> rfl
@[simp] theorem State.modStn_wallTripHigh (st : Stn) (f : Station → Station) : (s.modStn st f).wallTripHigh = s.wallTripHigh := by cases st <;> rfl
@[simp] theorem State.modStn_reg (st : Stn) (f : Station → Station) : (s.modStn st f).reg = s.reg := by cases st <;> rfl
@[simp] theorem State.modStn_plans (st : Stn) (f : Station → Station) : (s.modStn st f).plans = s.plans := by cases st <;> rfl
@[simp] theorem State.modStn_winch (st : Stn) (f : Station → Station) : (s.modStn st f).winch = s.winch := by cases st <;> rfl
@[simp] theorem State.modStn_grout (st : Stn) (f : Station → Station) : (s.modStn st f).grout = s.grout := by cases st <;> rfl
@[simp] theorem State.modStn_fe (st : Stn) (f : Station → Station) : (s.modStn st f).fe = s.fe := by cases st <;> rfl
@[simp] theorem State.modStn_faults (st : Stn) (f : Station → Station) : (s.modStn st f).faults = s.faults := by cases st <;> rfl
@[simp] theorem State.modStn_wall (st : Stn) (f : Station → Station) : (s.modStn st f).wall = s.wall := by cases st <;> rfl
@[simp] theorem State.modStn_rows (st : Stn) (f : Station → Station) : (s.modStn st f).rows = s.rows := by cases st <;> rfl
@[simp] theorem State.modStn_archive (st : Stn) (f : Station → Station) : (s.modStn st f).archive = s.archive := by cases st <;> rfl
@[simp] theorem State.modStn_notices (st : Stn) (f : Station → Station) : (s.modStn st f).notices = s.notices := by cases st <;> rfl
@[simp] theorem State.modStn_link (st : Stn) (f : Station → Station) : (s.modStn st f).link = s.link := by cases st <;> rfl
@[simp] theorem State.modStn_site (st : Stn) (f : Station → Station) : (s.modStn st f).site = s.site := by cases st <;> rfl
@[simp] theorem State.modStn_draws (st : Stn) (f : Station → Station) : (s.modStn st f).draws = s.draws := by cases st <;> rfl
@[simp] theorem State.modStn_pending (st : Stn) (f : Station → Station) : (s.modStn st f).pending = s.pending := by cases st <;> rfl

/-! ## modCtx -/

@[simp] theorem State.modCtx_phase (st : Stn) (f : TestCtx → TestCtx) : (s.modCtx st f).phase = s.phase := by cases st <;> rfl
@[simp] theorem State.modCtx_resets (st : Stn) (f : TestCtx → TestCtx) : (s.modCtx st f).resets = s.resets := by cases st <;> rfl
@[simp] theorem State.modCtx_estopHigh (st : Stn) (f : TestCtx → TestCtx) : (s.modCtx st f).estopHigh = s.estopHigh := by cases st <;> rfl
@[simp] theorem State.modCtx_wallTripHigh (st : Stn) (f : TestCtx → TestCtx) : (s.modCtx st f).wallTripHigh = s.wallTripHigh := by cases st <;> rfl
@[simp] theorem State.modCtx_reg (st : Stn) (f : TestCtx → TestCtx) : (s.modCtx st f).reg = s.reg := by cases st <;> rfl
@[simp] theorem State.modCtx_plans (st : Stn) (f : TestCtx → TestCtx) : (s.modCtx st f).plans = s.plans := by cases st <;> rfl
@[simp] theorem State.modCtx_winch (st : Stn) (f : TestCtx → TestCtx) : (s.modCtx st f).winch = s.winch := by cases st <;> rfl
@[simp] theorem State.modCtx_grout (st : Stn) (f : TestCtx → TestCtx) : (s.modCtx st f).grout = s.grout := by cases st <;> rfl
@[simp] theorem State.modCtx_fe (st : Stn) (f : TestCtx → TestCtx) : (s.modCtx st f).fe = s.fe := by cases st <;> rfl
@[simp] theorem State.modCtx_faults (st : Stn) (f : TestCtx → TestCtx) : (s.modCtx st f).faults = s.faults := by cases st <;> rfl
@[simp] theorem State.modCtx_wall (st : Stn) (f : TestCtx → TestCtx) : (s.modCtx st f).wall = s.wall := by cases st <;> rfl
@[simp] theorem State.modCtx_rows (st : Stn) (f : TestCtx → TestCtx) : (s.modCtx st f).rows = s.rows := by cases st <;> rfl
@[simp] theorem State.modCtx_archive (st : Stn) (f : TestCtx → TestCtx) : (s.modCtx st f).archive = s.archive := by cases st <;> rfl
@[simp] theorem State.modCtx_notices (st : Stn) (f : TestCtx → TestCtx) : (s.modCtx st f).notices = s.notices := by cases st <;> rfl
@[simp] theorem State.modCtx_link (st : Stn) (f : TestCtx → TestCtx) : (s.modCtx st f).link = s.link := by cases st <;> rfl
@[simp] theorem State.modCtx_site (st : Stn) (f : TestCtx → TestCtx) : (s.modCtx st f).site = s.site := by cases st <;> rfl
@[simp] theorem State.modCtx_draws (st : Stn) (f : TestCtx → TestCtx) : (s.modCtx st f).draws = s.draws := by cases st <;> rfl
@[simp] theorem State.modCtx_pending (st : Stn) (f : TestCtx → TestCtx) : (s.modCtx st f).pending = s.pending := by cases st <;> rfl

/-! ## modEntry -/

@[simp] theorem State.modEntry_phase (id : Nat) (f : Entry → Entry) : (s.modEntry id f).phase = s.phase := rfl
@[simp] theorem State.modEntry_resets (id : Nat) (f : Entry → Entry) : (s.modEntry id f).resets = s.resets := rfl
@[simp] theorem State.modEntry_estopHigh (id : Nat) (f : Entry → Entry) : (s.modEntry id f).estopHigh = s.estopHigh := rfl
@[simp] theorem State.modEntry_wallTripHigh (id : Nat) (f : Entry → Entry) : (s.modEntry id f).wallTripHigh = s.wallTripHigh := rfl
@[simp] theorem State.modEntry_reg (id : Nat) (f : Entry → Entry) :
    (s.modEntry id f).reg = s.reg.map fun e => if e.decl.id == id then f e else e := rfl
@[simp] theorem State.modEntry_plans (id : Nat) (f : Entry → Entry) : (s.modEntry id f).plans = s.plans := rfl
@[simp] theorem State.modEntry_s1 (id : Nat) (f : Entry → Entry) : (s.modEntry id f).s1 = s.s1 := rfl
@[simp] theorem State.modEntry_s2 (id : Nat) (f : Entry → Entry) : (s.modEntry id f).s2 = s.s2 := rfl
@[simp] theorem State.modEntry_winch (id : Nat) (f : Entry → Entry) : (s.modEntry id f).winch = s.winch := rfl
@[simp] theorem State.modEntry_grout (id : Nat) (f : Entry → Entry) : (s.modEntry id f).grout = s.grout := rfl
@[simp] theorem State.modEntry_fe (id : Nat) (f : Entry → Entry) : (s.modEntry id f).fe = s.fe := rfl
@[simp] theorem State.modEntry_faults (id : Nat) (f : Entry → Entry) : (s.modEntry id f).faults = s.faults := rfl
@[simp] theorem State.modEntry_wall (id : Nat) (f : Entry → Entry) : (s.modEntry id f).wall = s.wall := rfl
@[simp] theorem State.modEntry_rows (id : Nat) (f : Entry → Entry) : (s.modEntry id f).rows = s.rows := rfl
@[simp] theorem State.modEntry_archive (id : Nat) (f : Entry → Entry) : (s.modEntry id f).archive = s.archive := rfl
@[simp] theorem State.modEntry_notices (id : Nat) (f : Entry → Entry) : (s.modEntry id f).notices = s.notices := rfl
@[simp] theorem State.modEntry_link (id : Nat) (f : Entry → Entry) : (s.modEntry id f).link = s.link := rfl
@[simp] theorem State.modEntry_site (id : Nat) (f : Entry → Entry) : (s.modEntry id f).site = s.site := rfl
@[simp] theorem State.modEntry_draws (id : Nat) (f : Entry → Entry) : (s.modEntry id f).draws = s.draws := rfl
@[simp] theorem State.modEntry_pending (id : Nat) (f : Entry → Entry) : (s.modEntry id f).pending = s.pending := rfl

/-! ## modRow -/

@[simp] theorem State.modRow_phase (r : Nat) (f : Row → Row) : (s.modRow r f).phase = s.phase := rfl
@[simp] theorem State.modRow_resets (r : Nat) (f : Row → Row) : (s.modRow r f).resets = s.resets := rfl
@[simp] theorem State.modRow_estopHigh (r : Nat) (f : Row → Row) : (s.modRow r f).estopHigh = s.estopHigh := rfl
@[simp] theorem State.modRow_wallTripHigh (r : Nat) (f : Row → Row) : (s.modRow r f).wallTripHigh = s.wallTripHigh := rfl
@[simp] theorem State.modRow_reg (r : Nat) (f : Row → Row) : (s.modRow r f).reg = s.reg := rfl
@[simp] theorem State.modRow_plans (r : Nat) (f : Row → Row) : (s.modRow r f).plans = s.plans := rfl
@[simp] theorem State.modRow_s1 (r : Nat) (f : Row → Row) : (s.modRow r f).s1 = s.s1 := rfl
@[simp] theorem State.modRow_s2 (r : Nat) (f : Row → Row) : (s.modRow r f).s2 = s.s2 := rfl
@[simp] theorem State.modRow_winch (r : Nat) (f : Row → Row) : (s.modRow r f).winch = s.winch := rfl
@[simp] theorem State.modRow_grout (r : Nat) (f : Row → Row) : (s.modRow r f).grout = s.grout := rfl
@[simp] theorem State.modRow_fe (r : Nat) (f : Row → Row) : (s.modRow r f).fe = s.fe := rfl
@[simp] theorem State.modRow_faults (r : Nat) (f : Row → Row) : (s.modRow r f).faults = s.faults := rfl
@[simp] theorem State.modRow_wall (r : Nat) (f : Row → Row) : (s.modRow r f).wall = s.wall := rfl
@[simp] theorem State.modRow_rows (r : Nat) (f : Row → Row) :
    (s.modRow r f).rows = s.rows.set (r - 1) (f (s.row r)) := rfl
@[simp] theorem State.modRow_archive (r : Nat) (f : Row → Row) : (s.modRow r f).archive = s.archive := rfl
@[simp] theorem State.modRow_notices (r : Nat) (f : Row → Row) : (s.modRow r f).notices = s.notices := rfl
@[simp] theorem State.modRow_link (r : Nat) (f : Row → Row) : (s.modRow r f).link = s.link := rfl
@[simp] theorem State.modRow_site (r : Nat) (f : Row → Row) : (s.modRow r f).site = s.site := rfl
@[simp] theorem State.modRow_draws (r : Nat) (f : Row → Row) : (s.modRow r f).draws = s.draws := rfl
@[simp] theorem State.modRow_pending (r : Nat) (f : Row → Row) : (s.modRow r f).pending = s.pending := rfl

/-! ## modGrout -/

@[simp] theorem State.modGrout_phase (f : Grout → Grout) : (s.modGrout f).phase = s.phase := rfl
@[simp] theorem State.modGrout_resets (f : Grout → Grout) : (s.modGrout f).resets = s.resets := rfl
@[simp] theorem State.modGrout_estopHigh (f : Grout → Grout) : (s.modGrout f).estopHigh = s.estopHigh := rfl
@[simp] theorem State.modGrout_wallTripHigh (f : Grout → Grout) : (s.modGrout f).wallTripHigh = s.wallTripHigh := rfl
@[simp] theorem State.modGrout_reg (f : Grout → Grout) : (s.modGrout f).reg = s.reg := rfl
@[simp] theorem State.modGrout_plans (f : Grout → Grout) : (s.modGrout f).plans = s.plans := rfl
@[simp] theorem State.modGrout_s1 (f : Grout → Grout) : (s.modGrout f).s1 = s.s1 := rfl
@[simp] theorem State.modGrout_s2 (f : Grout → Grout) : (s.modGrout f).s2 = s.s2 := rfl
@[simp] theorem State.modGrout_winch (f : Grout → Grout) : (s.modGrout f).winch = s.winch := rfl
@[simp] theorem State.modGrout_grout (f : Grout → Grout) :
    (s.modGrout f).grout = (f s.grout).judgeFlow := rfl
@[simp] theorem State.modGrout_fe (f : Grout → Grout) : (s.modGrout f).fe = s.fe := rfl
@[simp] theorem State.modGrout_faults (f : Grout → Grout) : (s.modGrout f).faults = s.faults := rfl
@[simp] theorem State.modGrout_wall (f : Grout → Grout) : (s.modGrout f).wall = s.wall := rfl
@[simp] theorem State.modGrout_rows (f : Grout → Grout) : (s.modGrout f).rows = s.rows := rfl
@[simp] theorem State.modGrout_archive (f : Grout → Grout) : (s.modGrout f).archive = s.archive := rfl
@[simp] theorem State.modGrout_notices (f : Grout → Grout) : (s.modGrout f).notices = s.notices := rfl
@[simp] theorem State.modGrout_link (f : Grout → Grout) : (s.modGrout f).link = s.link := rfl
@[simp] theorem State.modGrout_site (f : Grout → Grout) : (s.modGrout f).site = s.site := rfl
@[simp] theorem State.modGrout_draws (f : Grout → Grout) : (s.modGrout f).draws = s.draws := rfl
@[simp] theorem State.modGrout_pending (f : Grout → Grout) : (s.modGrout f).pending = s.pending := rfl

/-! ## notice -/

@[simp] theorem State.notice_phase (k : NoticeKind) (o : Origin) (a : Option Nat) (d : Nat) : (s.notice k o a d).phase = s.phase := rfl
@[simp] theorem State.notice_resets (k : NoticeKind) (o : Origin) (a : Option Nat) (d : Nat) : (s.notice k o a d).resets = s.resets := rfl
@[simp] theorem State.notice_estopHigh (k : NoticeKind) (o : Origin) (a : Option Nat) (d : Nat) : (s.notice k o a d).estopHigh = s.estopHigh := rfl
@[simp] theorem State.notice_wallTripHigh (k : NoticeKind) (o : Origin) (a : Option Nat) (d : Nat) : (s.notice k o a d).wallTripHigh = s.wallTripHigh := rfl
@[simp] theorem State.notice_reg (k : NoticeKind) (o : Origin) (a : Option Nat) (d : Nat) : (s.notice k o a d).reg = s.reg := rfl
@[simp] theorem State.notice_plans (k : NoticeKind) (o : Origin) (a : Option Nat) (d : Nat) : (s.notice k o a d).plans = s.plans := rfl
@[simp] theorem State.notice_s1 (k : NoticeKind) (o : Origin) (a : Option Nat) (d : Nat) : (s.notice k o a d).s1 = s.s1 := rfl
@[simp] theorem State.notice_s2 (k : NoticeKind) (o : Origin) (a : Option Nat) (d : Nat) : (s.notice k o a d).s2 = s.s2 := rfl
@[simp] theorem State.notice_winch (k : NoticeKind) (o : Origin) (a : Option Nat) (d : Nat) : (s.notice k o a d).winch = s.winch := rfl
@[simp] theorem State.notice_grout (k : NoticeKind) (o : Origin) (a : Option Nat) (d : Nat) : (s.notice k o a d).grout = s.grout := rfl
@[simp] theorem State.notice_fe (k : NoticeKind) (o : Origin) (a : Option Nat) (d : Nat) : (s.notice k o a d).fe = s.fe := rfl
@[simp] theorem State.notice_faults (k : NoticeKind) (o : Origin) (a : Option Nat) (d : Nat) : (s.notice k o a d).faults = s.faults := rfl
@[simp] theorem State.notice_wall (k : NoticeKind) (o : Origin) (a : Option Nat) (d : Nat) : (s.notice k o a d).wall = s.wall := rfl
@[simp] theorem State.notice_rows (k : NoticeKind) (o : Origin) (a : Option Nat) (d : Nat) : (s.notice k o a d).rows = s.rows := rfl
@[simp] theorem State.notice_archive (k : NoticeKind) (o : Origin) (a : Option Nat) (d : Nat) : (s.notice k o a d).archive = s.archive := rfl
@[simp] theorem State.notice_notices (k : NoticeKind) (o : Origin) (a : Option Nat) (d : Nat) :
    (s.notice k o a d).notices = s.notices.raise k o a d s.now := rfl
@[simp] theorem State.notice_link (k : NoticeKind) (o : Origin) (a : Option Nat) (d : Nat) : (s.notice k o a d).link = s.link := rfl
@[simp] theorem State.notice_site (k : NoticeKind) (o : Origin) (a : Option Nat) (d : Nat) : (s.notice k o a d).site = s.site := rfl
@[simp] theorem State.notice_draws (k : NoticeKind) (o : Origin) (a : Option Nat) (d : Nat) : (s.notice k o a d).draws = s.draws := rfl
@[simp] theorem State.notice_pending (k : NoticeKind) (o : Origin) (a : Option Nat) (d : Nat) : (s.notice k o a d).pending = s.pending := rfl

/-! ## endCondition -/

@[simp] theorem State.endCondition_phase (k : NoticeKind) (o : Origin) : (s.endCondition k o).phase = s.phase := rfl
@[simp] theorem State.endCondition_resets (k : NoticeKind) (o : Origin) : (s.endCondition k o).resets = s.resets := rfl
@[simp] theorem State.endCondition_estopHigh (k : NoticeKind) (o : Origin) : (s.endCondition k o).estopHigh = s.estopHigh := rfl
@[simp] theorem State.endCondition_wallTripHigh (k : NoticeKind) (o : Origin) : (s.endCondition k o).wallTripHigh = s.wallTripHigh := rfl
@[simp] theorem State.endCondition_reg (k : NoticeKind) (o : Origin) : (s.endCondition k o).reg = s.reg := rfl
@[simp] theorem State.endCondition_plans (k : NoticeKind) (o : Origin) : (s.endCondition k o).plans = s.plans := rfl
@[simp] theorem State.endCondition_s1 (k : NoticeKind) (o : Origin) : (s.endCondition k o).s1 = s.s1 := rfl
@[simp] theorem State.endCondition_s2 (k : NoticeKind) (o : Origin) : (s.endCondition k o).s2 = s.s2 := rfl
@[simp] theorem State.endCondition_winch (k : NoticeKind) (o : Origin) : (s.endCondition k o).winch = s.winch := rfl
@[simp] theorem State.endCondition_grout (k : NoticeKind) (o : Origin) : (s.endCondition k o).grout = s.grout := rfl
@[simp] theorem State.endCondition_fe (k : NoticeKind) (o : Origin) : (s.endCondition k o).fe = s.fe := rfl
@[simp] theorem State.endCondition_faults (k : NoticeKind) (o : Origin) : (s.endCondition k o).faults = s.faults := rfl
@[simp] theorem State.endCondition_wall (k : NoticeKind) (o : Origin) : (s.endCondition k o).wall = s.wall := rfl
@[simp] theorem State.endCondition_rows (k : NoticeKind) (o : Origin) : (s.endCondition k o).rows = s.rows := rfl
@[simp] theorem State.endCondition_archive (k : NoticeKind) (o : Origin) : (s.endCondition k o).archive = s.archive := rfl
@[simp] theorem State.endCondition_link (k : NoticeKind) (o : Origin) : (s.endCondition k o).link = s.link := rfl
@[simp] theorem State.endCondition_site (k : NoticeKind) (o : Origin) : (s.endCondition k o).site = s.site := rfl
@[simp] theorem State.endCondition_draws (k : NoticeKind) (o : Origin) : (s.endCondition k o).draws = s.draws := rfl
@[simp] theorem State.endCondition_pending (k : NoticeKind) (o : Origin) : (s.endCondition k o).pending = s.pending := rfl

/-! ## clearFlag -/

@[simp] theorem State.clearFlag_phase (f : Flag) : (s.clearFlag f).phase = s.phase := rfl
@[simp] theorem State.clearFlag_resets (f : Flag) : (s.clearFlag f).resets = s.resets := rfl
@[simp] theorem State.clearFlag_estopHigh (f : Flag) : (s.clearFlag f).estopHigh = s.estopHigh := rfl
@[simp] theorem State.clearFlag_wallTripHigh (f : Flag) : (s.clearFlag f).wallTripHigh = s.wallTripHigh := rfl
@[simp] theorem State.clearFlag_reg (f : Flag) : (s.clearFlag f).reg = s.reg := rfl
@[simp] theorem State.clearFlag_plans (f : Flag) : (s.clearFlag f).plans = s.plans := rfl
@[simp] theorem State.clearFlag_s1 (f : Flag) : (s.clearFlag f).s1 = s.s1 := rfl
@[simp] theorem State.clearFlag_s2 (f : Flag) : (s.clearFlag f).s2 = s.s2 := rfl
@[simp] theorem State.clearFlag_winch (f : Flag) : (s.clearFlag f).winch = s.winch := rfl
@[simp] theorem State.clearFlag_grout (f : Flag) : (s.clearFlag f).grout = s.grout := rfl
@[simp] theorem State.clearFlag_fe (f : Flag) : (s.clearFlag f).fe = s.fe := rfl
@[simp] theorem State.clearFlag_wall (f : Flag) : (s.clearFlag f).wall = s.wall := rfl
@[simp] theorem State.clearFlag_rows (f : Flag) : (s.clearFlag f).rows = s.rows := rfl
@[simp] theorem State.clearFlag_archive (f : Flag) : (s.clearFlag f).archive = s.archive := rfl
@[simp] theorem State.clearFlag_notices (f : Flag) : (s.clearFlag f).notices = s.notices := rfl
@[simp] theorem State.clearFlag_link (f : Flag) : (s.clearFlag f).link = s.link := rfl
@[simp] theorem State.clearFlag_site (f : Flag) : (s.clearFlag f).site = s.site := rfl
@[simp] theorem State.clearFlag_draws (f : Flag) : (s.clearFlag f).draws = s.draws := rfl
@[simp] theorem State.clearFlag_pending (f : Flag) : (s.clearFlag f).pending = s.pending := rfl

/-! ## clearGroupFlags -/

@[simp] theorem State.clearGroupFlags_phase (g : Nat) : (s.clearGroupFlags g).phase = s.phase := rfl
@[simp] theorem State.clearGroupFlags_resets (g : Nat) : (s.clearGroupFlags g).resets = s.resets := rfl
@[simp] theorem State.clearGroupFlags_estopHigh (g : Nat) : (s.clearGroupFlags g).estopHigh = s.estopHigh := rfl
@[simp] theorem State.clearGroupFlags_wallTripHigh (g : Nat) : (s.clearGroupFlags g).wallTripHigh = s.wallTripHigh := rfl
@[simp] theorem State.clearGroupFlags_reg (g : Nat) : (s.clearGroupFlags g).reg = s.reg := rfl
@[simp] theorem State.clearGroupFlags_plans (g : Nat) : (s.clearGroupFlags g).plans = s.plans := rfl
@[simp] theorem State.clearGroupFlags_s1 (g : Nat) : (s.clearGroupFlags g).s1 = s.s1 := rfl
@[simp] theorem State.clearGroupFlags_s2 (g : Nat) : (s.clearGroupFlags g).s2 = s.s2 := rfl
@[simp] theorem State.clearGroupFlags_winch (g : Nat) : (s.clearGroupFlags g).winch = s.winch := rfl
@[simp] theorem State.clearGroupFlags_grout (g : Nat) : (s.clearGroupFlags g).grout = s.grout := rfl
@[simp] theorem State.clearGroupFlags_fe (g : Nat) : (s.clearGroupFlags g).fe = s.fe := rfl
@[simp] theorem State.clearGroupFlags_wall (g : Nat) : (s.clearGroupFlags g).wall = s.wall := rfl
@[simp] theorem State.clearGroupFlags_rows (g : Nat) : (s.clearGroupFlags g).rows = s.rows := rfl
@[simp] theorem State.clearGroupFlags_archive (g : Nat) : (s.clearGroupFlags g).archive = s.archive := rfl
@[simp] theorem State.clearGroupFlags_notices (g : Nat) : (s.clearGroupFlags g).notices = s.notices := rfl
@[simp] theorem State.clearGroupFlags_link (g : Nat) : (s.clearGroupFlags g).link = s.link := rfl
@[simp] theorem State.clearGroupFlags_site (g : Nat) : (s.clearGroupFlags g).site = s.site := rfl
@[simp] theorem State.clearGroupFlags_draws (g : Nat) : (s.clearGroupFlags g).draws = s.draws := rfl
@[simp] theorem State.clearGroupFlags_pending (g : Nat) : (s.clearGroupFlags g).pending = s.pending := rfl

/-! ## setPlan -/

@[simp] theorem State.setPlan_phase (n : Nat) (p : Option Plan) : (s.setPlan n p).phase = s.phase := rfl
@[simp] theorem State.setPlan_resets (n : Nat) (p : Option Plan) : (s.setPlan n p).resets = s.resets := rfl
@[simp] theorem State.setPlan_estopHigh (n : Nat) (p : Option Plan) : (s.setPlan n p).estopHigh = s.estopHigh := rfl
@[simp] theorem State.setPlan_wallTripHigh (n : Nat) (p : Option Plan) : (s.setPlan n p).wallTripHigh = s.wallTripHigh := rfl
@[simp] theorem State.setPlan_reg (n : Nat) (p : Option Plan) : (s.setPlan n p).reg = s.reg := rfl
@[simp] theorem State.setPlan_plans (n : Nat) (p : Option Plan) :
    (s.setPlan n p).plans = s.plans.set (n - 1) p := rfl
@[simp] theorem State.setPlan_s1 (n : Nat) (p : Option Plan) : (s.setPlan n p).s1 = s.s1 := rfl
@[simp] theorem State.setPlan_s2 (n : Nat) (p : Option Plan) : (s.setPlan n p).s2 = s.s2 := rfl
@[simp] theorem State.setPlan_winch (n : Nat) (p : Option Plan) : (s.setPlan n p).winch = s.winch := rfl
@[simp] theorem State.setPlan_grout (n : Nat) (p : Option Plan) : (s.setPlan n p).grout = s.grout := rfl
@[simp] theorem State.setPlan_fe (n : Nat) (p : Option Plan) : (s.setPlan n p).fe = s.fe := rfl
@[simp] theorem State.setPlan_faults (n : Nat) (p : Option Plan) : (s.setPlan n p).faults = s.faults := rfl
@[simp] theorem State.setPlan_wall (n : Nat) (p : Option Plan) : (s.setPlan n p).wall = s.wall := rfl
@[simp] theorem State.setPlan_rows (n : Nat) (p : Option Plan) : (s.setPlan n p).rows = s.rows := rfl
@[simp] theorem State.setPlan_archive (n : Nat) (p : Option Plan) : (s.setPlan n p).archive = s.archive := rfl
@[simp] theorem State.setPlan_notices (n : Nat) (p : Option Plan) : (s.setPlan n p).notices = s.notices := rfl
@[simp] theorem State.setPlan_link (n : Nat) (p : Option Plan) : (s.setPlan n p).link = s.link := rfl
@[simp] theorem State.setPlan_site (n : Nat) (p : Option Plan) : (s.setPlan n p).site = s.site := rfl
@[simp] theorem State.setPlan_draws (n : Nat) (p : Option Plan) : (s.setPlan n p).draws = s.draws := rfl
@[simp] theorem State.setPlan_pending (n : Nat) (p : Option Plan) : (s.setPlan n p).pending = s.pending := rfl

/-! ## setPort -/

@[simp] theorem State.setPort_phase (n : Nat) (a : Option Nat) : (s.setPort n a).phase = s.phase := rfl
@[simp] theorem State.setPort_resets (n : Nat) (a : Option Nat) : (s.setPort n a).resets = s.resets := rfl
@[simp] theorem State.setPort_estopHigh (n : Nat) (a : Option Nat) : (s.setPort n a).estopHigh = s.estopHigh := rfl
@[simp] theorem State.setPort_wallTripHigh (n : Nat) (a : Option Nat) : (s.setPort n a).wallTripHigh = s.wallTripHigh := rfl
@[simp] theorem State.setPort_reg (n : Nat) (a : Option Nat) : (s.setPort n a).reg = s.reg := rfl
@[simp] theorem State.setPort_plans (n : Nat) (a : Option Nat) : (s.setPort n a).plans = s.plans := rfl
@[simp] theorem State.setPort_s1 (n : Nat) (a : Option Nat) : (s.setPort n a).s1 = s.s1 := rfl
@[simp] theorem State.setPort_s2 (n : Nat) (a : Option Nat) : (s.setPort n a).s2 = s.s2 := rfl
@[simp] theorem State.setPort_winch (n : Nat) (a : Option Nat) : (s.setPort n a).winch = s.winch := rfl
@[simp] theorem State.setPort_grout (n : Nat) (a : Option Nat) :
    (s.setPort n a).grout = { s.grout with ports := s.grout.ports.set (n - 1) a } := rfl
@[simp] theorem State.setPort_fe (n : Nat) (a : Option Nat) : (s.setPort n a).fe = s.fe := rfl
@[simp] theorem State.setPort_faults (n : Nat) (a : Option Nat) : (s.setPort n a).faults = s.faults := rfl
@[simp] theorem State.setPort_wall (n : Nat) (a : Option Nat) : (s.setPort n a).wall = s.wall := rfl
@[simp] theorem State.setPort_rows (n : Nat) (a : Option Nat) : (s.setPort n a).rows = s.rows := rfl
@[simp] theorem State.setPort_archive (n : Nat) (a : Option Nat) : (s.setPort n a).archive = s.archive := rfl
@[simp] theorem State.setPort_notices (n : Nat) (a : Option Nat) : (s.setPort n a).notices = s.notices := rfl
@[simp] theorem State.setPort_link (n : Nat) (a : Option Nat) : (s.setPort n a).link = s.link := rfl
@[simp] theorem State.setPort_site (n : Nat) (a : Option Nat) : (s.setPort n a).site = s.site := rfl
@[simp] theorem State.setPort_draws (n : Nat) (a : Option Nat) : (s.setPort n a).draws = s.draws := rfl
@[simp] theorem State.setPort_pending (n : Nat) (a : Option Nat) : (s.setPort n a).pending = s.pending := rfl

/-! ## joinQueue -/

@[simp] theorem State.joinQueue_phase (a : Nat) (k : PassKind) : (s.joinQueue a k).phase = s.phase := rfl
@[simp] theorem State.joinQueue_resets (a : Nat) (k : PassKind) : (s.joinQueue a k).resets = s.resets := rfl
@[simp] theorem State.joinQueue_estopHigh (a : Nat) (k : PassKind) : (s.joinQueue a k).estopHigh = s.estopHigh := rfl
@[simp] theorem State.joinQueue_wallTripHigh (a : Nat) (k : PassKind) : (s.joinQueue a k).wallTripHigh = s.wallTripHigh := rfl
@[simp] theorem State.joinQueue_reg (a : Nat) (k : PassKind) : (s.joinQueue a k).reg = s.reg := rfl
@[simp] theorem State.joinQueue_plans (a : Nat) (k : PassKind) : (s.joinQueue a k).plans = s.plans := rfl
@[simp] theorem State.joinQueue_s1 (a : Nat) (k : PassKind) : (s.joinQueue a k).s1 = s.s1 := rfl
@[simp] theorem State.joinQueue_s2 (a : Nat) (k : PassKind) : (s.joinQueue a k).s2 = s.s2 := rfl
@[simp] theorem State.joinQueue_winch (a : Nat) (k : PassKind) : (s.joinQueue a k).winch = s.winch := rfl
@[simp] theorem State.joinQueue_fe (a : Nat) (k : PassKind) : (s.joinQueue a k).fe = s.fe := rfl
@[simp] theorem State.joinQueue_faults (a : Nat) (k : PassKind) : (s.joinQueue a k).faults = s.faults := rfl
@[simp] theorem State.joinQueue_wall (a : Nat) (k : PassKind) : (s.joinQueue a k).wall = s.wall := rfl
@[simp] theorem State.joinQueue_rows (a : Nat) (k : PassKind) : (s.joinQueue a k).rows = s.rows := rfl
@[simp] theorem State.joinQueue_archive (a : Nat) (k : PassKind) : (s.joinQueue a k).archive = s.archive := rfl
@[simp] theorem State.joinQueue_notices (a : Nat) (k : PassKind) : (s.joinQueue a k).notices = s.notices := rfl
@[simp] theorem State.joinQueue_link (a : Nat) (k : PassKind) : (s.joinQueue a k).link = s.link := rfl
@[simp] theorem State.joinQueue_site (a : Nat) (k : PassKind) : (s.joinQueue a k).site = s.site := rfl
@[simp] theorem State.joinQueue_draws (a : Nat) (k : PassKind) : (s.joinQueue a k).draws = s.draws := rfl
@[simp] theorem State.joinQueue_pending (a : Nat) (k : PassKind) : (s.joinQueue a k).pending = s.pending := rfl

/-! ## setWallPoint -/

@[simp] theorem State.setWallPoint_phase (n : Nat) (p : Point) : (s.setWallPoint n p).phase = s.phase := rfl
@[simp] theorem State.setWallPoint_resets (n : Nat) (p : Point) : (s.setWallPoint n p).resets = s.resets := rfl
@[simp] theorem State.setWallPoint_estopHigh (n : Nat) (p : Point) : (s.setWallPoint n p).estopHigh = s.estopHigh := rfl
@[simp] theorem State.setWallPoint_wallTripHigh (n : Nat) (p : Point) : (s.setWallPoint n p).wallTripHigh = s.wallTripHigh := rfl
@[simp] theorem State.setWallPoint_reg (n : Nat) (p : Point) : (s.setWallPoint n p).reg = s.reg := rfl
@[simp] theorem State.setWallPoint_plans (n : Nat) (p : Point) : (s.setWallPoint n p).plans = s.plans := rfl
@[simp] theorem State.setWallPoint_s1 (n : Nat) (p : Point) : (s.setWallPoint n p).s1 = s.s1 := rfl
@[simp] theorem State.setWallPoint_s2 (n : Nat) (p : Point) : (s.setWallPoint n p).s2 = s.s2 := rfl
@[simp] theorem State.setWallPoint_winch (n : Nat) (p : Point) : (s.setWallPoint n p).winch = s.winch := rfl
@[simp] theorem State.setWallPoint_grout (n : Nat) (p : Point) : (s.setWallPoint n p).grout = s.grout := rfl
@[simp] theorem State.setWallPoint_fe (n : Nat) (p : Point) : (s.setWallPoint n p).fe = s.fe := rfl
@[simp] theorem State.setWallPoint_faults (n : Nat) (p : Point) : (s.setWallPoint n p).faults = s.faults := rfl
@[simp] theorem State.setWallPoint_wall (n : Nat) (p : Point) :
    (s.setWallPoint n p).wall = { s.wall with points := s.wall.points.set (n - 1) p } := rfl
@[simp] theorem State.setWallPoint_rows (n : Nat) (p : Point) : (s.setWallPoint n p).rows = s.rows := rfl
@[simp] theorem State.setWallPoint_archive (n : Nat) (p : Point) : (s.setWallPoint n p).archive = s.archive := rfl
@[simp] theorem State.setWallPoint_notices (n : Nat) (p : Point) : (s.setWallPoint n p).notices = s.notices := rfl
@[simp] theorem State.setWallPoint_link (n : Nat) (p : Point) : (s.setWallPoint n p).link = s.link := rfl
@[simp] theorem State.setWallPoint_site (n : Nat) (p : Point) : (s.setWallPoint n p).site = s.site := rfl
@[simp] theorem State.setWallPoint_draws (n : Nat) (p : Point) : (s.setWallPoint n p).draws = s.draws := rfl
@[simp] theorem State.setWallPoint_pending (n : Nat) (p : Point) : (s.setWallPoint n p).pending = s.pending := rfl

/-! ## zeroTilt -/

@[simp] theorem State.zeroTilt_phase (n : Nat) : (s.zeroTilt n).phase = s.phase := rfl
@[simp] theorem State.zeroTilt_resets (n : Nat) : (s.zeroTilt n).resets = s.resets := rfl
@[simp] theorem State.zeroTilt_estopHigh (n : Nat) : (s.zeroTilt n).estopHigh = s.estopHigh := rfl
@[simp] theorem State.zeroTilt_wallTripHigh (n : Nat) : (s.zeroTilt n).wallTripHigh = s.wallTripHigh := rfl
@[simp] theorem State.zeroTilt_reg (n : Nat) : (s.zeroTilt n).reg = s.reg := rfl
@[simp] theorem State.zeroTilt_plans (n : Nat) : (s.zeroTilt n).plans = s.plans := rfl
@[simp] theorem State.zeroTilt_s1 (n : Nat) : (s.zeroTilt n).s1 = s.s1 := rfl
@[simp] theorem State.zeroTilt_s2 (n : Nat) : (s.zeroTilt n).s2 = s.s2 := rfl
@[simp] theorem State.zeroTilt_winch (n : Nat) : (s.zeroTilt n).winch = s.winch := rfl
@[simp] theorem State.zeroTilt_grout (n : Nat) : (s.zeroTilt n).grout = s.grout := rfl
@[simp] theorem State.zeroTilt_fe (n : Nat) : (s.zeroTilt n).fe = s.fe := rfl
@[simp] theorem State.zeroTilt_faults (n : Nat) : (s.zeroTilt n).faults = s.faults := rfl
@[simp] theorem State.zeroTilt_wall (n : Nat) :
    (s.zeroTilt n).wall = { s.wall with tilt := zeroAt s.wall.tilt n } := rfl
@[simp] theorem State.zeroTilt_rows (n : Nat) : (s.zeroTilt n).rows = s.rows := rfl
@[simp] theorem State.zeroTilt_archive (n : Nat) : (s.zeroTilt n).archive = s.archive := rfl
@[simp] theorem State.zeroTilt_notices (n : Nat) : (s.zeroTilt n).notices = s.notices := rfl
@[simp] theorem State.zeroTilt_link (n : Nat) : (s.zeroTilt n).link = s.link := rfl
@[simp] theorem State.zeroTilt_site (n : Nat) : (s.zeroTilt n).site = s.site := rfl
@[simp] theorem State.zeroTilt_draws (n : Nat) : (s.zeroTilt n).draws = s.draws := rfl
@[simp] theorem State.zeroTilt_pending (n : Nat) : (s.zeroTilt n).pending = s.pending := rfl

/-! ## setRx -/

@[simp] theorem State.setRx_phase (rx : Rx) : (s.setRx rx).phase = s.phase := rfl
@[simp] theorem State.setRx_resets (rx : Rx) : (s.setRx rx).resets = s.resets := rfl
@[simp] theorem State.setRx_estopHigh (rx : Rx) : (s.setRx rx).estopHigh = s.estopHigh := rfl
@[simp] theorem State.setRx_wallTripHigh (rx : Rx) : (s.setRx rx).wallTripHigh = s.wallTripHigh := rfl
@[simp] theorem State.setRx_reg (rx : Rx) : (s.setRx rx).reg = s.reg := rfl
@[simp] theorem State.setRx_plans (rx : Rx) : (s.setRx rx).plans = s.plans := rfl
@[simp] theorem State.setRx_s1 (rx : Rx) : (s.setRx rx).s1 = s.s1 := rfl
@[simp] theorem State.setRx_s2 (rx : Rx) : (s.setRx rx).s2 = s.s2 := rfl
@[simp] theorem State.setRx_winch (rx : Rx) : (s.setRx rx).winch = s.winch := rfl
@[simp] theorem State.setRx_grout (rx : Rx) : (s.setRx rx).grout = s.grout := rfl
@[simp] theorem State.setRx_fe (rx : Rx) : (s.setRx rx).fe = s.fe := rfl
@[simp] theorem State.setRx_faults (rx : Rx) : (s.setRx rx).faults = s.faults := rfl
@[simp] theorem State.setRx_wall (rx : Rx) : (s.setRx rx).wall = s.wall := rfl
@[simp] theorem State.setRx_rows (rx : Rx) : (s.setRx rx).rows = s.rows := rfl
@[simp] theorem State.setRx_archive (rx : Rx) : (s.setRx rx).archive = s.archive := rfl
@[simp] theorem State.setRx_notices (rx : Rx) : (s.setRx rx).notices = s.notices := rfl
@[simp] theorem State.setRx_link (rx : Rx) :
    (s.setRx rx).link = { s.link with rx := rx } := rfl
@[simp] theorem State.setRx_site (rx : Rx) : (s.setRx rx).site = s.site := rfl
@[simp] theorem State.setRx_draws (rx : Rx) : (s.setRx rx).draws = s.draws := rfl
@[simp] theorem State.setRx_pending (rx : Rx) : (s.setRx rx).pending = s.pending := rfl

/-! ## setLine -/

@[simp] theorem State.setLine_phase (l : EmLine) (high : Bool) : (s.setLine l high).phase = s.phase := by cases l <;> rfl
@[simp] theorem State.setLine_resets (l : EmLine) (high : Bool) : (s.setLine l high).resets = s.resets := by cases l <;> rfl
@[simp] theorem State.setLine_reg (l : EmLine) (high : Bool) : (s.setLine l high).reg = s.reg := by cases l <;> rfl
@[simp] theorem State.setLine_plans (l : EmLine) (high : Bool) : (s.setLine l high).plans = s.plans := by cases l <;> rfl
@[simp] theorem State.setLine_s1 (l : EmLine) (high : Bool) : (s.setLine l high).s1 = s.s1 := by cases l <;> rfl
@[simp] theorem State.setLine_s2 (l : EmLine) (high : Bool) : (s.setLine l high).s2 = s.s2 := by cases l <;> rfl
@[simp] theorem State.setLine_winch (l : EmLine) (high : Bool) : (s.setLine l high).winch = s.winch := by cases l <;> rfl
@[simp] theorem State.setLine_grout (l : EmLine) (high : Bool) : (s.setLine l high).grout = s.grout := by cases l <;> rfl
@[simp] theorem State.setLine_fe (l : EmLine) (high : Bool) : (s.setLine l high).fe = s.fe := by cases l <;> rfl
@[simp] theorem State.setLine_faults (l : EmLine) (high : Bool) : (s.setLine l high).faults = s.faults := by cases l <;> rfl
@[simp] theorem State.setLine_wall (l : EmLine) (high : Bool) : (s.setLine l high).wall = s.wall := by cases l <;> rfl
@[simp] theorem State.setLine_rows (l : EmLine) (high : Bool) : (s.setLine l high).rows = s.rows := by cases l <;> rfl
@[simp] theorem State.setLine_archive (l : EmLine) (high : Bool) : (s.setLine l high).archive = s.archive := by cases l <;> rfl
@[simp] theorem State.setLine_notices (l : EmLine) (high : Bool) : (s.setLine l high).notices = s.notices := by cases l <;> rfl
@[simp] theorem State.setLine_link (l : EmLine) (high : Bool) : (s.setLine l high).link = s.link := by cases l <;> rfl
@[simp] theorem State.setLine_site (l : EmLine) (high : Bool) : (s.setLine l high).site = s.site := by cases l <;> rfl
@[simp] theorem State.setLine_draws (l : EmLine) (high : Bool) : (s.setLine l high).draws = s.draws := by cases l <;> rfl
@[simp] theorem State.setLine_pending (l : EmLine) (high : Bool) : (s.setLine l high).pending = s.pending := by cases l <;> rfl

/-! ## removePassCause -/

@[simp] theorem State.removePassCause_phase (c : Cause) : (s.removePassCause c).phase = s.phase := rfl
@[simp] theorem State.removePassCause_resets (c : Cause) : (s.removePassCause c).resets = s.resets := rfl
@[simp] theorem State.removePassCause_estopHigh (c : Cause) : (s.removePassCause c).estopHigh = s.estopHigh := rfl
@[simp] theorem State.removePassCause_wallTripHigh (c : Cause) : (s.removePassCause c).wallTripHigh = s.wallTripHigh := rfl
@[simp] theorem State.removePassCause_reg (c : Cause) : (s.removePassCause c).reg = s.reg := rfl
@[simp] theorem State.removePassCause_plans (c : Cause) : (s.removePassCause c).plans = s.plans := rfl
@[simp] theorem State.removePassCause_s1 (c : Cause) : (s.removePassCause c).s1 = s.s1 := rfl
@[simp] theorem State.removePassCause_s2 (c : Cause) : (s.removePassCause c).s2 = s.s2 := rfl
@[simp] theorem State.removePassCause_winch (c : Cause) : (s.removePassCause c).winch = s.winch := rfl
@[simp] theorem State.removePassCause_fe (c : Cause) : (s.removePassCause c).fe = s.fe := rfl
@[simp] theorem State.removePassCause_faults (c : Cause) : (s.removePassCause c).faults = s.faults := rfl
@[simp] theorem State.removePassCause_wall (c : Cause) : (s.removePassCause c).wall = s.wall := rfl
@[simp] theorem State.removePassCause_rows (c : Cause) : (s.removePassCause c).rows = s.rows := rfl
@[simp] theorem State.removePassCause_archive (c : Cause) : (s.removePassCause c).archive = s.archive := rfl
@[simp] theorem State.removePassCause_notices (c : Cause) : (s.removePassCause c).notices = s.notices := rfl
@[simp] theorem State.removePassCause_link (c : Cause) : (s.removePassCause c).link = s.link := rfl
@[simp] theorem State.removePassCause_site (c : Cause) : (s.removePassCause c).site = s.site := rfl
@[simp] theorem State.removePassCause_draws (c : Cause) : (s.removePassCause c).draws = s.draws := rfl
@[simp] theorem State.removePassCause_pending (c : Cause) : (s.removePassCause c).pending = s.pending := rfl

/-! ## formReply -/

@[simp] theorem State.formReply_phase (k t : Nat) (a : Answer) : (s.formReply k t a).phase = s.phase := rfl
@[simp] theorem State.formReply_resets (k t : Nat) (a : Answer) : (s.formReply k t a).resets = s.resets := rfl
@[simp] theorem State.formReply_estopHigh (k t : Nat) (a : Answer) : (s.formReply k t a).estopHigh = s.estopHigh := rfl
@[simp] theorem State.formReply_wallTripHigh (k t : Nat) (a : Answer) : (s.formReply k t a).wallTripHigh = s.wallTripHigh := rfl
@[simp] theorem State.formReply_reg (k t : Nat) (a : Answer) : (s.formReply k t a).reg = s.reg := rfl
@[simp] theorem State.formReply_plans (k t : Nat) (a : Answer) : (s.formReply k t a).plans = s.plans := rfl
@[simp] theorem State.formReply_s1 (k t : Nat) (a : Answer) : (s.formReply k t a).s1 = s.s1 := rfl
@[simp] theorem State.formReply_s2 (k t : Nat) (a : Answer) : (s.formReply k t a).s2 = s.s2 := rfl
@[simp] theorem State.formReply_winch (k t : Nat) (a : Answer) : (s.formReply k t a).winch = s.winch := rfl
@[simp] theorem State.formReply_grout (k t : Nat) (a : Answer) : (s.formReply k t a).grout = s.grout := rfl
@[simp] theorem State.formReply_fe (k t : Nat) (a : Answer) : (s.formReply k t a).fe = s.fe := rfl
@[simp] theorem State.formReply_faults (k t : Nat) (a : Answer) : (s.formReply k t a).faults = s.faults := rfl
@[simp] theorem State.formReply_wall (k t : Nat) (a : Answer) : (s.formReply k t a).wall = s.wall := rfl
@[simp] theorem State.formReply_rows (k t : Nat) (a : Answer) : (s.formReply k t a).rows = s.rows := rfl
@[simp] theorem State.formReply_archive (k t : Nat) (a : Answer) : (s.formReply k t a).archive = s.archive := rfl
@[simp] theorem State.formReply_notices (k t : Nat) (a : Answer) : (s.formReply k t a).notices = s.notices := rfl
@[simp] theorem State.formReply_site (k t : Nat) (a : Answer) : (s.formReply k t a).site = s.site := rfl
@[simp] theorem State.formReply_draws (k t : Nat) (a : Answer) : (s.formReply k t a).draws = s.draws + 1 := rfl
@[simp] theorem State.formReply_pending (k t : Nat) (a : Answer) : (s.formReply k t a).pending = s.pending := rfl

/-! ## removeEntry -/

@[simp] theorem State.removeEntry_phase (id : Nat) : (s.removeEntry id).phase = s.phase := rfl
@[simp] theorem State.removeEntry_resets (id : Nat) : (s.removeEntry id).resets = s.resets := rfl
@[simp] theorem State.removeEntry_estopHigh (id : Nat) : (s.removeEntry id).estopHigh = s.estopHigh := rfl
@[simp] theorem State.removeEntry_wallTripHigh (id : Nat) : (s.removeEntry id).wallTripHigh = s.wallTripHigh := rfl
@[simp] theorem State.removeEntry_reg (id : Nat) :
    (s.removeEntry id).reg = s.reg.filter fun e => e.decl.id != id := rfl
@[simp] theorem State.removeEntry_plans (id : Nat) : (s.removeEntry id).plans = s.plans := rfl
@[simp] theorem State.removeEntry_s1 (id : Nat) : (s.removeEntry id).s1 = s.s1 := rfl
@[simp] theorem State.removeEntry_s2 (id : Nat) : (s.removeEntry id).s2 = s.s2 := rfl
@[simp] theorem State.removeEntry_winch (id : Nat) : (s.removeEntry id).winch = s.winch := rfl
@[simp] theorem State.removeEntry_fe (id : Nat) : (s.removeEntry id).fe = s.fe := rfl
@[simp] theorem State.removeEntry_faults (id : Nat) : (s.removeEntry id).faults = s.faults := rfl
@[simp] theorem State.removeEntry_wall (id : Nat) : (s.removeEntry id).wall = s.wall := rfl
@[simp] theorem State.removeEntry_rows (id : Nat) : (s.removeEntry id).rows = s.rows := rfl
@[simp] theorem State.removeEntry_archive (id : Nat) : (s.removeEntry id).archive = s.archive := rfl
@[simp] theorem State.removeEntry_notices (id : Nat) : (s.removeEntry id).notices = s.notices := rfl
@[simp] theorem State.removeEntry_link (id : Nat) : (s.removeEntry id).link = s.link := rfl
@[simp] theorem State.removeEntry_site (id : Nat) : (s.removeEntry id).site = s.site := rfl
@[simp] theorem State.removeEntry_draws (id : Nat) : (s.removeEntry id).draws = s.draws := rfl
@[simp] theorem State.removeEntry_pending (id : Nat) : (s.removeEntry id).pending = s.pending := rfl

/-! ## taken -/

@[simp] theorem State.taken_phase (i : Instr) : (s.taken i).phase = s.phase := rfl
@[simp] theorem State.taken_resets (i : Instr) : (s.taken i).resets = s.resets := rfl
@[simp] theorem State.taken_estopHigh (i : Instr) : (s.taken i).estopHigh = s.estopHigh := rfl
@[simp] theorem State.taken_wallTripHigh (i : Instr) : (s.taken i).wallTripHigh = s.wallTripHigh := rfl
@[simp] theorem State.taken_reg (i : Instr) : (s.taken i).reg = s.reg := rfl
@[simp] theorem State.taken_plans (i : Instr) : (s.taken i).plans = s.plans := rfl
@[simp] theorem State.taken_s1 (i : Instr) : (s.taken i).s1 = s.s1 := rfl
@[simp] theorem State.taken_s2 (i : Instr) : (s.taken i).s2 = s.s2 := rfl
@[simp] theorem State.taken_winch (i : Instr) : (s.taken i).winch = s.winch := rfl
@[simp] theorem State.taken_grout (i : Instr) : (s.taken i).grout = s.grout := rfl
@[simp] theorem State.taken_fe (i : Instr) : (s.taken i).fe = s.fe := rfl
@[simp] theorem State.taken_faults (i : Instr) : (s.taken i).faults = s.faults := rfl
@[simp] theorem State.taken_wall (i : Instr) : (s.taken i).wall = s.wall := rfl
@[simp] theorem State.taken_rows (i : Instr) : (s.taken i).rows = s.rows := rfl
@[simp] theorem State.taken_archive (i : Instr) : (s.taken i).archive = s.archive := rfl
@[simp] theorem State.taken_notices (i : Instr) : (s.taken i).notices = s.notices := rfl
@[simp] theorem State.taken_site (i : Instr) : (s.taken i).site = s.site := rfl
@[simp] theorem State.taken_draws (i : Instr) : (s.taken i).draws = s.draws := rfl
@[simp] theorem State.taken_pending (i : Instr) : (s.taken i).pending = s.pending := rfl

/-! ## Reading back -/

@[simp] theorem State.stn_setStn_same (st : Stn) (x : Station) : (s.setStn st x).stn st = x := by cases st <;> rfl
@[simp] theorem State.stn_setStn_other (st : Stn) (x : Station) : (s.setStn st x).stn st.other = s.stn st.other := by
  cases st <;> rfl
@[simp] theorem State.stn_modStn_same (st : Stn) (f : Station → Station) : (s.modStn st f).stn st = f (s.stn st) := by
  cases st <;> rfl
@[simp] theorem State.stn_modStn_other (st : Stn) (f : Station → Station) :
    (s.modStn st f).stn st.other = s.stn st.other := by
  cases st <;> rfl
@[simp] theorem State.enabled_setStn (st u : Stn) (x : Station) : (s.setStn st x).enabled u = s.enabled u := by
  cases st <;> cases u <;> rfl
@[simp] theorem State.setStn_setStn (st : Stn) (x y : Station) : (s.setStn st x).setStn st y = s.setStn st y := by
  cases st <;> rfl

/-! ## The accessors of a state whose link alone has changed -/

@[simp] theorem State.taken_stn (i : Instr) (st : Stn) : (s.taken i).stn st = s.stn st := by cases st <;> rfl
@[simp] theorem State.taken_enabled (i : Instr) (st : Stn) : (s.taken i).enabled st = s.enabled st := by cases st <;> rfl
@[simp] theorem State.taken_rating (i : Instr) (st : Stn) : (s.taken i).rating st = s.rating st := by cases st <;> rfl
@[simp] theorem State.taken_entry (i : Instr) (id : Nat) : (s.taken i).entry id = s.entry id := rfl
@[simp] theorem State.taken_combined (i : Instr) (g : Nat) : (s.taken i).combined g = s.combined g := rfl
@[simp] theorem State.taken_flag (i : Instr) (f : Flag) : (s.taken i).flag f = s.flag f := rfl
@[simp] theorem State.taken_plan (i : Instr) (n : Nat) : (s.taken i).plan n = s.plan n := rfl
@[simp] theorem State.taken_row (i : Instr) (r : Nat) : (s.taken i).row r = s.row r := rfl
@[simp] theorem State.taken_ceiling (i : Instr) (r : Nat) : (s.taken i).ceiling r = s.ceiling r := rfl
@[simp] theorem State.taken_portOf (i : Instr) (a : Nat) : (s.taken i).portOf a = s.portOf a := rfl
@[simp] theorem State.taken_point (i : Instr) (p : Nat) : (s.taken i).point p = s.point p := rfl
@[simp] theorem State.taken_scanned (i : Instr) (p : Nat) : (s.taken i).scanned p = s.scanned p := rfl
@[simp] theorem State.taken_now (i : Instr) : (s.taken i).now = s.now := rfl
@[simp] theorem State.taken_queued (i : Instr) (a : Nat) : (s.taken i).queued a = s.queued a := rfl
@[simp] theorem State.taken_inFlight (i : Instr) (e : Entry) : (s.taken i).inFlight e = s.inFlight e := rfl
@[simp] theorem State.taken_passActive (i : Instr) (a : Nat) : (s.taken i).passActive a = s.passActive a := rfl
@[simp] theorem State.taken_lost (i : Instr) : (s.taken i).link.lost = s.link.lost := rfl

end Sys2Proof.Machine
end

