-- ==== Sys2Proof/Laws/Archive.lean ====
section
/-! SUPPORT. The sparse slots of the Archive: a slot written is read back, the others stay, and every operation keeps the
canonical form. -/

namespace Sys2Proof.Machine

theorem slotAt_setSlot_self (l : List (Nat × Slot)) (n : Nat) (x : Slot) : slotAt (setSlot l n x) n = some x := by
  induction l with
  | nil => simp [setSlot, slotAt]
  | cons p rest ih =>
    obtain ⟨m, y⟩ := p
    simp only [setSlot]
    split
    · simp [slotAt]
    · split
      · simp [slotAt]
      · rename_i _ h
        have : (m == n) = false := by simp [Ne.symm h]
        simpa [slotAt, this] using ih

theorem slotAt_setSlot_ne (l : List (Nat × Slot)) (n k : Nat) (x : Slot) (h : k ≠ n) :
    slotAt (setSlot l n x) k = slotAt l k := by
  have hn : (n == k) = false := by simp [Ne.symm h]
  induction l with
  | nil => simp [setSlot, slotAt, hn]
  | cons p rest ih =>
    obtain ⟨m, y⟩ := p
    simp only [setSlot]
    split
    · simp [slotAt, hn]
    · split
      · rename_i _ e
        subst e
        simp [slotAt, hn]
      · simp only [slotAt, List.find?_cons] at ih ⊢
        split
        · rfl
        · exact ih

/-- A list in canonical form, its head written apart. -/
theorem slotsWf_cons (n : Nat) (y : Slot) (rest : List (Nat × Slot)) :
    slotsWf ((n, y) :: rest) = true ↔
      1 ≤ n ∧ n ≤ Config.slotCount ∧ (∀ p ∈ rest, n < p.1) ∧ slotsWf rest = true := by
  induction rest generalizing n y with
  | nil => simp [slotsWf]
  | cons p more ih =>
    obtain ⟨m, z⟩ := p
    simp only [slotsWf, Bool.and_eq_true, decide_eq_true_eq, ih, List.mem_cons, forall_eq_or_imp]
    constructor
    · rintro ⟨⟨h1, h2⟩, h3, h4, h5, h6⟩
      exact ⟨h1, by omega, ⟨h2, fun p hp => Nat.lt_trans h2 (h5 p hp)⟩, h3, h4, h5, h6⟩
    · rintro ⟨h1, _, ⟨h2, _⟩, h3⟩
      exact ⟨⟨h1, h2⟩, h3⟩

/-- Every slot number of the list written is a slot number of the old list, or the one written. -/
theorem mem_setSlot (l : List (Nat × Slot)) (n : Nat) (x : Slot) : ∀ p ∈ setSlot l n x, p ∈ l ∨ p.1 = n := by
  induction l with
  | nil => simp [setSlot]
  | cons q rest ih =>
    obtain ⟨m, y⟩ := q
    simp only [setSlot]
    split
    · intro p hp
      rcases List.mem_cons.mp hp with rfl | hp
      · exact .inr rfl
      · exact .inl hp
    · split
      · intro p hp
        rcases List.mem_cons.mp hp with rfl | hp
        · exact .inr rfl
        · exact .inl (List.mem_cons_of_mem _ hp)
      · intro p hp
        rcases List.mem_cons.mp hp with rfl | hp
        · exact .inl List.mem_cons_self
        · rcases ih p hp with h | h
          · exact .inl (List.mem_cons_of_mem _ h)
          · exact .inr h

/-- R163: writing a slot of the ring keeps the canonical form. -/
theorem slotsWf_setSlot (l : List (Nat × Slot)) (n : Nat) (x : Slot) (h : slotsWf l = true) (h1 : 1 ≤ n)
    (h2 : n ≤ Config.slotCount) : slotsWf (setSlot l n x) = true := by
  induction l with
  | nil => simp [setSlot, slotsWf, h1, h2]
  | cons q rest ih =>
    obtain ⟨m, y⟩ := q
    obtain ⟨g1, g2, g3, g4⟩ := (slotsWf_cons m y rest).mp h
    simp only [setSlot]
    split
    · rename_i hlt
      refine (slotsWf_cons n x _).mpr ⟨h1, h2, fun p hp => ?_, h⟩
      rcases List.mem_cons.mp hp with rfl | hp
      · exact hlt
      · exact Nat.lt_trans hlt (g3 p hp)
    · split
      · rename_i _ e
        subst e
        exact (slotsWf_cons n x _).mpr ⟨h1, h2, g3, g4⟩
      · rename_i hlt hne
        refine (slotsWf_cons m y _).mpr ⟨g1, g2, fun p hp => ?_, ih g4⟩
        rcases mem_setSlot rest n x p hp with hp | hp
        · exact g3 p hp
        · omega

/-- A part of a list in canonical form is in canonical form. -/
theorem slotsWf_filter (l : List (Nat × Slot)) (keep : Nat × Slot → Bool) (h : slotsWf l = true) :
    slotsWf (l.filter keep) = true := by
  induction l with
  | nil => rfl
  | cons q rest ih =>
    obtain ⟨m, y⟩ := q
    obtain ⟨g1, g2, g3, g4⟩ := (slotsWf_cons m y rest).mp h
    rw [List.filter_cons]
    split
    · exact (slotsWf_cons m y _).mpr ⟨g1, g2, fun p hp => g3 p (List.mem_filter.mp hp).1, ih g4⟩
    · exact ih g4

/-- R171: erasing a block keeps the canonical form. -/
theorem slotsWf_eraseBlock (l : List (Nat × Slot)) (b : Nat) (h : slotsWf l = true) : slotsWf (eraseBlock l b) = true :=
  slotsWf_filter l _ h

/-- Changing what the slots hold, and not their numbers, keeps the canonical form. -/
theorem slotsWf_map (l : List (Nat × Slot)) (f : Slot → Slot) (h : slotsWf l = true) :
    slotsWf (l.map fun p => (p.1, f p.2)) = true := by
  induction l with
  | nil => rfl
  | cons q rest ih =>
    obtain ⟨m, y⟩ := q
    obtain ⟨g1, g2, g3, g4⟩ := (slotsWf_cons m y rest).mp h
    refine (slotsWf_cons m _ _).mpr ⟨g1, g2, fun p hp => ?_, ih g4⟩
    obtain ⟨q, hq, rfl⟩ := List.mem_map.mp hp
    exact g3 q hq

end Sys2Proof.Machine
end

