-- ==== Sys2Proof/Laws/Notices.lean ====
section
/-! SUPPORT. The pending-notice set and the guards: what a raise, an end and an evaluation can do. -/

namespace Sys2Proof.Machine

/-- R176: a raise keeps the levels and the floor. -/
theorem NoticeUnit.raise_levels (u : NoticeUnit) (k o a d t) :
    (u.raise k o a d t).levels = u.levels ∧ (u.raise k o a d t).floor = u.floor := by
  unfold NoticeUnit.raise
  dsimp only
  (repeat' split) <;> exact ⟨rfl, rfl⟩

/-- R176: a raise never gives more than 32 entries. -/
theorem NoticeUnit.raise_length (u : NoticeUnit) (k o a d t) (h : u.entries.length ≤ Config.maxNotices) :
    (u.raise k o a d t).entries.length ≤ Config.maxNotices := by
  unfold NoticeUnit.raise
  dsimp only
  split
  · exact h
  · split
    · simpa using h
    · split
      · rename_i h2
        simpa using h2
      · split
        · rw [List.length_append, List.length_singleton]
          by_cases hm : ∃ n ∈ u.entries, (u.level n.kind).rank = u.lowestRank
          · obtain ⟨n, hn, hr⟩ := hm
            have := List.length_eraseP_of_mem hn
              (p := fun n => (u.level n.kind).rank == u.lowestRank) (by simp [hr])
            have : 0 < u.entries.length := List.length_pos_of_mem hn
            omega
          · rename_i hlow
            exfalso
            apply hm
            have key : ∀ (l : List Notice) (m : Nat), l.foldl (fun m n => min m (u.level n.kind).rank) m = m ∨
                ∃ n ∈ l, (u.level n.kind).rank = l.foldl (fun m n => min m (u.level n.kind).rank) m := by
              intro l
              induction l with
              | nil => exact fun m => .inl rfl
              | cons x xs ih =>
                intro m
                rw [List.foldl_cons]
                rcases ih (min m (u.level x.kind).rank) with h1 | ⟨n, hn, h1⟩
                · rcases Nat.le_total m (u.level x.kind).rank with h2 | h2
                  · exact .inl (by rw [h1, Nat.min_eq_left h2])
                  · exact .inr ⟨x, List.mem_cons_self, by rw [h1, Nat.min_eq_right h2]⟩
                · exact .inr ⟨n, List.mem_cons_of_mem _ hn, h1⟩
            rcases key u.entries 3 with h1 | h1
            · have h3 : u.lowestRank = 3 := h1
              have : (u.level k).rank ≤ 3 := by cases u.level k <;> decide
              omega
            · exact h1
        · exact h

/-- R177: the end of a condition only takes entries out. -/
theorem State.endCondition_entries (s : State) (k : NoticeKind) (o : Origin) :
    ∀ n ∈ (s.endCondition k o).notices.entries, n ∈ s.notices.entries ∧ n.same k o = false := by
  intro n hn
  simpa [State.endCondition] using hn

/-- R94, R95: what an evaluation of an active guard leads to. -/
theorem Guard.eval_cases (g : Guard) (threshold n : Nat) (valid out : Bool) :
    (valid && out) = false ∧ g.eval threshold n valid out = (⟨0, some threshold⟩, false) ∨
    (valid && out) = true ∧ n ≤ min Config.guardEnd (g.count + 1) ∧
      g.eval threshold n valid out = (⟨0, some threshold⟩, true) ∨
    (valid && out) = true ∧ min Config.guardEnd (g.count + 1) < n ∧
      g.eval threshold n valid out = (⟨min Config.guardEnd (g.count + 1), some threshold⟩, false) := by
  unfold Guard.eval
  cases valid <;> cases out <;> simp
  omega

/-- R94: an evaluation keeps the count within its width. -/
theorem Guard.eval_sound (g : Guard) (threshold n : Nat) (valid out : Bool) : (g.eval threshold n valid out).1.sound := by
  rcases g.eval_cases threshold n valid out with ⟨_, h⟩ | ⟨_, _, h⟩ | ⟨_, _, h⟩ <;>
    simp [h, Guard.sound, Config.guardEnd]

/-- R78: a sample keeps the window within 16 values. -/
theorem pushWindow_length (win : List Int) (v : Int) (h : win.length ≤ Config.windowSize) :
    (pushWindow win v).length ≤ Config.windowSize := by
  unfold pushWindow
  split <;> simp [Config.windowSize] at * <;> omega

end Sys2Proof.Machine
end

