-- ==== Sys2Proof/Laws/Request.lean ====
section
/-! SUPPORT. What sending a request does, said once for each case of the Link Port: discarded before start-up ends, joined
to the queue, discarded by overrun, held back by LINK_LOST, or served. -/

namespace Sys2Proof.Machine

theorem State.event_running {s : State} (h : s.phase = .running) (f : State → State) : s.event f = .next (f s) := by
  simp [State.event, h]

theorem State.event_stopped {s : State} (h : s.phase ≠ .running) (f : State → State) : s.event f = .next s := by
  simp [State.event, h]

theorem State.linkFree_iff (s : State) : s.linkFree = true ↔ s.link.reply = none ∧ s.link.queue = [] := by
  simp [State.linkFree, Option.isNone_iff_eq_none, List.isEmpty_iff]

/-- R192: a frame that completes before start-up ends. -/
theorem State.frameArrives_stopped {s : State} (h : s.phase ≠ .running) (f : Frame) (take : State → State) :
    s.frameArrives f take = s := by
  simp [State.frameArrives, h]

/-- R189: restarting the watch touches the link alone. -/
theorem State.restartWatch_eq (s : State) :
    s.restartWatch = { s with link := { s.link with watch := match s.link.watch with
      | .stopped => .stopped
      | .running _ => s.watchFromSettings } } := by
  unfold State.restartWatch
  split <;> simp_all
  obtain ⟨_, _, _, _, _, _, _, _, _, _, _, _, _, _, _, _, l, _, _, _⟩ := s
  obtain ⟨_, _, _, _, _, w, _⟩ := l
  cases w <;> simp_all

/-- R185: a frame taken at once. -/
theorem State.frameArrives_taken {s : State} {i : Instr} (hp : s.phase = .running) (hr : s.link.reply = none)
    (hq : s.link.queue = []) (hk : knownKind (frameOf i).kind = true) (take : State → State) :
    s.frameArrives (frameOf i) take = take (s.taken i) := by
  simp [State.frameArrives, hp, hk, State.restartWatch_eq, hq, State.linkFree, hr, Config.inputFrames, State.taken] <;> rfl

/-- R186 checks 3 and 4: a request that the part takes at once. -/
theorem State.request_accepts {s : State} {i : Instr} (h : s.accepts i) (hk : knownKind (frameOf i).kind = true)
    (act : Act) :
    s.request i act = .next ((act (s.taken i)).1.formReply ((frameOf i).kind + 0x80) (frameOf i).tag (act (s.taken i)).2) := by
  obtain ⟨hp, hr, hq, hl⟩ := h
  have hlost : ((s.taken i).link.lost && !servedWhenLost (frameOf i).kind) = false := by
    show (s.link.lost && !servedWhenLost (frameOf i).kind) = false
    cases h0 : s.link.lost
    · rfl
    · simp [hl h0]
  simp only [State.request, State.frameArrives_taken hp hr hq hk, State.answer, hlost]
  rfl

/-- R190: a request the LINK_LOST state holds back. -/
theorem State.request_lost {s : State} {i : Instr} (hp : s.phase = .running) (hr : s.link.reply = none)
    (hq : s.link.queue = []) (hl : s.link.lost = true) (hn : servedWhenLost (frameOf i).kind = false)
    (hk : knownKind (frameOf i).kind = true) (act : Act) :
    s.request i act = .next ((s.taken i).formReply ((frameOf i).kind + 0x80) (frameOf i).tag (.plain .linkLost)) := by
  have hlost : ((s.taken i).link.lost && !servedWhenLost (frameOf i).kind) = true := by
    show (s.link.lost && !servedWhenLost (frameOf i).kind) = true
    simp [hl, hn]
  simp only [State.request, State.frameArrives_taken hp hr hq hk, State.answer, hlost]
  rfl

/-- What a served request leads to, from what its block does. -/
theorem Serves.of_act {i : Instr} {s : State} {act : Act} {effect : State → State} {a : Answer} (h : s.accepts i)
    (hk : knownKind (frameOf i).kind = true) (he : exec i s = s.request i act)
    (ha : act (s.taken i) = (effect (s.taken i), a)) : Serves i s effect a := by
  unfold Serves
  rw [he, State.request_accepts h hk, ha]

/-- A frame of kind 0, the form of an event row, is no request. -/
theorem event_unlisted {n : Nat} (h : n = 0) (hi : knownKind n = true) : False := by
  subst h; exact absurd hi (by decide)

/-- Every request of the catalogue goes to the Link Port with the act of its block. -/
theorem exec_request {i : Instr} (hi : i.isRequest = true) (s : State) : exec i s = s.request i (actOf i) := by
  cases i <;> first | rfl | exact (event_unlisted rfl hi).elim

/-- The kind of a request is listed. -/
theorem request_known {i : Instr} (hi : i.isRequest = true) : knownKind (frameOf i).kind = true := by
  cases i <;> first | rfl | exact hi | simp [Instr.isRequest] at hi

/-- R190: the kinds served while the LINK_LOST state is set: queries, IDENTIFY, TAKE_NOTICE and RESUME_LINK. -/
theorem servedWhenLost_iff {i : Instr} (hi : i.isRequest = true) :
    servedWhenLost (frameOf i).kind = true ↔ isQuery i = true ∨ (frameOf i).kind = 0x03 ∨ (frameOf i).kind = 0x04 := by
  cases i <;> first
    | exact (event_unlisted rfl hi).elim
    | (simp [Instr.isRequest] at hi; done)
    | (simp [servedWhenLost, isQuery, frameOf]; try decide)

/-- A part that runs, sends no reply, holds no frame and has its link takes every request at once. -/
theorem State.accepts_of_free {s : State}
    (h : s.phase = .running ∧ s.link.reply = none ∧ s.link.queue = [] ∧ s.link.lost = false) (i : Instr) :
    s.accepts i :=
  ⟨h.1, h.2.1, h.2.2.1, fun hl => absurd (h.2.2.2.symm.trans hl) (by decide)⟩

@[simp] theorem refuse_eq (s : State) (c : Resp) (d : Nat) : refuse s c d = (s, Answer.plain c d) := rfl

@[simp] theorem accept_eq (s : State) (a : Answer) : accept s a = (s, a) := rfl

@[simp] theorem ofCode_code (st : Stn) : Stn.ofCode st.code = some st := by cases st <;> rfl

theorem ofCode_none {n : Nat} (h1 : n ≠ 1) (h2 : n ≠ 2) : Stn.ofCode n = none := by
  unfold Stn.ofCode; split <;> simp_all

end Sys2Proof.Machine
end

