-- ==== Sys2Proof/Laws/Shapes.lean ====
section
/-! SUPPORT. What each shared operation can touch, said once: the state after it is the state before it with the named
parts replaced, and every other part as it was. -/

namespace Sys2Proof.Machine

/-! ## One station -/

theorem State.setStn_shape (s : State) (st : Stn) (x : Station) : ∃ a b, s.setStn st x = { s with s1 := a, s2 := b } := by
  cases st
  · exact ⟨x, s.s2, rfl⟩
  · exact ⟨s.s1, x, rfl⟩

theorem State.modStn_shape (s : State) (st : Stn) (f : Station → Station) :
    ∃ a b, s.modStn st f = { s with s1 := a, s2 := b } := s.setStn_shape st _

/-- R49: a hold touches the stations and the notices. -/
theorem State.hold_shape (s : State) (st : Stn) : ∃ a b n, s.hold st = { s with s1 := a, s2 := b, notices := n } := by
  unfold State.hold
  dsimp only
  split <;> cases st <;> exact ⟨_, _, _, rfl⟩

/-- R48: a cause that reaches a test touches the stations and the notices. -/
theorem State.addCause_shape (s : State) (c : Cause) (st : Stn) :
    ∃ a b n, s.addCause c st = { s with s1 := a, s2 := b, notices := n } := by
  have joined : ∃ a b, (s.modCtx st fun x => { x with causes := x.causes.add c }) = { s with s1 := a, s2 := b } :=
    s.modStn_shape st _
  obtain ⟨a, b, hj⟩ := joined
  obtain ⟨p, q, n, hh⟩ := State.hold_shape { s with s1 := a, s2 := b } st
  unfold State.addCause
  rw [hj]
  dsimp only
  split
  all_goals first
    | exact ⟨p, q, n, hh⟩
    | exact ⟨a, b, s.notices, rfl⟩
    | exact ⟨s.s1, s.s2, s.notices, rfl⟩

/-- R48: a cause that leaves a test touches the stations alone. -/
theorem State.removeCauseAt_shape (s : State) (c : Cause) (st : Stn) :
    ∃ a b, s.removeCauseAt c st = { s with s1 := a, s2 := b } := by
  unfold State.removeCauseAt State.modCtx
  split
  · exact ⟨_, _, rfl⟩
  · exact s.modStn_shape st _

/-- R52: while a test is in FAULT, no cause leaves its set. -/
theorem State.removeCauseAt_fault {s : State} {st : Stn} (c : Cause) (h : (s.stn st).state = .fault) :
    s.removeCauseAt c st = s := if_pos h

/-- R48: in any other state the cause leaves the set. -/
theorem State.removeCauseAt_not_fault {s : State} {st : Stn} (c : Cause) (h : (s.stn st).state ≠ .fault) :
    s.removeCauseAt c st = s.modCtx st fun x => { x with causes := x.causes.remove c } := if_neg h

/-- R48, R52: the end of the freeze touches the stations alone. -/
theorem State.thawCauses_shape (s : State) (st : Stn) : ∃ a b, s.thawCauses st = { s with s1 := a, s2 := b } := by
  unfold State.thawCauses State.modCtx
  exact s.modStn_shape st _

/-- R48, R52: what the end of the freeze leaves of the set of a test. -/
theorem State.thawCauses_of_ctx {s : State} {st : Stn} {c : TestCtx} (h : (s.stn st).ctx = some c) :
    s.thawCauses st =
      s.setStn st
        { s.stn st with
          ctx := some
            { c with
              causes :=
                ⟨c.causes.host, c.causes.trip && s.faults.trip, c.causes.emergency && s.faults.emergency.set,
                  c.causes.linkLost && s.link.lost, c.causes.neighbour⟩ } } := by
  simp [State.thawCauses, State.modCtx, State.modStn, h]

/-- R45: an end decision touches the stations alone. -/
theorem State.takeDecision_shape (s : State) (st : Stn) (d : Decision) :
    ∃ a b, s.takeDecision st d = { s with s1 := a, s2 := b } := s.modStn_shape st _

/-! ## The winch and the manifold -/

/-- R120: the end event of a run touches the winch alone. -/
theorem State.endRun_shape (s : State) (r : RunEnd) (h : Option HaltCause) : ∃ w, s.endRun r h = { s with winch := w } := by
  unfold State.endRun
  split <;> exact ⟨_, rfl⟩

/-- R141: a cause that reaches the pass touches the manifold alone. -/
theorem State.addPassCause_shape (s : State) (c : Cause) : ∃ g, s.addPassCause c = { s with grout := g } := by
  unfold State.addPassCause
  split
  · exact ⟨_, rfl⟩
  · split <;> exact ⟨_, rfl⟩

/-- R134, R135: the arbiter touches the Register, the manifold and the notices. -/
theorem State.arbiter_shape (s : State) : ∃ r g n, s.arbiter = { s with reg := r, grout := g, notices := n } := by
  unfold State.arbiter
  split
  · split
    · exact ⟨_, _, _, rfl⟩
    · split <;> exact ⟨_, _, _, rfl⟩
  · exact ⟨_, _, _, rfl⟩

/-- R144: a pass that completes touches the Register, the manifold and the notices. -/
theorem State.completePass_shape (s : State) :
    ∃ r g n, s.completePass = { s with reg := r, grout := g, notices := n } := by
  unfold State.completePass
  split
  · exact ⟨_, _, _, rfl⟩
  · split
    · exact ⟨_, _, _, rfl⟩
    · dsimp only
      obtain ⟨r, g, n, h⟩ := State.arbiter_shape _
      exact ⟨r, g, n, h⟩

/-- R138: an end event touches the Register, the manifold and the notices. -/
theorem State.endPass_shape (s : State) (e : PassEnd) :
    ∃ r g n, s.endPass e = { s with reg := r, grout := g, notices := n } := by
  unfold State.endPass
  split
  · exact ⟨_, _, _, rfl⟩
  · split
    · dsimp only
      split
      · obtain ⟨r, g, n, h⟩ := State.completePass_shape _
        exact ⟨r, g, n, h⟩
      · exact ⟨_, _, _, rfl⟩
    · exact ⟨_, _, _, rfl⟩

/-! ## Conditions -/

/-- R108, R114, R189: a condition handed to the stations. -/
theorem State.handCause_shape (s : State) (c : Cause) (h : HaltCause) :
    ∃ a b w g n, s.handCause c h = { s with s1 := a, s2 := b, winch := w, grout := g, notices := n } := by
  obtain ⟨a, b, n, h1⟩ := s.addCause_shape c .s1
  obtain ⟨a', b', n', h2⟩ := State.addCause_shape { s with s1 := a, s2 := b, notices := n } c .s2
  obtain ⟨w, h3⟩ := State.endRun_shape { s with s1 := a', s2 := b', notices := n' } .halted (some h)
  obtain ⟨g, h4⟩ := State.addPassCause_shape { s with s1 := a', s2 := b', winch := w, notices := n' } c
  exact ⟨a', b', w, g, n', by simp only [State.handCause, State.haltRun, h1, h2, h3, h4]⟩

/-- R108, R115, R191: a condition that ends. -/
theorem State.dropCause_shape (s : State) (c : Cause) :
    ∃ a b g, s.dropCause c = { s with s1 := a, s2 := b, grout := g } := by
  obtain ⟨a, b, h1⟩ := s.removeCauseAt_shape c .s1
  obtain ⟨a', b', h2⟩ := State.removeCauseAt_shape { s with s1 := a, s2 := b } c .s2
  exact ⟨a', b', _, by simp only [State.dropCause, h1, h2]; rfl⟩

/-- R107: the forces touch the two stations and the manifold. -/
theorem State.applyForces_shape (s : State) : ∃ a b g, s.applyForces = { s with s1 := a, s2 := b, grout := g } := by
  unfold State.applyForces
  dsimp only
  split <;> split <;> exact ⟨_, _, _, rfl⟩

/-- R106 to R108: TRIP judged again touches the TRIP line, the stations, the Register (a served request) and the
notices; the flags stay. -/
theorem State.judgeTrip_shape (s : State) :
    ∃ t a b w g r n, s.judgeTrip =
      { s with faults := { s.faults with trip := t }, s1 := a, s2 := b, winch := w, grout := g, reg := r, notices := n } := by
  unfold State.judgeTrip
  split
  · exact ⟨s.faults.trip, _, _, _, _, _, _, rfl⟩
  · split
    · exact ⟨s.faults.trip, _, _, _, _, _, _, rfl⟩
    · split
      · unfold State.assertTrip
        dsimp only
        obtain ⟨a, b, g, h1⟩ := State.applyForces_shape { s with faults := { s.faults with trip := true } }
        rw [h1]
        obtain ⟨a', b', w, g', n, h2⟩ := State.handCause_shape
          { s with faults := { s.faults with trip := true }, s1 := a, s2 := b, grout := g } .trip .trip
        exact ⟨true, a', b', w, g', s.reg, n, h2⟩
      · unfold State.deassertTrip
        dsimp only
        obtain ⟨a, b, g, h1⟩ := State.dropCause_shape { s with faults := { s.faults with trip := false } } .trip
        rw [h1]
        obtain ⟨r, g', n, h2⟩ := State.arbiter_shape
          { s with faults := { s.faults with trip := false }, s1 := a, s2 := b, grout := g }
        exact ⟨false, a, b, s.winch, g', r, n, h2⟩

/-- R98 to R100: a raise touches the flags and TRIP, the stations, the Register and the notices; the emergency state and
the self-test records stay. -/
theorem State.raise_shape (s : State) (f : Flag) :
    ∃ d c t a b w g r n, s.raise f =
      { s with
        faults := { s.faults with det := d, comb := c, trip := t }
        s1 := a, s2 := b, winch := w, grout := g, reg := r, notices := n } := by
  unfold State.raise
  split
  · dsimp only
    split
    all_goals
      refine (fun ⟨t, a, b, w, g, r, n, h⟩ => ⟨_, _, t, a, b, w, g, r, n, h⟩ : _ → _) (State.judgeTrip_shape _)
  · exact ⟨_, _, _, _, _, _, _, _, _, rfl⟩

/-! ## The Register through the shared operations -/

/-- R2: changing an entry keeps the ids, where the change keeps the entry's id. -/
theorem State.modEntry_ids (s : State) (id : Nat) (f : Entry → Entry) (hf : ∀ e, (f e).decl.id = e.decl.id) :
    (s.modEntry id f).reg.map (fun e => e.decl.id) = s.reg.map fun e => e.decl.id := by
  simp only [State.modEntry, List.map_map]
  apply List.map_congr_left
  intro e _
  simp only [Function.comp]
  split <;> simp [hf]

/-- An entry read back where it was changed. -/
theorem State.entry_modEntry (s : State) (id : Nat) (f : Entry → Entry) (e : Entry) (h : s.entry id = some e)
    (hf : ∀ x, (f x).decl.id = x.decl.id) : (s.modEntry id f).entry id = some (f e) := by
  simp only [State.entry, State.modEntry] at *
  revert h
  induction s.reg with
  | nil => simp
  | cons x xs ih =>
    intro h
    simp only [List.map_cons, List.find?_cons] at *
    by_cases hx : x.decl.id = id
    · simp_all
    · have hb : (x.decl.id == id) = false := by simp [hx]
      simp only [hb] at h ⊢
      simpa [hb] using ih h

/-- An entry of another id is left as it was. -/
theorem State.entry_modEntry_ne (s : State) (id other : Nat) (f : Entry → Entry) (h : other ≠ id)
    (hf : ∀ x, (f x).decl.id = x.decl.id) : (s.modEntry id f).entry other = s.entry other := by
  simp only [State.entry, State.modEntry]
  induction s.reg with
  | nil => rfl
  | cons x xs ih =>
    rw [List.map_cons, List.find?_cons, List.find?_cons, ih]
    by_cases hx : x.decl.id = id
    · have h1 : ((f x).decl.id == other) = false := by simp [hf, hx, Ne.symm h]
      have h2 : (id == other) = false := by simp [Ne.symm h]
      simp only [hx, BEq.rfl, if_true, h1, h2]
    · have hb : (x.decl.id == id) = false := by simp [hx]
      simp only [hb, Bool.false_eq_true, if_false]

/-! ## What a sample notes, and the tilt condition -/

/-- R83, R120: before its guards are judged, a sample publishes the length of the drum count and raises the peak of a run. -/
theorem State.noteWinch_eq (s : State) :
    s.noteWinch = { s with winch := { s.winch with paid := paidLength s.winch.drum s.site.settings.drumMm }.note } := rfl

/-- R136: raising the peak pressure changes the pass alone. -/
theorem Grout.raisePeak_of_pass {g : Grout} {p : Pass} (h : g.pass = some p) :
    g.raisePeak = { g with pass := some { p with peakPressure :=
      if g.pressure.win = [] then p.peakPressure else max p.peakPressure g.pressure.level } } := by
  simp [Grout.raisePeak, h]

/-- R98, R152: when a point is out of band in the published scan. -/
theorem outOfTilt_iff {p : Point} {r : PointReading} {g : Guard} :
    outOfTilt p r g = true ↔ ∃ b v limit, p.kind = .tilt ∧ p.baseline = some b ∧ r = .valid v ∧ g.last = some limit ∧
      limit < (v - b).natAbs := by
  unfold outOfTilt
  split
  · next h1 h2 h3 => simp [h1, h2, h3]
  · next h =>
    refine ⟨fun h' => (Bool.false_ne_true h').elim, ?_⟩
    rintro ⟨b, v, limit, h1, h2, h3, h4, -⟩
    exact (h b v limit h1 h2 h3 h4).elim

end Sys2Proof.Machine
end

