-- ==== Sys2Proof/Tests/Slice0.lean ====
section
/-! SUPPORT. The model's own tests: values worked from the text of spec/ (each names its place), terms that well-formedness
refuses, one step of each family, and for each statement a state that meets its hypotheses. -/

namespace Sys2Proof.Tests

open Sys2Proof.Machine

-- one declaration after another: the kernel evaluates the tests in order
set_option Elab.async false

/-! ## States the tests use -/

/-- The state after a command. -/
def after (s : State) (i : Instr) : State :=
  match exec i s with
  | .next t => t
  | .fault _ => s
  | .refused _ => s

/-- The code and detail of the reply that stands. -/
def said (s : State) (i : Instr) : Option (Resp × Nat) :=
  (after s i).link.reply.map fun r => (r.status.code, r.status.detail)

/-- The fields of the reply that stands. -/
def fieldsOf (s : State) (i : Instr) : Option (List WField) := (after s i).link.reply.map (·.fields)

/-- Each command's answer beside the one the rule names. -/
def answers (s : State) (l : List (Instr × Resp × Nat)) : Bool := l.all fun p => said s p.1 == some (p.2.1, p.2.2)

/-- The anchor of the case of section 3.6, with one post-grout pass. -/
def decl : Decl where
  id := 7
  row := 1
  lFree := 1000
  lBond := 800
  area := 980
  modulus := 195000
  pw := 9600
  pp := 12000
  pa := 1200
  plo := 9000
  volCap := 50000
  refusal := 2000
  passes := 1
  post := some ⟨8, 20000, 1500⟩
  cure := 72
  neighbours := [9]

/-- An entry of that anchor. -/
def ent (stage : Stage) : Entry :=
  { Entry.fresh decl with stage := stage, primaryEnd := some 0, postDone := 1 }

/-- A part with its clock set, its stations tested, one entry, and a ceiling on row 1. -/
def site (e : Entry) : State :=
  { State.reset with
    reg := [e]
    s1 := { State.reset.s1 with passed := true }
    site :=
      { State.reset.site with
        clock := 1000000, clockValid := true
        limits := { Limits.factory with ceilings := [12000, 0, 0, 0, 0, 0, 0, 0] } }
    faults := { State.reset.faults with det := 0#20, comb := 0#6 } }

/-- The full plan of section 3.6. -/
def fullPlan : Plan :=
  ⟨.full, [⟨.datum, 0, 0, 0⟩, ⟨.load, 333, 60, 0⟩, ⟨.creep, 0, 0, 1⟩, ⟨.unload, 0, 60, 0⟩, ⟨.lockoff, 0, 0, 0⟩,
    ⟨.liftoff, 0, 0, 0⟩]⟩

/-- A GROUTED anchor with the full plan in slot 1 and a relock plan in slot 2. -/
def grouted : State :=
  { site (ent .grouted) with
    plans := [some fullPlan, some ⟨.relock, [⟨.lockoff, 0, 0, 0⟩, ⟨.liftoff, 0, 0, 0⟩]⟩, none, none] }

/-- A test context at a step. -/
def ctx (step : Nat) : TestCtx :=
  { TestCtx.fresh (ent .grouted) 1 fullPlan (Captured.of (site (ent .grouted)).site) (List.replicate 16 none) with
    step := step, begun := true }

/-- Station S1 in a state, with a test at a step. -/
def testing (x : StnState) (step : Nat) (f : TestCtx → TestCtx := fun c => c) : State :=
  let s := site { ent .grouted with stage := .stressing, prior := some .grouted, test := some ⟨.s1, 1, .full, 5⟩ }
  { s with
    s1 := { s.s1 with state := x, ctx := some (f (ctx step)) }
    plans := grouted.plans, rows := s.rows.set 0 ⟨0, 12000⟩ }

/-- Readings of displacement, the loads and times at 0. -/
def readings (l : List Int) : List Reading := l.map fun d => ⟨3, .creep, 0, 0, d, 0⟩

/-- A movement of a kind. -/
def moving (k : MotionKind) (c : TestCtx) : TestCtx := { c with motion := some (.start k 0) }

/-- The same with a load and a displacement published. -/
def at_ (s : State) (load disp : Int) : State :=
  { s with s1 := { s.s1 with load := ⟨[load], some .valid⟩, enc := { s.s1.enc with win := [disp] } } }

/-- The winch in a state, with a run. -/
def winching (x : WinchState) (reason : Option RunEnd := none) : State :=
  let s := site (ent .declared)
  { s with winch := { s.winch with state := x, run := some ⟨7, 1900, reason, none, 0, 0⟩, drum := 800, paid := 200 } }

/-- The pass of a PRIMARY request at port 2. -/
def pass : Pass := .ofRequest ⟨7, .primary, 0⟩ 2 1000000 (ent .placed)

/-- The manifold in a state, with a pass, its valve in a state. -/
def grouting (x : GroutState) (v : ValveState) (p : Pass := pass) : State :=
  let s := site { ent .placed with stage := .grouting, pass := some ⟨.primary, 2, 1000000⟩, passes := [] }
  { s with grout :=
      { s.grout with
        state := x, pass := some p, ports := [none, some 7, none, none, none, none]
        valves := s.grout.valves.set 1 ⟨v, v == .opened || v == .opening⟩ } }

/-- A PLACED anchor at port 2. -/
def placed : State :=
  let s := site { ent .placed with primaryEnd := none, postDone := 0 }
  { s with grout := { s.grout with ports := [none, some 7, none, none, none, none] } }

/-- A part in its emergency state, or with TRIP, or with a fault in a group. -/
def emergency (s : State) : State := { s with faults := { s.faults with emergency := ⟨true, true, false, some 1⟩ } }

/-- TRIP asserted for the combined flag of S1. -/
def tripped (s : State) : State := { s with faults := { s.faults with det := 1#20, comb := 1#6, trip := true } }

/-- A station disabled. -/
def without (s : State) (e : Enables) : State := { s with site := { s.site with enables := e } }

/-- No station enabled. -/
def off : Enables := ⟨false, false, false, false⟩

/-- The LINK_LOST state set. -/
def lost (s : State) : State := { s with link := { s.link with lost := true } }

/-- A part that is not busy with a reply takes any request. -/
theorem takes {s : State} (h : (s.phase == .running && s.link.reply.isNone && s.link.queue.isEmpty && !s.link.lost) = true)
    (i : Instr) : s.accepts i := by
  simp only [Bool.and_eq_true, Bool.not_eq_true', beq_iff_eq, Option.isNone_iff_eq_none, List.isEmpty_iff] at h
  exact State.accepts_of_free ⟨h.1.1.1, h.1.1.2, h.1.2, h.2⟩ i

/-! ## Well-formedness -/

/-- A DECLARE body that stands at the ends of its widths. -/
def body : DeclareBody :=
  { id := 65535, row := 255, lFree := 65535, lBond := 65535, area := 65535, modulus := 4294967295, pw := 65535, pp := 65535
    pa := 65535, plo := 65535, volCap := 4294967295, refusal := 65535, passes := 255, postInterval := 255
    postVolCap := 4294967295, postRefusal := 65535, cure := 65535, nbrCount := 255, nbrIds := [65535, 0, 0, 0] }

/-- R193: a tag, a page and a number past the width of its field. -/
theorem test_wf_refuses_fields :
    ([.identify 256, .getRows 256 none, .getRows 0 (some 256), .getPlan 0 256, .void 0 65536, .setNoticeLevel 0 256 0,
      .setNoticeLevel 0 0 256, .getAnchor 0 65536 1 0, .getAnchor 0 1 256 0, .getAnchor 0 1 1 256, .startTest 0 256 1 1,
      .startTest 0 1 65536 1, .startTest 0 1 1 256, .adjustTest 0 1 ⟨256, 0⟩ ⟨0, 0⟩, .adjustTest 0 1 ⟨0, 65536⟩ ⟨0, 0⟩,
      .adjustTest 0 1 ⟨0, 0⟩ ⟨256, 0⟩, .adjustTest 0 1 ⟨0, 0⟩ ⟨0, 256⟩, .setCalibration 0 256 0 1 0 0,
      .setCalibration 0 1 32768 1 0 0, .setCalibration 0 1 (-32769) 1 0 0, .setCalibration 0 1 0 65536 0 0,
      .setCalibration 0 1 0 1 256 0, .setCalibration 0 1 0 1 0 256, .setStations 0 256 0 0 0, .setStations 0 0 0 0 256,
      .assignPort 0 256 1, .assignPort 0 1 65536, .setPoint 0 256 1 0 0, .setPoint 0 1 256 0 0, .setPoint 0 1 1 65536 0,
      .setPoint 0 1 1 0 65536, .readArchive 0 4294967296 1, .readArchive 0 1 256, .readReadings 0 1 256,
      .setTime 0 4294967296, .setTag 0 256 0, .setTag 0 1 4294967296] : List Instr).all (fun i => !i.wf) = true := by
  decide +kernel

/-- R5, R12, R193: a DECLARE body, an AMEND item, a step, an item list that no BODY can carry. -/
theorem test_wf_refuses_bodies :
    ([.declare 0 { body with id := 65536 }, .declare 0 { body with row := 256 }, .declare 0 { body with lFree := 65536 },
      .declare 0 { body with lBond := 65536 }, .declare 0 { body with area := 65536 },
      .declare 0 { body with modulus := 4294967296 }, .declare 0 { body with pw := 65536 },
      .declare 0 { body with pp := 65536 }, .declare 0 { body with pa := 65536 }, .declare 0 { body with plo := 65536 },
      .declare 0 { body with volCap := 4294967296 }, .declare 0 { body with refusal := 65536 },
      .declare 0 { body with passes := 256 }, .declare 0 { body with postInterval := 256 },
      .declare 0 { body with postVolCap := 4294967296 }, .declare 0 { body with postRefusal := 65536 },
      .declare 0 { body with cure := 65536 }, .declare 0 { body with nbrCount := 256 },
      .declare 0 { body with nbrIds := [1, 2, 3] }, .declare 0 { body with nbrIds := [1, 2, 3, 65536] },
      .amend 0 1 [.value 256 0], .amend 0 1 [.value 18 0], .amend 0 1 [.value 2 4294967296],
      .amend 0 1 [.neighbours 256 [0, 0, 0, 0]], .amend 0 1 (List.replicate 48 (.value 2 1)),
      .loadPlan 0 1 [⟨256, 0, 0, 0⟩], .loadPlan 0 1 [⟨1, 65536, 0, 0⟩], .loadPlan 0 1 [⟨1, 0, 65536, 0⟩],
      .loadPlan 0 1 [⟨1, 0, 0, 256⟩], .loadPlan 0 1 (List.replicate 40 ⟨1, 0, 0, 0⟩),
      .setLimits 0 [(256, 0)], .setLimits 0 [(1, 4294967296)], .setSettings 0 (List.replicate 48 (1, 1)),
      .unknownKind 0x01 0 [], .unknownKind 256 0 [], .unknownKind 0xEE 256 [],
      .unknownKind 0xEE 0 (List.replicate 241 0#8)] : List Instr).all (fun i => !i.wf) = true := by
  decide +kernel

/-- R73, R87, R90, R109, R151: an event that the pins cannot bring. -/
theorem test_wf_refuses_events :
    ([.sample .load1 65536 true, .scanComplete [] true, .scanComplete (List.replicate 16 65536) true, .flowPulse 0,
      .valveTravelEnd 0, .valveTravelEnd 7, .neighbourRiseTrip .s1 0, .neighbourRiseTrip .s1 17, .wallTiltTrip 0,
      .wallTiltTrip 17, .selftestFail 0, .selftestFail 5] : List Instr).all (fun i => !i.wf) = true := by
  decide +kernel

/-- Terms at the ends of their widths are well formed. -/
theorem test_wf_accepts :
    ([.identify 255, .getRows 255 (some 255), .declare 255 body, .amend 0 65535 [.value 2 4294967295, .neighbours 255 [0, 0, 0, 65535]],
      .amend 0 1 (List.replicate 47 (.value 2 1)), .loadPlan 0 255 (List.replicate 39 ⟨255, 65535, 65535, 255⟩),
      .setCalibration 0 255 (-32768) 65535 255 255, .setLimits 0 (List.replicate 47 (255, 4294967295)),
      .unknownKind 0xEE 255 (List.replicate 240 0#8), .sample .pressure 65535 false,
      .scanComplete (List.replicate 16 65535) true, .flowPulse 1, .valveTravelEnd 6, .wallTiltTrip 16, .selftestFail 4,
      .byteReceived 0#8 true] : List Instr).all Instr.wf = true := by
  decide +kernel

/-- No row of the table has bits: no word spells a command, and `withFetchWord` changes nothing. -/
theorem test_no_word_spells_a_command (nbits w : Nat) (s : State) :
    decodeTableWord nbits w = none ∧ s.withFetchWord nbits w = s := ⟨rfl, rfl⟩

/-! ## Values worked from the text -/

/-- R184: the CRC of the nine characters 1 to 9 is 29B1h. -/
theorem test_crc_of_the_nine_digits :
    crc [0x31#8, 0x32#8, 0x33#8, 0x34#8, 0x35#8, 0x36#8, 0x37#8, 0x38#8, 0x39#8] = 0x29B1#16 := by decide +kernel

/-- R77: the worked conversions: LOAD1 at 27306, LOAD2 at 11000 with zero offset 150, a signed tilt meter at 40000; a code
of 9000 is OPEN. -/
theorem test_conversions :
    convert ⟨0, 30000, false⟩ 27306 = 11249 ∧ convert ⟨150, 30000, false⟩ 11000 = 0 ∧
    convert ⟨0, 5000, true⟩ 40000 = 1655 ∧ markOf 9000 = .isOpen ∧ markOf 11000 = .valid := by decide +kernel

/-- R76: the marks change at 9830 and above 57344. -/
theorem test_marks_at_the_ends :
    markOf 9829 = .isOpen ∧ markOf 9830 = .valid ∧ markOf 57344 = .valid ∧ markOf 57345 = .isOver := by decide +kernel

/-- R78: the window of 143992 gives 9000; an OPEN sample leaves it; 8994 leaves, 9010 joins, and it gives 9001. -/
theorem test_average_of_a_full_window :
    let w : List Int := 8994 :: List.replicate 14 9000 ++ [8998]
    w.sum = 143992 ∧ average w = 9000 ∧
    (Channel.sample ⟨w, some .valid⟩ ⟨0, 30000, false⟩ 9000).win = w ∧
    (pushWindow w 9010).sum = 144008 ∧ average (pushWindow w 9010) = 9001 := by decide +kernel

/-- R83, R120: paid lengths of counts 5403, 8197 and 8198 at 25 for a pulse. -/
theorem test_paid_lengths :
    paidLength 5403 25 = 1351 ∧ paidLength 8197 25 = 2049 ∧ paidLength 8198 25 = 2050 ∧ paidLength (-8198) 25 = -2050 := by
  decide +kernel

/-- R86: pulses 1 250 000 us apart give 24; 14 000 us apart are clamped to 2000. -/
theorem test_flows : flowOf 50 1250000 = 24 ∧ flowOf 50 14000 = 2000 := by decide +kernel

/-- R35, R33: the allowed time from 1200 to 6000 at 50, and from 1205; the seek rates of 50 and 3. -/
theorem test_allowed_time_and_seek_rate :
    allowedTime 6000 1200 50 = 348 ∧ allowedTime 6000 1205 50 = 348 ∧ seekRate 50 = 12 ∧ seekRate 3 = 1 := by decide +kernel

/-- Section 3.6: L_app 1103 between 800 and 1400, target 9270, tolerance 450, cap 9470; 9120 passes. -/
theorem test_case_of_section_3_6 :
    unloadFigures decl 12000 1200 80 50 (6529 - 298) = (⟨1103, 800, 1400⟩, []) ∧ lockTargetOf 9000 30 = 9270 ∧
    liftTolOf 9000 50 = 450 ∧ liftCapOf 9000 50 20 = 9470 ∧ liftReasons 9000 450 (some 9120) = [] := by decide +kernel

/-- Section 3.7: L_app 1405 between 1200 and 1800, target 11330, cap 11570; 10390 is LIFTOFF_LOW. -/
theorem test_case_of_section_3_7 :
    unloadFigures { decl with area := 1400, lFree := 1500, lBond := 600 } 15000 1500 80 50 (7458 - 512) =
      (⟨1405, 1200, 1800⟩, []) ∧
    lockTargetOf 11000 30 = 11330 ∧ liftCapOf 11000 50 20 = 11570 ∧
    liftReasons 11000 (liftTolOf 11000 50) (some 10390) = [.liftoffLow] := by decide +kernel

/-- Section 3.8: a displacement that is not positive. -/
theorem test_case_of_section_3_8 :
    unloadFigures { decl with lFree := 900 } 12000 1200 80 50 (-5190 - -240) =
      (⟨0, 720, 1300⟩, [.elasticNonpositive, .lappLow]) := by decide +kernel

/-- Section 3.9: each rounding at its point. -/
theorem test_table_of_section_3_9 :
    loadTargetOf 12345 333 = 4111 ∧ lockTargetOf 8750 30 = 9013 ∧ liftTolOf 8750 50 = 438 ∧ liftCapOf 8750 50 20 = 9208 ∧
    lAppLower 1234 80 = 988 ∧ lAppUpper 1234 555 50 = 1511 ∧
    (unloadFigures { decl with area := 100, modulus := 150000 } 29500 500 80 50 1).2 = [.lappLow] ∧
    (unloadFigures { decl with area := 100, modulus := 150000 } 29500 500 80 50 1).1.lApp = 0 ∧
    (unloadFigures { decl with area := 5000, modulus := 210000 } 250 50 80 50 20000).1.lApp = 65535 ∧
    (unloadFigures { decl with area := 5000, modulus := 210000 } 250 50 80 50 20000).2 = [.lappClamped, .lappHigh] := by
  decide +kernel

/-- R59, R60: sections 3.6 and 3.7: 124 passes at 600 s; 225 fails there and 196 passes at 3000 s. -/
theorem test_creep_of_the_worked_cases :
    let read (l : List Int) (n : Nat) (ext : Bool) : CreepOutcome × Bool :=
      let r := { ctx 3 with readings := readings l, creepTaken := n, extInForce := ext }.judgeCreep
      (r.1.creep, r.2)
    read [0, 1420, 3150, 4870, 6405, 6487, 6529] 3 false = (⟨some 124, none, some 6, false⟩, true) ∧
    read [0, 1, 2, 7110, 7262, 7335] 3 true = (⟨some 225, none, none, false⟩, false) ∧
    (read [0, 1, 2, 7110, 7262, 7335, 7458] 4 true).1.ksExtended = some 196 ∧
    (read [0, 1, 2, 7110, 7262, 7335, 7458] 4 true).1.failed = false := by decide +kernel

/-- R155: the worked tilt guard: baseline -410, limit 600: +180 is in band; 195, 230, 240 trip at the third. -/
theorem test_tilt_guard_of_the_example :
    let at9 (v : Int) (n : Nat) : State :=
      { State.reset with
        wall :=
          { points := List.replicate 8 .unused ++ [⟨.tilt, none, some (-410), 600, false⟩] ++ List.replicate 7 .unused
            tilt := List.replicate 16 ⟨n, none⟩ }
        fe := { FrontEnd.rest with scan := List.replicate 16 (.valid v) } }
    ((at9 180 2).tiltAt 8).1.count = 0 ∧ ((at9 195 0).tiltAt 8).1.count = 1 ∧ ((at9 230 1).tiltAt 8).1.count = 2 ∧
    ((at9 240 2).tiltAt 8).2 = true := by decide +kernel

/-- Section 5.1: the overload guard with P_p 12000 and rating 15000: 12051 is out of band, 12050 is not. -/
theorem test_overload_threshold :
    let guard (load : Int) : Guard :=
      ((State.overloadSample { at_ (testing .holding 3) load 0 with faults := State.reset.faults } .s1).stn .s1).ovl
    (guard 12051).count = 1 ∧ (guard 12050).count = 0 ∧ (guard 12051).last = some 12050 := by decide +kernel

/-! ## States that meet the hypotheses of the statements: the machine and the link -/

theorem test_meets_StepRunsTheFrontCommand :
    ({ site (ent .declared) with pending := [.winchRun 0 7, .winchStop 1] } : State).pending = .winchRun 0 7 :: [.winchStop 1] ∧
    State.reset.pending = [] := ⟨rfl, rfl⟩

/-- R192, R199: a request and an event that a part in reset does not take. -/
theorem test_meets_EveryCommandCompletes :
    { State.reset with phase := .inReset }.phase ≠ .running ∧ (∀ up lost, Instr.lockLimits 0 ≠ .powerReset up lost) ∧
    Instr.lockLimits 0 ≠ .pinReset ∧ Instr.lockLimits 0 ≠ .resetPinRelease ∧ (∀ ok, Instr.lockLimits 0 ≠ .startUpEnd ok) ∧
    (∀ line, Instr.lockLimits 0 ≠ .emergencyFallingEdge line) ∧ (∀ line, Instr.lockLimits 0 ≠ .emergencyLineRise line) ∧
    Instr.lockLimits 0 ≠ .siteClockSecond ∧ (∀ st line, Instr.lockLimits 0 ≠ .encoderEdge st line) :=
  ⟨by decide, nofun, nofun, nofun, nofun, nofun, nofun, nofun, nofun⟩

/-- A state for StepKeepsRegisterSound, StepKeepsNoticesSound, StepKeepsArchiveSound, StepKeepsFlagsAndTripJudged,
StepKeepsPumpsForcedOff and StepKeepsSizesAndCounters: one with work in every unit, and a step it takes. -/
def busy : State :=
  { testing .holding 3 with
    winch := (winching .paying).winch, notices := { State.reset.notices with entries := [] }
    archive := { Archive.rest with slots := [(1, .torn 1)], nextNumber := 2, nextSlot := 2, activity := .appending 7 1 1 }
    pending := [.creepReading .s1] }

theorem test_meets_StepKeeps :
    busy.registerSound ∧ busy.noticesSound ∧ busy.archiveSound ∧ busy.flagsSound ∧ busy.tripSound ∧ busy.pumpsSound ∧
    busy.sizesSound ∧ busy.countsSound := by
  refine ⟨?_, ?_, ?_, ?_, ?_, ?_, ?_, ?_⟩ <;> decide +kernel

theorem test_meets_StepKeeps_step : ∃ t, step busy = .next t := ⟨_, rfl⟩

/-- Requests with every field at the ends of its range, and an unlisted kind. -/
def wide : List Instr :=
  [.identify 255, .declare 0 body, .amend 255 65535 [.value 2 4294967295, .neighbours 4 [1, 2, 3, 65535]], .amend 0 0 [],
   .loadPlan 0 4 (List.replicate 16 ⟨6, 65535, 65535, 255⟩), .adjustTest 0 1 ⟨1, 65535⟩ ⟨1, 255⟩,
   .setCalibration 0 22 (-32768) 65535 1 1, .getRows 1 none, .getRows 1 (some 255), .setLimits 0 [(19, 4294967295)],
   .readReadings 0 4294967295 255]

theorem test_meets_RequestFrameReadsBack : wide.all (fun i => i.wf && i.isRequest) = true := by decide +kernel

theorem test_frames_read_back : wide.all (fun i => decide (requestOf (frameOf i) = i)) = true := by decide +kernel

theorem test_meets_LineBytesDeliverTheRequest :
    wide.all (fun i => i.wf) = true ∧ (Instr.unknownKind 0xEE 3 [1#8]).wf = true ∧ State.reset.phase = .running ∧
    State.reset.link.rx = .waiting := by decide +kernel

/-- A receiver in each of its states, with the last byte of a frame of IDENTIFY (LEN 2, KIND 1, TAG 0) to come. -/
def receiving (rx : Rx) : State := { State.reset with link := { Link.rest with rx := rx } }

theorem test_meets_ReceiverFollowsTheFrame :
    { State.reset with phase := .startUp }.phase ≠ .running ∧ (receiving .waiting).phase = .running ∧
    (receiving .waiting).link.rx = .waiting ∧ (receiving .length).link.rx = .length ∧
    (receiving (.header 2#8 none)).link.rx = .header 2#8 none ∧
    (receiving (.header 2#8 (some 1#8))).link.rx = .header 2#8 (some 1#8) ∧
    (receiving (.body 3#8 1#8 0#8 [])).link.rx = .body 3#8 1#8 0#8 [] ∧
    (receiving (.check 2#8 1#8 0#8 [] none)).link.rx = .check 2#8 1#8 0#8 [] none ∧
    (receiving (.check 2#8 1#8 0#8 [] (some 0#8))).link.rx = .check 2#8 1#8 0#8 [] (some 0#8) := by decide +kernel

/-- R184: the last CRC byte hands the frame on, a wrong one drops it. -/
theorem test_last_byte_of_a_frame :
    let c := crc [2#8, 1#8, 0#8]
    let s := receiving (.check 2#8 1#8 0#8 [] (some (crcLow c)))
    (after s (.byteReceived (crcHigh c) false)).link.reply.map (·.kind) = some 0x81 ∧
    (after s (.byteReceived (crcHigh c ^^^ 1#8) false)).link.reply = none := by decide +kernel

/-- A part that sends a reply to a frame, with a watch that runs. -/
def replying (queue : List Frame) : State :=
  { State.reset with
    link :=
      { Link.rest with
        queue := queue, watch := .running 5
        reply := some ⟨0x81, 0, State.reset.status (.plain .ok), []⟩ } }

theorem test_meets_InputQueueHoldsTwoFrames :
    (Instr.lockLimits 1).isRequest = true ∧ { State.reset with phase := .inReset }.phase ≠ .running ∧
    ((replying [⟨1, 0, []⟩]).phase = .running ∧ (replying [⟨1, 0, []⟩]).link.queue.length < 2 ∧
      (replying [⟨1, 0, []⟩]).link.reply ≠ none) ∧
    2 ≤ (replying [⟨1, 0, []⟩, ⟨5, 1, []⟩]).link.queue.length ∧ rowOf 0x99 = none := by decide +kernel

theorem test_third_frame_overruns :
    (after (replying [⟨1, 0, []⟩, ⟨5, 1, []⟩]) (.lockLimits 1)).link.overrun = true ∧
    (after (replying [⟨1, 0, []⟩]) (.lockLimits 1)).link.queue.length = 2 ∧
    (after (replying [⟨1, 0, []⟩]) (.unknownKind 0x99 1 [])).link.queue.length = 2 ∧
    (after (replying [⟨1, 0, []⟩]) (.unknownKind 0x99 1 [])).link.watch = .running 5 := by decide +kernel

theorem test_meets_LinkLostGateHoldsRequestsBack :
    ((lost State.reset).phase = .running ∧ (lost State.reset).link.reply = none ∧ (lost State.reset).link.queue = [] ∧
      (lost State.reset).link.lost = true) ∧
    (isQuery (.lockLimits 0) = false ∧ (frameOf (.lockLimits 0)).kind ≠ 0x03 ∧ (frameOf (.lockLimits 0)).kind ≠ 0x04 ∧
      (Instr.lockLimits 0).isRequest = true) ∧
    (Instr.getTags 0 none).isRequest = true ∧ isQuery (.getTags 0 none) = true := by decide +kernel

theorem test_meets_LinkLostGateHoldsRequestsBack_take : (lost State.reset).accepts (.takeNotice 0) :=
  ⟨rfl, rfl, rfl, fun _ => rfl⟩

theorem test_gate_answers :
    answers (lost State.reset)
      [(.lockLimits 0, .linkLost, 0), (.declare 0 body, .linkLost, 0), (.reset 0, .linkLost, 0), (.identify 0, .ok, 0),
       (.takeNotice 0, .ok, 0), (.resumeLink 0, .ok, 0), (.getTags 0 none, .ok, 0)] = true := by decide +kernel

theorem test_meets_EveryTakenRequestIsAnswered :
    (Instr.setTag 9 1 5).isRequest = true ∧ State.reset.accepts (.setTag 9 1 5) := ⟨rfl, takes rfl _⟩

/-- R187: BUSY in JACK1 and SYSTEM, EMERGENCY, TRIP and a valid clock, S1 HELD, S2 disabled, W PAYING, G PAUSED, two
notices, detail 515; R193: -2 in two bytes; R183: LEN of a reply with one byte behind its status block. -/
theorem test_status_bytes :
    let b : Status := ⟨.busy, 0x21#6, true, false, false, true, false, false, false, true, 6, 15, 1, 3, 2, 515⟩
    b.bytes = [10#8, 0x21#8, 0x89#8, 0xF6#8, 0x31#8, 2#8, 3#8, 2#8] ∧ (WField.i16 (-2)).bytes = [0xFE#8, 0xFF#8] ∧
    (Reply.lineBytes ⟨0x81, 5, b, [.u8 7]⟩).take 4 = [0x5A#8, 11#8, 0x81#8, 5#8] := by decide +kernel

theorem test_meets_QueuedFramesAreTakenInOrder :
    (State.reset.phase = .running ∧ State.reset.link.reply = none ∧ State.reset.link.queue = []) ∧
    ((replying [⟨1, 0, []⟩]).link.reply ≠ none ∧ (replying [⟨1, 0, []⟩]).link.resetAfterReply = false ∧
      (replying [⟨1, 0, []⟩]).link.queue = [⟨1, 0, []⟩]) ∧
    (replying [⟨1, 0, []⟩, ⟨5, 1, []⟩]).link.queue = [⟨1, 0, []⟩, ⟨5, 1, []⟩] ∧
    { replying [] with link := { (replying []).link with resetAfterReply := true } }.link.resetAfterReply = true ∧
    rowOf 0xEE = none ∧ (rowOf 0x01).isSome = true ∧
    (rowOf 0x01).all (fun r => !lengthOk r.length [0#8, 0#8]) = true ∧
    (Instr.setTag 9 1 5).wf = true ∧ (Instr.setTag 9 1 5).isRequest = true := by decide +kernel

theorem test_meets_LinkLostIsSetAndCleared :
    (State.reset.phase = .running ∧ State.reset.link.watch = .stopped) ∧ (replying []).link.watch = .running 5 ∧
    State.reset.accepts (.resumeLink 0) ∧ State.reset.link.lost = false ∧ (lost State.reset).accepts (.resumeLink 0) ∧
    (lost State.reset).link.lost = true := ⟨⟨rfl, rfl⟩, rfl, takes rfl _, rfl, ⟨rfl, rfl, rfl, fun _ => rfl⟩, rfl⟩

/-- R189: the expiry sets the state, the flag and the notice with its window. -/
theorem test_link_watch_expiry :
    let t := after (replying []) .linkWatchExpiry
    t.link.lost = true ∧ t.flag .linkLost = true ∧ t.notices.entries.any (fun n => n.kind == .linkLost && n.detail == 5) =
      true := by decide +kernel

/-! ## Queries -/

theorem test_meets_QueriesChangeOnlyTheLink :
    (Instr.getRows 0 none).isRequest = true ∧ isQuery (.getRows 0 none) = true ∧ State.reset.accepts (.getRows 0 none) :=
  ⟨rfl, rfl, takes rfl _⟩

/-- Pages of a snapshot of 231 bytes. -/
theorem test_meets_PagesHoldTheWholeSnapshot :
    let fields := List.replicate 231 (WField.u8 1)
    (∀ p ∈ paginate fields [] 230, (p.map WField.width).sum ≤ 230) ∧
    (paginate fields [] 230)[0]? = some (List.replicate 230 (.u8 1)) ∧ (paginate fields [] 230)[0 + 1]? = some [.u8 1] ∧
    (paginate fields [] 230).length ≤ 2 ∧ ((List.replicate 230 (WField.u8 1)).map WField.width).sum ≤ 230 := by
  decide +kernel

theorem test_meets_PagedQueriesAnswerTheirSnapshot :
    State.reset.accepts (.getNotices 0 none) ∧ State.reset.accepts (.getTags 255 (some 0)) := ⟨takes rfl _, takes rfl _⟩

/-- R188: a page beyond the last is refused; the four tags of a new part are 0. -/
theorem test_paged_answers :
    answers State.reset [(.getTags 0 (some 0), .ok, 0), (.getTags 0 (some 1), .outOfRange, 1)] = true ∧
    fieldsOf State.reset (.getTags 0 none) = some [.u8 0, .u8 1, .u32 0, .u32 0, .u32 0, .u32 0] := by decide +kernel

/-- R91, R97, R162: what the snapshots show of a test in HOLDING of 0, 12000 in row 1 reserved, and of a new part. -/
theorem test_snapshot_fields :
    (guardList (testing .holding 3)).take 8 = [.u8 1, .u8 0, .u8 3, .u8 0, .u8 0, .u8 0, .u8 3, .u8 0] ∧
    (testing .holding 3).rowFields 1 = [.u16 12000, .u16 0, .u16 12000, .u16 0, .u8 1, .u8 1, .u16 7, .u16 12000] ∧
    (outputFields (emergency (testing .unloading 4))).take 3 = [.u16 0, .u16 0, .u8 1] ∧
    (inputFields (at_ grouted 12000 25)).take 4 = [.u16 12000, .u8 1, .u8 1, .u8 1] ∧
    ((inputFields State.reset).drop 12).take 8 =
      [.i16 0, .i16 0, .u8 0, .u8 0, .i16 0, .i16 0, .u8 0, .u8 0] := by decide +kernel

/-- R193 with R30, R116, R136, R89, R91, R105: UNLOADING is the ninth state listed, STOPPING the third, PAUSED the fourth;
release valves closed and a SEAT output off are 2, TRIP asserted is 1 and deasserted 2. -/
theorem test_listed_values_count_from_one :
    (fieldsOf (testing .unloading 4) (.getStation 0 1)).map (·.take 1) = some [.u8 9] ∧
    (winchFields (winching .stopping)).take 1 = [.u8 3] ∧ (groutFields (grouting .paused .closed)).take 1 = [.u8 4] ∧
    ((outputFields State.reset).drop 9).take 6 = [.u8 2, .u8 2, .u8 2, .u8 2, .u8 2, .u8 0] ∧
    (faultFields State.reset)[48]? = some (.u8 2) ∧ (faultFields (tripped State.reset))[48]? = some (.u8 1) := by
  decide +kernel

/-- R78: after a sample of LOAD1 the displacement average is established and its mark is VALID. -/
theorem test_displacement_mark :
    (after grouted (.sample .load1 27306 true)).s1.enc.win = [0] ∧
    (after grouted (.sample .load1 27306 true)).s1.enc.mark = some .valid ∧ grouted.s1.enc.mark = none := by decide +kernel

theorem test_meets_ListAnchorsListsTheStage :
    State.reset.accepts (.listAnchors 0 10) ∧ State.reset.reg = [] ∧ (site (ent .placed)).accepts (.listAnchors 0 2) ∧
    (site (ent .placed)).accepts (.listAnchors 0 11) := ⟨takes rfl _, rfl, takes rfl _, takes rfl _⟩

theorem test_list_anchors :
    fieldsOf (site (ent .placed)) (.listAnchors 0 2) = some [.u8 1, .u16 7, .u8 2, .flag false] ∧
    fieldsOf (site (ent .placed)) (.listAnchors 0 10) = some [.u8 0] ∧
    answers (site (ent .placed)) [(.listAnchors 0 10, .ok, 0), (.listAnchors 0 11, .outOfRange, 1)] = true := by
  decide +kernel

theorem test_meets_GetPlanReturnsTheSlot :
    grouted.accepts (.getPlan 0 1) ∧ grouted.plan 1 = some fullPlan ∧ grouted.plan 4 = none ∧
    (lost grouted).phase = .running ∧ (lost grouted).link.reply = none ∧ (lost grouted).link.queue = [] ∧
    (lost grouted).link.lost = true := ⟨takes rfl _, rfl, rfl, rfl, rfl, rfl, rfl⟩

theorem test_get_plan_answers :
    answers grouted [(.getPlan 0 0, .outOfRange, 1), (.getPlan 0 5, .outOfRange, 1), (.getPlan 0 4, .ok, 0)] = true ∧
    (fieldsOf grouted (.getPlan 0 1)).map (·.take 3) = some [.u8 2, .u8 1, .u8 6] ∧
    answers (lost grouted) [(.getPlan 0 1, .ok, 0), (.loadPlan 0 1 [], .linkLost, 0)] = true := by decide +kernel

/-- The record of number 1025, in slot 1. -/
def record : Record := Record.of (ent .locked) 1025 1 900

/-- An archive in its second round: number 1029 has slot 5, so 1025 slot 1 and 1 slot 1 too. Slot 2 is torn, slot 3 is being
written, slot 4 is erased, and block 2 (slots 129 to 256, numbers 129 to 256) is being erased. -/
def archived : State :=
  { site (ent .locked) with
    archive :=
      { Archive.rest with
        slots := [(1, .valid record), (2, .torn 1026), (3, .writing { record with number := 1027 })]
        blocks := [.filling, .erasing, .empty, .empty, .empty, .empty, .empty, .empty], nextNumber := 1030, nextSlot := 6 } }

theorem test_meets_UnpagedQueriesReturnTheirFields :
    archived.accepts (.identify 0) ∧ archived.accepts (.getStation 0 2) ∧ archived.accepts (.getCalibration 0 20) ∧
    archived.accepts (.getAnchor 0 7 5 1) ∧ archived.entry 7 = some (ent .locked) ∧
    archived.reg[0]? = some (ent .locked) ∧ archived.entry 8 = none ∧
    archived.accepts (.readArchive 0 1 4) ∧ archived.accepts (.readReadings 0 1 1) ∧ archived.archive.nextNumber ≤ 1030 ∧
    (1 + (1030 - 1025)) % 1024 = archived.archive.nextSlot % 1024 ∧ slotAt archived.archive.slots 1 = some (.valid record) ∧
    record.number = 1025 ∧ record.number ≠ 1 ∧ archived.archive.block ((1 - 1) / 128 + 1) ≠ .erasing ∧
    (129 + (1030 - 129)) % 1024 = archived.archive.nextSlot % 1024 ∧
    archived.archive.block ((129 - 1) / 128 + 1) = .erasing :=
  ⟨takes rfl _, takes rfl _, takes rfl _, takes rfl _, rfl, rfl, rfl, takes rfl _, takes rfl _, by decide, rfl, rfl,
    rfl, by decide, by decide, rfl, rfl⟩

theorem test_unpaged_answers :
    answers archived
      [(.identify 0, .ok, 0), (.getStation 0 0, .outOfRange, 1), (.getStation 0 3, .outOfRange, 1), (.getStation 0 1, .ok, 0),
       (.getCalibration 0 0, .outOfRange, 1), (.getCalibration 0 23, .outOfRange, 1), (.getCalibration 0 20, .ok, 0),
       (.getCalibration 0 22, .ok, 0), (.getAnchor 0 8 9 9, .noSuchAnchor, 0), (.getAnchor 0 7 0 1, .outOfRange, 2),
       (.getAnchor 0 7 6 1, .outOfRange, 2), (.getAnchor 0 7 5 0, .outOfRange, 3), (.getAnchor 0 7 5 1, .ok, 0),
       (.getAnchor 0 7 1 0, .ok, 0), (.readArchive 0 1 0, .outOfRange, 2), (.readArchive 0 1 5, .outOfRange, 2),
       (.readReadings 0 1 0, .outOfRange, 2), (.readArchive 0 1030 4, .noSuchRecord, 0),
       (.readReadings 0 0 1, .noSuchRecord, 0), (.readArchive 0 129 1, .busy, 0), (.readReadings 0 256 1, .busy, 0),
       (.readArchive 0 1026 1, .noSuchRecord, 0), (.readArchive 0 1027 1, .noSuchRecord, 0),
       (.readArchive 0 1028 1, .noSuchRecord, 0), (.readArchive 0 1 1, .noSuchRecord, 0), (.readArchive 0 257 1, .noSuchRecord, 0),
       (.readArchive 0 1025 4, .ok, 0), (.readReadings 0 1025 255, .ok, 0)] = true := by
  decide +kernel

/-- R165, R193: the record of a LOCKED anchor has closing stage 1. -/
theorem test_summary : (summaryFields record)[3]? = some (.u8 1) := by decide +kernel

/-- R201: the fixed identity, with the recorded cause POWER. -/
theorem test_identity :
    (fieldsOf State.reset (.identify 0)).map (·.take 4) = some [.u16 0x2E47, .u16 340, .u8 3, .u8 1] := by decide +kernel

/-! ## The Anchor Register and the Plan Table -/

/-- A DECLARE body each field of which stands at an end of its range. -/
def good : DeclareBody :=
  { id := 65000, row := 8, lFree := 300, lBond := 2000, area := 100, modulus := 210000, pw := 100, pp := 15000, pa := 3000
    plo := 14000, volCap := 1000, refusal := 4000, passes := 3, postInterval := 4, postVolCap := 5000000
    postRefusal := 100, cure := 72, nbrCount := 2, nbrIds := [1, 64999, 9999, 9999] }

/-- A register of 48 entries. -/
def fullRegister : State :=
  { State.reset with reg := (List.range 48).map fun k => Entry.fresh { decl with id := k + 1 } }

theorem test_meets_DeclareChecksAndAppends :
    State.reset.accepts (.declare 0 good) ∧ fullRegister.accepts (.declare 0 good) ∧ 48 ≤ fullRegister.reg.length ∧
    ((site (ent .placed)).entry 7).isSome = true := ⟨takes rfl _, takes rfl _, by decide +kernel, rfl⟩

/-- R10: the checks in their order, each field just outside its range. -/
theorem test_declare_answers :
    answers State.reset
      [(.declare 0 good, .ok, 1), (.declare 0 { good with passes := 0, postInterval := 0 }, .ok, 1),
       (.declare 0 { good with id := 0 }, .outOfRange, 1), (.declare 0 { good with row := 9 }, .outOfRange, 2),
       (.declare 0 { good with lFree := 299 }, .outOfRange, 3), (.declare 0 { good with lBond := 2001 }, .outOfRange, 4),
       (.declare 0 { good with area := 99 }, .outOfRange, 5), (.declare 0 { good with modulus := 210001 }, .outOfRange, 6),
       (.declare 0 { good with pw := 99 }, .outOfRange, 7), (.declare 0 { good with pp := 30001 }, .outOfRange, 8),
       (.declare 0 { good with pa := 49 }, .outOfRange, 9), (.declare 0 { good with plo := 0 }, .outOfRange, 10),
       (.declare 0 { good with volCap := 999 }, .outOfRange, 11), (.declare 0 { good with refusal := 4001 }, .outOfRange, 12),
       (.declare 0 { good with passes := 4 }, .outOfRange, 13), (.declare 0 { good with postInterval := 3 }, .outOfRange, 14),
       (.declare 0 { good with postVolCap := 5000001 }, .outOfRange, 15),
       (.declare 0 { good with postRefusal := 99 }, .outOfRange, 16), (.declare 0 { good with cure := 71 }, .outOfRange, 17),
       (.declare 0 { good with nbrIds := [1, 1, 0, 0] }, .outOfRange, 18),
       (.declare 0 { good with pw := 15001 }, .outOfRange, 8), (.declare 0 { good with pp := 15001 }, .outOfRange, 8),
       (.declare 0 { good with pa := 3001 }, .outOfRange, 9), (.declare 0 { good with plo := 3000 }, .outOfRange, 10),
       (.declare 0 { good with plo := 14564 }, .outOfRange, 10)] = true ∧
    answers fullRegister [(.declare 0 good, .full, 0)] = true ∧
    answers (site (ent .placed)) [(.declare 0 { good with id := 7 }, .duplicate, 0)] = true := by decide +kernel

theorem test_meets_AmendReplacesTheNamedFields :
    (site (ent .placed)).accepts (.amend 0 7 [.value 3 4000, .neighbours 0 [0, 0, 0, 0]]) ∧
    amendIndexFailure [] [.value 3 4000, .neighbours 0 [0, 0, 0, 0]] = none ∧
    amendRangeFailure Limits.factory decl [.value 3 4000, .neighbours 0 [0, 0, 0, 0]] = none ∧
    postFieldMissing decl [.value 3 4000, .neighbours 0 [0, 0, 0, 0]] = none ∧
    relationFailure (site (ent .placed)).site (amended decl [.value 3 4000, .neighbours 0 [0, 0, 0, 0]]) = none ∧
    (site (ent .placed)).inFlight (ent .placed) = false ∧ (site (ent .placed)).queued 7 = false :=
  ⟨takes rfl _, rfl, by decide +kernel, rfl, by decide +kernel, rfl, rfl⟩

/-- A declaration with no post-grout pass. -/
def noPost : Decl := { decl with passes := 0, post := none }

/-- The checks of AMEND at their boundaries, and the clauses on what is named. -/
theorem test_meets_AmendReplacesTheNamedFields_checks :
    amendIndexFailure [] [.value 1 1] = some 1 ∧ amendIndexFailure [] [.value 2 1, .value 18 1, .value 2 1] = some 2 ∧
    lockedFieldNamed [.value 17 72, .value 16 100, .value 11 1000] = some 11 ∧ lockedFieldNamed [.value 7 100] = none ∧
    names [.neighbours 1 [9, 0, 0, 0]] 18 = true ∧ names [.value 17 72] 18 = false ∧
    amendRangeFailure Limits.factory decl [.value 17 71] = some 17 ∧
    amendRangeFailure Limits.factory decl [.value 13 0, .value 14 3] = none ∧
    amendRangeFailure Limits.factory decl [.neighbours 1 [7, 0, 0, 0]] = some 18 ∧
    postFieldMissing noPost [.value 13 1, .value 14 4] = some 15 ∧ postFieldMissing decl [.value 13 1] = none ∧
    relationFailure (site (ent .placed)).site { decl with pa := 2401 } = some 9 ∧ inRange 14 16 16 = true := by decide +kernel

/-- R13: field 18 named and not named; fields 14 to 16 where 13 rises from 0, falls to 0 and stays. -/
theorem test_meets_AmendReplacesTheNamedFields_fields :
    newNeighbours [.value 3 4000, .neighbours 2 [9, 8, 0, 0]] = some (2, [9, 8, 0, 0]) ∧ newNeighbours [.value 3 4000] = none ∧
    (amended decl [.neighbours 2 [9, 8, 0, 0]]).neighbours = [9, 8] ∧ (amended decl [.value 3 4000]).neighbours = [9] ∧
    (amended noPost [.value 13 1, .value 14 4, .value 15 1000, .value 16 100]).post = some ⟨4, 1000, 100⟩ ∧
    (amended decl [.value 13 0, .value 14 4]).post = none ∧ (amended decl [.value 15 1000]).post = some ⟨8, 1000, 1500⟩ := by
  decide +kernel

/-- An entry whose row of counted is set. -/
def counted (stage : Stage) : State := site { ent stage with counted := true }

theorem test_amend_answers :
    answers (site (ent .placed))
      [(.amend 0 7 [.value 1 1], .outOfRange, 1), (.amend 0 7 [.value 19 1], .outOfRange, 19),
       (.amend 0 7 [.value 2 1, .value 2 1], .outOfRange, 2), (.amend 0 8 [.value 2 1], .noSuchAnchor, 0),
       (.amend 0 7 [.value 4 2001, .value 3 299], .outOfRange, 3), (.amend 0 7 [], .ok, 0),
       (.amend 0 7 [.value 9 2401], .outOfRange, 9), (.amend 0 7 [.value 2 8], .ok, 0)] = true ∧
    answers (site (ent .locked)) [(.amend 0 7 [.value 2 1], .wrongStage, 0)] = true ∧
    answers (site (ent .grouted)) [(.amend 0 7 [.value 13 1, .value 5 100], .wrongStage, 5)] = true ∧
    answers (counted .rejected) [(.amend 0 7 [.value 10 9000], .wrongStage, 10)] = true ∧
    answers (site { ent .placed with decl := { decl with passes := 0, post := none } })
      [(.amend 0 7 [.value 13 1, .value 14 4], .outOfRange, 15)] = true ∧
    answers (testing .held 3) [(.amend 0 7 [], .busy, 0)] = true := by decide +kernel

/-- R13: a named field takes its new value, and a field that is not named keeps its own. -/
theorem test_amend_writes :
    (after (site (ent .placed)) (.amend 0 7 [.value 3 4000, .neighbours 0 [0, 0, 0, 0]])).reg.map (·.decl) =
      [{ decl with lFree := 4000, neighbours := [] }] := by decide +kernel

theorem test_meets_VoidWithdrawsTheAnchor :
    (site (ent .rejected)).accepts (.void 0 7) ∧ (site (ent .rejected)).entry 7 = some (ent .rejected) ∧
    (site (ent .rejected)).winch.state = .idle ∧ (site (ent .rejected)).grout.pass = none ∧
    (site (ent .rejected)).entry 8 = none := ⟨takes rfl _, rfl, rfl, rfl, rfl⟩

theorem test_void_answers :
    answers (site (ent .rejected)) [(.void 0 7, .ok, 0), (.void 0 8, .noSuchAnchor, 0)] = true ∧
    answers (site (ent .lockFault)) [(.void 0 7, .wrongStage, 0)] = true ∧
    answers (winching .paying) [(.void 0 7, .busy, 0)] = true ∧
    answers (grouting .ending .closing) [(.void 0 7, .busy, 0)] = true := by decide +kernel

/-- The full plan as it travels. -/
def rawPlan : List RawStep :=
  [⟨1, 0, 3600, 0⟩, ⟨2, 1000, 0, 0⟩, ⟨3, 0, 0, 1⟩, ⟨2, 500, 0, 0⟩, ⟨2, 500, 0, 0⟩, ⟨4, 0, 0, 0⟩, ⟨5, 0, 0, 0⟩, ⟨6, 0, 0, 0⟩]

theorem test_meets_LoadPlanStoresTheShapedPlan :
    grouted.accepts (.loadPlan 0 4 rawPlan) ∧ (∀ st : Stn, (grouted.stn st).ctx = none) ∧
    (testing .held 3).accepts (.loadPlan 0 1 rawPlan) ∧ ((testing .held 3).stn .s1).ctx = some (ctx 3) ∧ (ctx 3).slot = 1 ∧
    (∃ l, planStepsOf 1 rawPlan = .ok l ∧ shapeOf l = .ok .full) ∧ planStepsOf 1 [⟨7, 0, 0, 0⟩] = .error 1 ∧
    shapeOf [⟨.lockoff, 0, 0, 0⟩, ⟨.load, 1, 0, 0⟩] = .error 2 ∧ shapeOf [⟨.datum, 0, 0, 0⟩, ⟨.load, 1, 0, 0⟩] = .error 3 :=
  ⟨takes rfl _, fun st => by cases st <;> rfl, takes rfl _, rfl, rfl, ⟨_, rfl, rfl⟩, rfl, rfl, rfl⟩

/-- R24, R25: each check, the step named that departs from the shape. -/
theorem test_load_plan_answers :
    answers grouted
      [(.loadPlan 0 0 rawPlan, .outOfRange, 1), (.loadPlan 0 5 rawPlan, .outOfRange, 1), (.loadPlan 0 4 rawPlan, .ok, 1),
       (.loadPlan 0 1 (List.replicate 17 ⟨2, 1, 0, 0⟩), .planInvalid, 17), (.loadPlan 0 1 [], .ok, 0),
       (.loadPlan 0 2 [⟨5, 0, 0, 0⟩, ⟨6, 0, 0, 0⟩], .ok, 2), (.loadPlan 0 2 [⟨5, 0, 0, 0⟩], .planInvalid, 2),
       (.loadPlan 0 2 [⟨1, 0, 3601, 0⟩], .planInvalid, 1), (.loadPlan 0 2 [⟨1, 0, 0, 0⟩, ⟨2, 0, 0, 0⟩], .planInvalid, 2),
       (.loadPlan 0 2 [⟨1, 0, 0, 0⟩, ⟨3, 0, 0, 0⟩, ⟨2, 500, 0, 0⟩, ⟨2, 501, 0, 0⟩], .planInvalid, 4)] = true ∧
    answers (testing .held 3) [(.loadPlan 0 1 rawPlan, .busy, 0)] = true := by decide +kernel

/-! ## The stressing stations -/

theorem test_meets_StartTestBuildsTheTest :
    grouted.accepts (.startTest 0 1 7 1) ∧ grouted.enabled .s1 = true ∧ (grouted.stn .s1).state = .idle ∧
    grouted.faults.emergency.set = false ∧ grouted.faults.trip = false ∧ grouted.combined Stn.s1.code = false ∧
    (grouted.stn .s1).passed = true ∧ grouted.entry 7 = some (ent .grouted) ∧ grouted.plan 1 = some fullPlan ∧
    (ent .grouted).attempts < 3 ∧ grouted.site.clockValid = true ∧ decl.pp ≤ grouted.rating .s1 ∧
    relationFailure grouted.site decl = none ∧ grouted.neighbourBusy .s1 (ent .grouted) = false ∧
    grouted.cured (ent .grouted) = true ∧ grouted.rowRoom (ent .grouted) = true := by
  refine ⟨takes rfl _, ?_⟩; decide +kernel

/-- R27: the station's checks in their order, then the anchor's. -/
theorem test_start_test_answers :
    answers grouted
      [(.startTest 0 0 7 1, .outOfRange, 1), (.startTest 0 3 7 1, .outOfRange, 1), (.startTest 0 1 7 0, .outOfRange, 3),
       (.startTest 0 1 7 5, .outOfRange, 3), (.startTest 0 2 7 1, .selftestDue, 0), (.startTest 0 1 8 1, .noSuchAnchor, 0),
       (.startTest 0 1 7 2, .planInvalid, 0), (.startTest 0 1 7 4, .planInvalid, 0), (.startTest 0 1 7 1, .accepted, 0)] =
      true ∧
    answers (without grouted off) [(.startTest 0 1 7 1, .disabled, 0)] = true ∧
    answers (testing .held 3) [(.startTest 0 1 7 1, .busy, 0)] = true ∧
    answers (emergency grouted) [(.startTest 0 1 7 1, .emergency, 0)] = true ∧
    answers (tripped grouted) [(.startTest 0 1 7 1, .faulted, 0)] = true ∧
    answers { grouted with reg := [ent .placed] } [(.startTest 0 1 7 1, .wrongStage, 0)] = true ∧
    answers { grouted with reg := [ent .lockFault] }
      [(.startTest 0 1 7 1, .planInvalid, 0), (.startTest 0 1 7 2, .accepted, 0)] = true ∧
    answers { grouted with reg := [{ ent .grouted with attempts := 3 }] } [(.startTest 0 1 7 1, .attemptsExhausted, 0)] =
      true ∧
    answers { grouted with reg := [{ ent .grouted with primaryEnd := some 740801 }] } [(.startTest 0 1 7 1, .notCured, 0)] =
      true ∧
    answers { grouted with rows := grouted.rows.set 0 ⟨1, 0⟩ } [(.startTest 0 1 7 1, .rowCeiling, 1)] = true := by
  decide +kernel

/-- A GROUTED anchor 7, while S2 tests its neighbour 9. -/
def besideS2 : State := { grouted with s2 := { (testing .held 3 fun c => { c with anchor := 9 }).s1 with passed := true } }

/-- The jack rating of S1 set. -/
def rated (n : Nat) : State :=
  { grouted with site := { grouted.site with limits := { grouted.site.limits with rating1 := n } } }

/-- R27 checks 9, 11 and 12, and a row filled to its ceiling. -/
theorem test_start_test_answers_of_the_anchor :
    answers { grouted with site := { grouted.site with clockValid := false } } [(.startTest 0 1 7 1, .clockUnset, 0)] = true ∧
    answers (rated 11999) [(.startTest 0 1 7 1, .outOfRange, 8)] = true ∧ answers (rated 12000) [(.startTest 0 1 7 1, .accepted, 0)] = true ∧
    answers { grouted with reg := [{ ent .grouted with decl := { decl with pa := 2401 } }] } [(.startTest 0 1 7 1, .outOfRange, 9)] =
      true ∧
    answers besideS2 [(.startTest 0 1 7 1, .neighbourBusy, 0)] = true := by decide +kernel

theorem test_meets_StartTestBuildsTheTest_checks :
    besideS2.accepts (.startTest 0 1 7 1) ∧ (besideS2.stn Stn.s1.other).ctx.map (·.anchor) = some 9 ∧ 9 ∈ decl.neighbours ∧
    (ent .grouted).primaryEnd = some 0 ∧ 0 + decl.cure * 3600 ≤ grouted.site.clock ∧ grouted.grout.queue = [] ∧
    grouted.site.limits.ceilings.getD (decl.row - 1) 0 = 12000 ∧ grouted.row 1 = ⟨0, 0⟩ ∧ decl.pp = 12000 ∧
    fullPlan.steps.head?.map (·.kind) = some .datum := by
  refine ⟨takes rfl _, ?_⟩; decide +kernel

/-- R28: what an accepted START_TEST leaves. -/
theorem test_start_test_effect :
    let t := after grouted (.startTest 0 1 7 1)
    t.s1.state = .ramping ∧ t.s1.ctx.map (·.target) = some 1200 ∧ t.rows[0]? = some ⟨0, 12000⟩ ∧
    t.reg.map (fun e => (e.stage, e.attempts, e.prior)) = [(.stressing, 1, some .grouted)] := by decide +kernel

/-- R38 to R44: station S1 at the beginning of each step. -/
theorem test_meets_StepsBeginWithTheirMovement :
    (∀ n ∈ [1, 2, 3, 4, 5, 6], ((testing .held n).s1.ctx = some (ctx n) ∧ ((ctx n).current.isSome = true))) ∧
    [1, 2, 3, 4, 5, 6].map (fun n => (ctx n).kind) =
      [some .datum, some .load, some .creep, some .unload, some .lockoff, some .liftoff] ∧
    (at_ (testing .held 6) 20 0).s1.runLoad ≤ (ctx 6).cap.loadTol ∧
    (ctx 6).cap.loadTol < (at_ (testing .held 6) 21 0).s1.runLoad ∧
    { ctx 5 with lockTarget := some 9270 }.lockTarget = some 9270 := by decide +kernel

/-- R39, R42, R44: the targets of LOAD, LOCKOFF and LIFTOFF, and the release a load above tolerance has first. -/
theorem test_steps_begin :
    let enter (s : State) : Option (StnState × Nat) := (s.s1.enterStep false).ctx.map fun c => ((s.s1.enterStep false).state, c.target)
    enter (testing .held 2) = some (.ramping, 3996) ∧ enter (testing .held 5) = some (.ramping, 9270) ∧
    enter (at_ (testing .held 6) 20 0) = some (.seeking, 9470) ∧
    (enter (at_ (testing .held 6) 21 0)).map (·.1) = some .releasing := by decide +kernel

/-- A LOAD hold with both adjustments staged. -/
def staged : State := testing .holding 2 fun c => { c with stagedPlo := some 9100, stagedExt := some false }

theorem test_meets_StepsBeginWithTheirMovement_staged :
    ((staged.stn .s1).ctx.bind (·.stagedPlo)) = some 9100 ∧ ((staged.stn .s1).ctx.bind (·.stagedExt)) = some false ∧
    ((testing .holding 2).stn .s1).ctx = some (ctx 2) ∧ (ctx 2).stagedPlo = none := by decide +kernel

/-- R37: the step after the LOAD hold is CREEP; it begins with P_lo 9100 in the entry and with extended clear. -/
theorem test_staged_values_apply :
    let t := after staged (.holdEnd .s1)
    t.reg.map (·.decl.plo) = [9100] ∧ t.s1.ctx.map (fun c => (c.plo, c.extInForce, c.stagedPlo, c.stagedExt, c.step)) =
      some (9100, false, none, none, 3) ∧ t.s1.state = .ramping := by decide +kernel

theorem test_meets_HoldAndAbortTheTest :
    (testing .seeking 6).accepts (.holdTest 0 1) ∧ (testing .seeking 6).enabled .s1 = true ∧
    (testing .seeking 6).s1.ctx = some (ctx 6) ∧ (testing .held 6).accepts (.holdTest 0 1) ∧
    (testing .fault 6).accepts (.abortTest 0 1) ∧ (testing .fault 6).faults.emergency.set = false ∧
    (testing .seating 5).accepts (.abortTest 0 1) ∧ (testing .releasing 5).accepts (.abortTest 0 1) ∧
    (emergency (testing .held 5)).accepts (.abortTest 0 1) ∧ (emergency (testing .held 5)).faults.emergency.set = true :=
  ⟨takes rfl _, rfl, rfl, takes rfl _, takes rfl _, rfl, takes rfl _, takes rfl _, takes rfl _, rfl⟩

theorem test_hold_and_abort_answers :
    answers grouted
      [(.holdTest 0 0, .outOfRange, 1), (.abortTest 0 3, .outOfRange, 1), (.holdTest 0 1, .wrongStage, 0),
       (.abortTest 0 1, .wrongStage, 0)] = true ∧
    answers (without grouted off) [(.holdTest 0 1, .disabled, 0), (.abortTest 0 1, .disabled, 0)] = true ∧
    answers (testing .fault 3) [(.holdTest 0 1, .faulted, 0), (.abortTest 0 1, .ok, 0)] = true ∧
    answers (testing .unloading 3) [(.holdTest 0 1, .wrongStage, 0), (.abortTest 0 1, .ok, 0)] = true ∧
    answers (testing .held 3) [(.holdTest 0 1, .ok, 0), (.abortTest 0 1, .ok, 0)] = true ∧
    answers (emergency (testing .held 3)) [(.abortTest 0 1, .emergency, 0)] = true := by decide +kernel

/-- R49: a hold stops the pump, raises TEST_HELD with the cause set; R51: an abort releases to zero. -/
theorem test_hold_and_abort_effect :
    let s := { testing .ramping 2 with s1 := { (testing .ramping 2).s1 with pump := ⟨400, 400⟩ } }
    let h := after s (.holdTest 0 1)
    let a := after s (.abortTest 0 1)
    h.s1.state = .held ∧ h.s1.pump = ⟨0, 400⟩ ∧
    h.notices.entries.any (fun n => n.kind == .testHeld && n.anchor == some 7 && n.detail == 1) = true ∧
    a.s1.state = .unloading ∧ a.s1.relCmd = true ∧ a.s1.ctx.bind (·.decision) = some (.aborted .host) := by decide +kernel

/-- R52, R48: the set of a test in FAULT is frozen; at the ABORT_TEST the causes that have ended leave it, and TRIP stays while
it is asserted. -/
theorem test_abort_from_fault_thaws :
    let s := testing .fault 3 fun c => { c with causes := ⟨true, true, true, true, true⟩ }
    let causes (t : State) : Option CauseSet := t.s1.ctx.map (·.causes)
    causes (s.dropCause .linkLost) = some ⟨true, true, true, true, true⟩ ∧
    causes (after s (.abortTest 0 1)) = some ⟨true, false, false, false, true⟩ ∧
    causes (after (tripped s) (.abortTest 0 1)) = some ⟨true, true, false, false, true⟩ := by decide +kernel

/-- A held test with a cause set. -/
def heldBy (cs : CauseSet) (begun : Bool) : State := testing .held 3 fun c => { c with causes := cs, begun := begun }

theorem test_meets_ResumeTestRestartsTheStep :
    (heldBy { CauseSet.none with host := true } true).accepts (.resumeTest 0 1 1) ∧
    (heldBy { CauseSet.none with neighbour := true } false).accepts (.resumeTest 0 1 0) ∧
    (heldBy { CauseSet.none with trip := true } true).accepts (.resumeTest 0 1 0) ∧
    (heldBy { CauseSet.none with trip := true } true).s1.state = .held ∧
    ((heldBy { CauseSet.none with trip := true } true).s1.ctx.map (·.causes.trip)) = some true :=
  ⟨takes rfl _, takes rfl _, takes rfl _, rfl, rfl⟩

theorem test_resume_answers :
    answers (heldBy { CauseSet.none with host := true } true)
      [(.resumeTest 0 1 2, .outOfRange, 2), (.resumeTest 0 3 1, .outOfRange, 1), (.resumeTest 0 2 0, .wrongStage, 0),
       (.resumeTest 0 1 1, .ok, 0)] = true ∧
    answers (heldBy { CauseSet.none with host := true, linkLost := true } true) [(.resumeTest 0 1 0, .conditionPresent, 9)] =
      true ∧
    answers (testing .fault 3) [(.resumeTest 0 1 0, .faulted, 0)] = true ∧
    answers (without grouted off) [(.resumeTest 0 1 0, .disabled, 0)] = true := by decide +kernel

/-- R50: the step starts afresh without its creep readings. -/
theorem test_resume_effect :
    let s := testing .held 3 fun c => { c with causes := { CauseSet.none with host := true }, readings := readings [1, 2] }
    let t := after s (.resumeTest 0 1 0)
    t.s1.state = .ramping ∧ t.s1.ctx.map (·.readings) = some [] ∧ t.s1.ctx.map (·.target) = some 12000 ∧
    t.s1.ctx.map (·.causes) = some .none := by decide +kernel

/-- R50, R61: a CREEP step that starts afresh has no creep outcome. -/
theorem test_restarted_creep_has_no_outcome :
    let s := testing .held 3 fun c => { c with causes := { CauseSet.none with host := true }, creep := ⟨some 124, none, some 6, false⟩ }
    (after s (.resumeTest 0 1 0)).s1.ctx.map (·.creep) = some ⟨none, none, none, false⟩ := by decide +kernel

theorem test_meets_AdjustTestStagesTheValues :
    (testing .ramping 2).accepts (.adjustTest 0 1 ⟨1, 11428⟩ ⟨1, 1⟩) ∧ (testing .ramping 2).enabled .s1 = true ∧
    (testing .ramping 2).s1.ctx = some (ctx 2) ∧ (ctx 2).hasBegun .lockoff = false ∧ (ctx 2).hasBegun .creep = false ∧
    (ctx 2).ploOk 11409 = true ∧ (ctx 2).ploOk 11410 = false ∧ (ctx 3).hasBegun .creep = true ∧
    (ctx 3).placeOf .creep = some 3 ∧ (ctx 5).placeOf .lockoff = some 5 ∧ (ctx 3).begun = true ∧ (ctx 3).step = 3 := by
  refine ⟨takes rfl _, ?_⟩; decide +kernel

theorem test_adjust_answers :
    answers (testing .ramping 2)
      [(.adjustTest 0 1 ⟨2, 0⟩ ⟨2, 0⟩, .outOfRange, 2), (.adjustTest 0 1 ⟨0, 0⟩ ⟨1, 2⟩, .outOfRange, 3),
       (.adjustTest 0 3 ⟨0, 0⟩ ⟨0, 2⟩, .outOfRange, 1), (.adjustTest 0 2 ⟨0, 0⟩ ⟨0, 0⟩, .wrongStage, 0),
       (.adjustTest 0 1 ⟨1, 11410⟩ ⟨0, 0⟩, .outOfRange, 10), (.adjustTest 0 1 ⟨1, 11409⟩ ⟨1, 0⟩, .ok, 0)] = true ∧
    answers (testing .fault 2) [(.adjustTest 0 1 ⟨0, 0⟩ ⟨0, 0⟩, .faulted, 0)] = true ∧
    answers (testing .unloading 2) [(.adjustTest 0 1 ⟨0, 0⟩ ⟨0, 0⟩, .wrongStage, 0)] = true ∧
    answers (testing .holding 5) [(.adjustTest 0 1 ⟨1, 9000⟩ ⟨0, 0⟩, .wrongStage, 10)] = true ∧
    answers (testing .holding 3) [(.adjustTest 0 1 ⟨0, 0⟩ ⟨1, 1⟩, .wrongStage, 3)] = true ∧
    answers (without grouted off) [(.adjustTest 0 1 ⟨0, 0⟩ ⟨0, 0⟩, .disabled, 0)] = true := by decide +kernel

theorem test_meets_HoldEndCompletesTheStep :
    (∀ n ∈ [1, 2, 3, 4, 5], (testing .holding n).phase = .running ∧ (testing .holding n).s1.state = .holding ∧
      (testing .holding n).s1.ctx = some (ctx n)) ∧
    (testing .held 1).s1.state ≠ .holding ∧ (testing .holding 4).entry 7 ≠ none ∧ (1200 : Nat) < 12000 := by decide +kernel

/-- R57, R38: a DATUM hold ends: the displacement is zeroed, a reading of 0 is taken, and step 2 ramps. -/
theorem test_datum_hold_end :
    let t := after (at_ (testing .holding 1) 1203 55) (.holdEnd .s1)
    t.s1.enc.win = [0] ∧ t.s1.ctx.map (·.step) = some 2 ∧ t.s1.state = .ramping ∧
    t.s1.ctx.map (fun c => c.readings.map fun r => (r.load, r.disp)) = some [(1203, 0)] := by decide +kernel

/-- Section 3.6 at reading 9: the UNLOAD hold ends with L_app 1103, and LOCKOFF begins. -/
theorem test_unload_hold_end :
    let s := at_ (testing .holding 4 fun c =>
      { c with readings := readings [0, 1420, 3150, 4870, 6405, 6487, 6529], creep := ⟨some 124, none, some 6, false⟩ }) 1197 298
    let t := after s (.holdEnd .s1)
    t.s1.ctx.bind (·.figures) = some ⟨1103, 800, 1400⟩ ∧ t.s1.ctx.map (·.step) = some 5 ∧
    t.s1.ctx.bind (·.lockTarget) = some 9270 := by decide +kernel

theorem test_meets_StepSeatAndTestEnd :
    ((testing .holding 5).stn .s1).ctx = some (ctx 5) ∧ (ctx 5).causes = .none ∧
    (heldBy { CauseSet.none with host := true } true).s1.ctx.map (·.causes) ≠ some .none ∧
    (testing .holding 5).entry 7 ≠ none ∧ ((testing .holding 5).entry 7).map (·.counted) = some false ∧
    ((counted .stressing).entry 7).map (·.counted) = some true ∧
    ({ ctx 6 with decision := some .passed } : TestCtx).decision = some .passed := by decide +kernel

/-- R43, R160: the seat event moves the row's load, once. -/
theorem test_seat_event :
    let t := after (testing .holding 5) (.holdEnd .s1)
    t.s1.state = .seating ∧ t.rows[0]? = some ⟨9000, 0⟩ ∧ t.reg.map (·.counted) = [true] ∧
    t.s1.seat = some ⟨5, 0⟩ := by decide +kernel

/-- R46, R69, R160: a failed test that did not seat ends REJECTED with its verdict and reasons, and its reservation leaves
the row. -/
theorem test_test_end :
    let t := (testing .unloading 4 fun c => { c with decision := some (.failed [.lappLow]) }).endTest .s1
    t.reg.map (·.stage) = [.rejected] ∧ t.rows[0]? = some ⟨0, 0⟩ ∧
    t.reg.map (fun e => e.result.map (·.verdict)) = [some (some .failed)] ∧
    t.reg.map (fun e => e.result.map (·.reasons)) = [some [.lappLow]] ∧ t.s1.state = .idle ∧ t.s1.ctx = none ∧
    t.notices.entries.any (fun n => n.kind == .testEnded && n.detail == 2) = true := by decide +kernel

theorem test_meets_CreepReadingsAreTakenAndJudged :
    (∀ n ∈ [0, 1, 2, 3],
      let s := testing .holding 3 fun c => { c with creepTaken := n, readings := readings [0, 1420] }
      s.phase = .running ∧ s.s1.state = .holding ∧ s.s1.ctx.map (·.creepTaken) = some n ∧
        s.s1.ctx.map (fun c => decide (2 ≤ c.readings.length)) = some true) ∧
    (testing .holding 3 fun c => { c with readings := readings [0] }).s1.ctx.map (fun c => (c.creepTaken, c.readings.length)) =
      some (0, 1) ∧
    (ctx 3).kind = some .creep ∧ (testing .held 3).s1.state ≠ .holding := by decide +kernel

/-- Section 3.7 at 600 s: 225 fails, and the extended hold goes on. -/
theorem test_creep_reading :
    let s := at_ (testing .holding 3 fun c =>
      { c with creepTaken := 2, extInForce := true, readings := readings [0, 1, 2, 7110, 7262] }) 15000 7335
    let t := after s (.creepReading .s1)
    t.s1.state = .holding ∧ t.s1.ctx.map (·.creep) = some ⟨some 225, none, none, false⟩ ∧
    t.s1.ctx.map (·.creepTaken) = some 3 := by decide +kernel

theorem test_meets_TimedEventsOfAMovement :
    (testing .ramping 2 (moving .rampUp)).phase = .running ∧
    (testing .ramping 2 (moving .rampUp)).s1.ctx.bind (·.motion) = some (.start .rampUp 0) ∧
    (testing .seeking 6 (moving .seek)).s1.ctx.bind (·.motion) = some (.start .seek 0) ∧
    (testing .releasing 5 (moving .release)).s1.ctx.bind (·.motion) = some (.start .release 0) ∧
    grouted.s1.ctx = none ∧ grouted.s1.seat = none ∧
    (testing .ramping 2 (moving .ramp)).s1.ctx.bind (·.motion) = some (.start .ramp 0) ∧ (ctx 2).motion = none ∧
    { (testing .seating 5).s1 with seat := some ⟨5, 250⟩ }.seat = some ⟨5, 250⟩ := by decide +kernel

/-- R33: at a whole second a rise of 50 goes on, and one of 51 is throttled; R35: the timeout aborts. -/
theorem test_rate_gate_and_timeout :
    let s (load : Int) := at_ (testing .ramping 2 (moving .rampUp)) load 0
    (after (s 50) (.wholeSecond .s1)).s1.pump.cmd = 400 ∧ (after (s 51) (.wholeSecond .s1)).s1.pump.cmd = 0 ∧
    (after (s 50) (.rampTimeout .s1)).s1.state = .unloading ∧
    (after (s 50) (.rampTimeout .s1)).s1.ctx.bind (·.decision) = some (.aborted .rampTimeout) := by decide +kernel

/-- R43, R52: the seat pulse ends, and the release starts, UNLOADING where a decision stands; R32: the duty ends. -/
theorem test_seat_pulse_and_duty_end :
    let s (f : TestCtx → TestCtx) : State := { testing .seating 5 f with s1 := { (testing .seating 5 f).s1 with seat := some ⟨5, 250⟩ } }
    (after (s fun c => c) (.seatPulseEnd .s1)).s1.state = .releasing ∧
    (after (s fun c => { c with decision := some (.aborted .host) }) (.seatPulseEnd .s1)).s1.state = .unloading ∧
    (after (after (s fun c => c) (.seatPulseEnd .s1)) (.releaseDutyEnd .s1)).s1.relCmd = false := by decide +kernel

theorem test_meets_JackOverloadTripStopsTheTest :
    ((testing .holding 3).phase = .running ∧ (testing .holding 3).s1.ctx = some (ctx 3) ∧
      (testing .holding 3).s1.state ≠ .selftest) ∧
    (testing .unloading 3).s1.state = .unloading ∧
    ({ grouted.s1 with state := .selftest, self := some ⟨3, none, true⟩ } : Station).self = some ⟨3, none, true⟩ ∧
    grouted.s1.ctx = none ∧ grouted.s1.state ≠ .selftest := by decide +kernel

/-- R52, R98: the trip of the overload guard: FAULT, ABORTED OVERLOAD, the flag, its combined flag and TRIP. -/
theorem test_overload_trip :
    let t := after (testing .holding 3) (.jackOverloadTrip .s1)
    t.s1.state = .fault ∧ t.s1.ctx.bind (·.decision) = some (.aborted .overload) ∧ t.flag (.overload .s1) = true ∧
    t.combined 1 = true ∧ t.faults.trip = true := by decide +kernel

theorem test_meets_SamplePublishesAndTheStationActs :
    grouted.phase = .running ∧ grouted.enabled .s1 = true ∧ (without grouted off).enabled .s2 = false ∧
    grouted.site.enables.w = true ∧ (without grouted off).site.enables.w = false ∧ grouted.site.enables.g = true ∧
    (without grouted off).site.enables.g = false := by decide +kernel

/-- The guards of a sample at their thresholds: loads 12050 and 12051, lengths 1899, 1900, 199 and 200, and the pressure
guards of a pass. -/
theorem test_meets_SamplePublishesAndTheStationActs_guards :
    (at_ (testing .holding 3) 12050 0).s1.ctx = some (ctx 3) ∧
    (at_ (testing .holding 3) 12050 0).s1.runLoad ≤ min 15000 ((ctx 3).pp + 50) ∧
    min 15000 ((ctx 3).pp + 50) < (at_ (testing .holding 3) 12051 0).s1.runLoad ∧
    (at_ (testing .holding 3) 12051 0).s1.load.mark = some .valid ∧ grouted.s1.ctx = none ∧
    (winching .paying).winch.run = some ⟨7, 1900, none, none, 0, 0⟩ ∧ (winching .paying).winch.paid < 1900 ∧
    200 ≤ (winching .paying).winch.paid ∧ (grouting .pumping .opened).grout.pass = some pass ∧
    (grouting .paused .closed).grout.state ≠ .pumping ∧ grouted.grout.pass = none ∧ pass.refusal = 2000 ∧
    grouted.grout.state ≠ .selftest := by decide +kernel

/-- R96: a load of 12050 leaves the guard at 0, one of 12051 counts, and the third trips. R121, R139: slack, refusal. -/
theorem test_sample_guards :
    let loaded (n : Nat) (load : Int) : State :=
      let s := at_ (testing .holding 3) load 0
      { s with s1 := { s.s1 with ovl := ⟨n, none⟩ } }
    let slack (n : Nat) : State :=
      { winching .paying with winch := { (winching .paying).winch with tension := ⟨[50], some .valid⟩, slack := ⟨n, none⟩ } }
    let pressed (p : Int) : State :=
      let s := grouting .pumping .opened
      { s with grout := { s.grout with pressure := ⟨[p], some .valid⟩, refusal := ⟨4, none⟩, overp := ⟨2, none⟩ } }
    ((loaded 1 12050).overloadSample .s1).s1.ovl = ⟨0, some 12050⟩ ∧ ((loaded 1 12051).overloadSample .s1).s1.ovl = ⟨2, some 12050⟩ ∧
    ((loaded 2 12051).overloadSample .s1).s1.state = .fault ∧ (slack 23).winchSample.winch.slack = ⟨24, some 50⟩ ∧
    (slack 24).winchSample.winch.run.bind (·.reason) = some .slack ∧
    ((pressed 1999).groutSample true).grout.refusal.count = 0 ∧ ((pressed 1999).groutSample true).grout.state = .pumping ∧
    ((pressed 2000).groutSample true).grout.pass.bind (·.reason) = some .refusal ∧
    ((pressed 4000).groutSample true).grout.pass.bind (·.reason) = some .fault := by decide +kernel

/-- R78, R98: a VALID sample joins the window; an OPEN one leaves it and raises its fault. -/
theorem test_sample :
    (after grouted (.sample .load1 27306 true)).s1.load = ⟨[11249], some .valid⟩ ∧
    (after grouted (.sample .load1 9829 true)).s1.load = ⟨[], some .isOpen⟩ ∧
    (after grouted (.sample .load1 9829 true)).flag (.loadOpen .s1) = true ∧
    (after grouted (.sample .pressure 57345 true)).flag .pressureOver = true := by decide +kernel

theorem test_meets_StationActsAtASample :
    ((at_ (testing .holding 2) 4000 24500).stn .s1).ctx = some (ctx 2) ∧ (ctx 2).decision = none ∧
    ((ctx 2).cap.stroke : Int) - (ctx 2).cap.strokeMargin ≤ (at_ (testing .holding 2) 4000 24500).s1.runDisp ∧
    ¬((ctx 2).cap.stroke : Int) - (ctx 2).cap.strokeMargin ≤ (at_ (testing .holding 2) 4000 24499).s1.runDisp ∧
    (testing .ramping 2 (moving .ramp)).s1.ctx.bind (·.motion) = some (.start .ramp 0) ∧
    (testing .seeking 6 (moving .seek)).s1.ctx.bind (·.motion) = some (.start .seek 0) ∧
    (testing .held 2).s1.state = .held ∧ ({ ctx 2 with decision := some (.aborted .host) } : TestCtx).decision ≠ none ∧
    (at_ (testing .unloading 6) 20 0).s1.runLoad ≤ (ctx 6).cap.loadTol ∧
    (testing .holding 2).phase = .running ∧ (testing .holding 2).s1.state = .holding ∧
    (testing .holding 2).s1.ctx.bind (·.kind) = some .load ∧ (testing .holding 3).s1.ctx.bind (·.kind) = some .creep := by
  decide +kernel

/-- R36: stroke end; R31: the target reached; R44, R68: the lift-off at 9120 passes; R46: a release at 20 is done. -/
theorem test_station_samples :
    ((at_ (testing .holding 2) 4000 24500).stationSample .s1).s1.ctx.bind (·.decision) = some (.aborted .strokeEnd) ∧
    (State.stationSample (at_ (testing .ramping 2 fun c => { moving .rampUp c with target := 3996 }) 3976 0) .s1).s1.state =
      .holding ∧
    (State.stationSample (at_ (testing .ramping 2 fun c => { moving .rampUp c with target := 3996 }) 3975 0) .s1).s1.state =
      .ramping ∧
    (at_ (testing .held 2) 4000 24499).stationSample .s1 = at_ (testing .held 2) 4000 24499 ∧
    (State.stationSample (at_ (testing .seeking 6 fun c => { moving .seek c with target := 9470 }) 9120 100) .s1).s1.ctx.bind
      (·.decision) = some .passed ∧
    (State.stationSample (at_ (testing .unloading 6 fun c => { c with decision := some .passed, seatDone := true }) 20 0)
      .s1).reg.map (·.stage) = [.locked] := by decide +kernel

/-- A hold of 60 s of step 2 at 3996, with its samples counted and a movement. -/
def held (samples topUps : Nat) (m : Option MotionKind) (load : Int) : State :=
  at_ (testing .holding 2 fun c =>
    { c with target := 3996, holdSamples := samples, topUps := topUps, motion := m.map fun k => .start k 0 }) load 0

theorem test_meets_StationActsAtASample_hold :
    ((held 2999 0 none 3996).stn .s1).ctx.map (fun c => (c.kind, c.holdSamples)) = some (some .load, 2999) ∧
    (held 2999 4 none 3975).s1.runLoad + 20 < 3996 ∧ ¬(held 2999 4 none 3976).s1.runLoad + 20 < 3996 ∧
    3996 + 20 < (held 2999 4 none 4017).s1.runLoad ∧ (held 0 4 (some .topUp) 3996).s1.runLoad = 3996 ∧
    (held 0 5 none 3975).s1.state = .holding ∧ (ctx 2).cap.topUpMax = 5 ∧ (ctx 3).kind = some .creep ∧
    (ctx 5).kind = some .lockoff ∧ (testing .releasing 5 (moving .release)).s1.ctx.bind (·.motion) = some (.start .release 0) ∧
    (testing .seating 5).s1.ctx = some (ctx 5) ∧ (testing .fault 5).s1.state = .fault := by decide +kernel

theorem test_meets_StationActsAtASample_released :
    ((testing .releasing 6).stn .s1).ctx.map (fun c => (c.kind, c.causes)) = some (some .liftoff, .none) ∧
    ((testing .releasing 6 fun c => { c with causes := { CauseSet.none with trip := true } }).stn .s1).ctx.map (·.causes) ≠
      some .none ∧
    ((testing .releasing 5).stn .s1).ctx.bind (·.kind) = some .lockoff := by decide +kernel

/-- R37, R44, R49: a release done in RELEASING seeks at LIFTOFF, holds where a cause stands, and else completes LOCKOFF. -/
theorem test_release_done :
    ((testing .releasing 6).releaseDone .s1).s1.state = .seeking ∧
    ((testing .releasing 6).releaseDone .s1).s1.ctx.map (·.target) = some 9470 ∧
    (State.releaseDone (testing .releasing 6 fun c => { c with causes := { CauseSet.none with trip := true } }) .s1).s1.state =
      .held ∧
    ((testing .releasing 5).releaseDone .s1).s1.ctx.map (·.step) = some 6 := by decide +kernel

/-- R34: a load of 3975 starts a top-up, or ends the test HOLD_LOSS after the fifth; one of 4017 a correction; a top-up ends
at 3996; the hold of 60 s ends at its 3000th sample. -/
theorem test_load_control :
    let kind (s : State) : Option (MotionKind × Nat) := s.s1.ctx.bind fun c => c.motion.map fun m => (m.kind, c.topUps)
    kind ((held 0 4 none 3975).stationSample .s1) = some (.topUp, 5) ∧ kind ((held 0 4 none 3976).stationSample .s1) = none ∧
    kind ((held 0 4 none 4017).stationSample .s1) = some (.correction, 4) ∧
    kind ((held 0 4 (some .topUp) 3995).stationSample .s1) = some (.topUp, 4) ∧
    kind ((held 0 4 (some .topUp) 3996).stationSample .s1) = none ∧
    ((held 0 5 none 3975).stationSample .s1).s1.ctx.bind (·.decision) = some (.aborted .holdLoss) ∧
    ((held 2998 0 none 3996).stationSample .s1).s1.state = .holding ∧
    ((held 2999 0 none 3996).stationSample .s1).s1.ctx.map (·.step) = some 3 := by decide +kernel

/-- R36, R45: stroke end in RELEASING: the release goes on in UNLOADING, and at zero load the test ends at that sample. -/
theorem test_stroke_end_in_releasing :
    let s (load : Int) := (at_ (testing .releasing 5 (moving .release)) load 24500).stationSample .s1
    (s 21).s1.state = .unloading ∧ (s 21).s1.ctx.bind (·.motion) = some { Motion.start .release 0 with samples := 1, second := 1 } ∧
    (s 20).s1.state = .idle ∧ (s 20).reg.map (fun e => e.result.bind (·.abort)) = [some .strokeEnd] := by decide +kernel

/-- R35: a ramp of 96 s at the rate gives 348 s; it goes on at sample 17399 and times out at sample 17400. -/
theorem test_ramp_timeout_at_a_sample :
    let s (n : Nat) := at_ (testing .ramping 2 fun c =>
      { c with target := 6000, motion := some ⟨.rampUp, 1200, n, 0, 5000⟩ }) 5000 0
    ((s 17398).stationSample .s1).s1.state = .ramping ∧
    ((s 17399).stationSample .s1).s1.ctx.bind (·.decision) = some (.aborted .rampTimeout) := by decide +kernel

/-! ## The front end, the winch and the manifold -/

theorem test_meets_SetCalibrationReplacesTheRecord :
    grouted.accepts (.setCalibration 0 1 (-2000) 30000 0 0) ∧ grouted.selectorBusy 1 = false ∧
    grouted.selectorBusy 20 = false ∧ grouted.accepts (.setCalibration 0 22 0 0 0 1) ∧
    (grouted.stn .s2).state = .idle ∧ (testing .held 3).accepts (.setCalibration 0 1 0 1 0 0) ∧
    (testing .held 3).selectorBusy 1 = true ∧ (testing .held 3).s1.state ≠ .idle ∧
    (testing .held 3 fun c => { c with baselines := some 399 :: List.replicate 15 none }).s1.ctx.bind
      (fun c => c.baselines[5 - 5]?) = some (some 399) :=
  ⟨takes rfl _, rfl, rfl, takes rfl _, rfl, takes rfl _, rfl, by decide, rfl⟩

theorem test_set_calibration_answers :
    answers grouted
      [(.setCalibration 0 0 0 1 0 0, .outOfRange, 1), (.setCalibration 0 23 0 1 0 0, .outOfRange, 1),
       (.setCalibration 0 1 2001 1 0 0, .outOfRange, 2), (.setCalibration 0 1 (-2001) 1 0 0, .outOfRange, 2),
       (.setCalibration 0 1 0 0 0 0, .outOfRange, 3), (.setCalibration 0 2 0 30001 0 0, .outOfRange, 3),
       (.setCalibration 0 3 0 2001 0 0, .outOfRange, 3), (.setCalibration 0 4 0 10001 0 0, .outOfRange, 3),
       (.setCalibration 0 20 0 32001 1 0, .outOfRange, 3), (.setCalibration 0 20 0 30001 0 0, .outOfRange, 3),
       (.setCalibration 0 4 0 1 1 0, .outOfRange, 4), (.setCalibration 0 5 0 1 2 0, .outOfRange, 4),
       (.setCalibration 0 5 2000 32000 1 0, .ok, 0), (.setCalibration 0 21 0 0 0 2, .outOfRange, 5),
       (.setCalibration 0 21 0 0 0 1, .ok, 0), (.setCalibration 0 22 0 0 1 1, .outOfRange, 4)] = true ∧
    answers (testing .held 3) [(.setCalibration 0 1 0 1 0 0, .busy, 0), (.setCalibration 0 21 0 1 0 0, .busy, 0)] = true ∧
    answers (testing .held 3 fun c => { c with baselines := some 399 :: List.replicate 15 none })
      [(.setCalibration 0 5 0 1 0 0, .busy, 0), (.setCalibration 0 6 0 1 0 0, .ok, 0)] = true := by
  decide +kernel

theorem test_meets_SetStationsWritesTheEnables :
    grouted.accepts (.setStations 0 0 0 0 0) ∧ (testing .held 3).accepts (.setStations 0 0 1 1 1) ∧
    (testing .held 3).site.enables.s1 = true ∧ (testing .held 3).s1.state ≠ .idle :=
  ⟨takes rfl _, takes rfl _, rfl, by decide⟩

theorem test_set_stations_answers :
    answers grouted [(.setStations 0 2 1 1 1, .outOfRange, 1), (.setStations 0 1 1 1 2, .outOfRange, 4), (.setStations 0 0 0 0 0, .ok, 0)] =
      true ∧
    answers (testing .held 3) [(.setStations 0 0 1 1 1, .busy, 1), (.setStations 0 1 0 1 1, .ok, 0)] = true := by
  decide +kernel

/-- R93: a disabled station loses its fault group, and TRIP falls with it. -/
theorem test_disable_clears_the_group :
    let t := after (tripped grouted) (.setStations 0 0 1 1 1)
    t.faults.det = 0#20 ∧ t.faults.comb = 0#6 ∧ t.faults.trip = false ∧ t.site.enables = ⟨false, true, true, true⟩ := by
  decide +kernel

/-- A pass that pumps, its window open, with so much pumped. -/
def pumpingAt (volume : Nat) : State :=
  let s := grouting .pumping .opened { pass with volume := volume, noFlow := some (3, 30) }
  { s with grout :=
      { s.grout with pump := ⟨1000, 1000⟩, flow := { published := 0, isOpen := true, timed := true, stray := 0, lowered := false } } }

/-- A pass one quantum short of its cap. -/
def pumping : State := pumpingAt 49950

/-- A count at the encoder's end. -/
def atEnd : State := { grouted with s1 := { grouted.s1 with enc := ⟨30000, [], none, false, false⟩ } }

theorem test_meets_PulsesAndPeriodsAreCounted :
    grouted.phase = .running ∧ grouted.enabled .s1 = true ∧ (without grouted off).enabled .s1 = false ∧
    EncLine.a ≠ .both ∧ (-30000 : Int) ≤ grouted.s1.enc.count ∧ grouted.s1.enc.count ≤ 30000 ∧
    (30000 : Int) < atEnd.s1.enc.count + 1 ∧ 1 ≤ 1250000 ∧ pumping.site.enables.g = true ∧
    { grouted with phase := .inReset }.phase ≠ .running ∧
    pumping.grout.windowOpen = true ∧ pumping.grout.pass.isSome = true ∧ grouted.grout.windowOpen = false ∧
    (without grouted off).site.enables.g = false := by decide +kernel

/-- R80, with the direction of log 14: which edges count up; the end of the count holds it and raises ENCODER_RANGE. -/
theorem test_encoder_edges :
    (after grouted (.encoderEdge .s1 .a)).s1.enc = ⟨1, [], none, true, false⟩ ∧
    (after grouted (.encoderEdge .s1 .b)).s1.enc = ⟨-1, [], none, false, true⟩ ∧
    (after { grouted with phase := .inReset } (.encoderEdge .s1 .a)).s1.enc = ⟨0, [], none, true, false⟩ ∧
    (after atEnd (.encoderEdge .s1 .a)).s1.enc.count = 30000 ∧
    (after atEnd (.encoderEdge .s1 .a)).flag (.encoderRange .s1) = true := by decide +kernel

/-- R83, R84, R86, R138: a drum pulse; a window pulse that reaches the cap ends the pass; a stray pulse counts. -/
theorem test_pulses :
    (after grouted (.drumPulse true)).winch.drum = 1 ∧ (after grouted (.drumPulse false)).winch.drum = -1 ∧
    (after (pumpingAt 0) (.flowPulse 1250000)).grout.flow.published = 24 ∧
    (after pumping (.flowPulse 1250000)).grout.pass.map (fun p => (p.volume, p.reason)) = some (50000, some .volumeReached) ∧
    (after pumping .noFlowTime).grout.flow.timed = false ∧
    (after grouted (.flowPulse 1)).grout.flow.stray = 1 := by decide +kernel

/-- R85: the stray pulse that reaches the leak limit raises VALVE_LEAK. -/
theorem test_valve_leak :
    let s : State := { grouted with grout := { grouted.grout with flow := { Flow.rest with stray := 9 } } }
    (after s (.flowPulse 1)).flag .valveLeak = true ∧ (after grouted (.flowPulse 1)).flag .valveLeak = false := by
  decide +kernel

/-- R88: the applied demand takes the command at the period's start, but 0 under a force. -/
theorem test_pwm_period :
    let s : State := { grouted with s1 := { grouted.s1 with pump := ⟨400, 0⟩ } }
    (after s .pwmPeriodStart).s1.pump = ⟨400, 400⟩ ∧ (after (emergency s) .pwmPeriodStart).s1.pump = ⟨400, 0⟩ := by
  decide +kernel

theorem test_meets_WinchRunsStartAndEnd :
    (site (ent .declared)).accepts (.winchRun 0 7) ∧ (site (ent .declared)).site.enables.w = true ∧
    (site (ent .declared)).winch.state = .idle ∧ (site (ent .declared)).faults.trip = false ∧
    (site (ent .declared)).combined 3 = false ∧ (site (ent .declared)).entry 7 = some (ent .declared) ∧
    (winching .paying).accepts (.winchStop 0) ∧ (winching .paying).winch.state = .paying ∧
    200 ≤ roundAway ((winching .paying).winch.drum * (winching .paying).site.settings.drumMm) 100 ∧
    roundAway (796 * (winching .paying).site.settings.drumMm) 100 < 200 ∧
    (winching .stopping (some .jammed)).winch.run.bind (·.reason) = some .jammed ∧
    ({ (site (ent .declared)).winch with state := .selftest } : Winch).state = .selftest ∧
    ({ (site (ent .declared)).winch with state := .selftest, self := some ⟨5, none, true⟩ } : Winch).self =
      some ⟨5, none, true⟩ := by
  refine ⟨takes rfl _, rfl, rfl, rfl, rfl, rfl, takes rfl _, ?_⟩; decide +kernel

theorem test_winch_answers :
    answers (site (ent .declared))
      [(.winchRun 0 8, .noSuchAnchor, 0), (.winchStop 0, .wrongStage, 0), (.winchRun 0 7, .accepted, 0)] = true ∧
    answers (without grouted off) [(.winchRun 0 7, .disabled, 0), (.winchStop 0, .disabled, 0)] = true ∧
    answers (winching .stopping) [(.winchRun 0 7, .busy, 0), (.winchStop 0, .ok, 0)] = true ∧
    answers (winching .paying) [(.winchStop 0, .ok, 0)] = true ∧
    answers (emergency (site (ent .declared))) [(.winchRun 0 7, .emergency, 0)] = true ∧
    answers (tripped (site (ent .declared))) [(.winchRun 0 7, .faulted, 0)] = true ∧
    answers (site (ent .placed)) [(.winchRun 0 7, .wrongStage, 0)] = true := by decide +kernel

/-- R119: the target is free length, bond length and head allowance; R120, R125: a trip and the expiry. -/
theorem test_winch_run :
    (after (site (ent .declared)) (.winchRun 0 7)).winch.run.map (·.target) = some 1900 ∧
    (after (winching .paying) .winchJamTrip).winch.run.bind (·.reason) = some .jammed ∧
    (after (winching .paying) .winchSlackTrip).winch.run.bind (·.reason) = some .slack ∧
    (after { winching .paying with winch := { (winching .paying).winch with drum := 7600 } } .winchJamTrip).winch.run.bind
      (·.reason) = some .reached := by decide +kernel

/-- R120, R121: a trip goes by the length of its own sample, whatever length the run before it left published. -/
theorem test_trip_before_a_sample :
    let s : State := { winching .paying with winch := { (winching .paying).winch with drum := 0, paid := 1900 } }
    after s .winchSlackTrip = s ∧ (after s .winchJamTrip).winch.run.bind (·.reason) = some .jammed ∧
    (after s .winchJamTrip).winch.paid = 0 := by decide +kernel

/-- R120: a trip raises the peak tension, as its sample does. -/
theorem test_trip_raises_the_peak :
    let w : Winch := { (winching .paying).winch with tension := ⟨[1600], some .valid⟩ }
    (after { winching .paying with winch := w } .winchJamTrip).winch.run.map (·.peak) = some 1600 := by decide +kernel

/-- R125: a run that ended REACHED makes the anchor PLACED. -/
theorem test_brake_interval :
    let t := after (winching .stopping (some .reached)) .brakeIntervalExpiry
    t.winch.state = .idle ∧ t.reg.map (·.stage) = [.placed] ∧ t.reg.map (·.winch) = [some ⟨.reached, 200, 0⟩] ∧
    t.notices.entries.any (fun n => n.kind == .runEnded && n.detail == 1) = true := by decide +kernel

theorem test_meets_ReleasePortEmptiesThePort :
    placed.accepts (.releasePort 0 2) ∧ placed.grout.pass = none ∧ placed.grout.ports[1 - 1]? = some none ∧
    (grouting .pumping .opened).accepts (.releasePort 0 2) ∧ (grouting .pumping .opened).grout.pass = some pass ∧
    pass.port = 2 ∧ (lost placed).phase = .running ∧ (lost placed).link.reply = none ∧ (lost placed).link.queue = [] ∧
    (lost placed).link.lost = true ∧
    (⟨8, .primary, 0⟩ : GroutReq) ∈ { placed.grout with queue := [⟨8, .primary, 0⟩] }.queue ∧ placed.portOf 8 = none :=
  ⟨takes rfl _, rfl, rfl, takes rfl _, rfl, rfl, rfl, rfl, rfl, rfl, by simp, rfl⟩

theorem test_release_port_answers :
    answers placed [(.releasePort 0 0, .outOfRange, 1), (.releasePort 0 7, .outOfRange, 1), (.releasePort 0 2, .ok, 0), (.releasePort 0 6, .ok, 0)] =
      true ∧
    answers (grouting .pumping .opened) [(.releasePort 0 2, .busy, 0)] = true ∧
    answers (lost placed) [(.releasePort 0 2, .linkLost, 0)] = true ∧
    (after placed (.releasePort 0 2)).grout.ports = [none, none, none, none, none, none] := by decide +kernel

/-- A queue of requests. -/
def queueing (s : State) (q : List GroutReq) : State := { s with grout := { s.grout with queue := q } }

theorem test_meets_PortsAndTheGroutQueue :
    placed.accepts (.assignPort 0 1 7) ∧ placed.entry 7 ≠ none ∧ placed.grout.pass = none ∧ placed.portOf 7 = some 2 ∧
    placed.grout.ports[1 - 1]? = some none ∧ placed.accepts (.groutRequest 0 7) ∧ placed.grout.queue.length < 8 ∧
    (queueing placed [⟨7, .primary, 0⟩]).accepts (.groutCancel 0 7) ∧
    (queueing placed [⟨7, .primary, 0⟩]).grout.queue = [] ++ ⟨7, .primary, 0⟩ :: [] ∧
    (grouting .pumping .opened).accepts (.groutCancel 0 7) :=
  ⟨takes rfl _, by decide +kernel, rfl, rfl, rfl, takes rfl _, by decide +kernel, takes rfl _, rfl, takes rfl _⟩

theorem test_grout_queue_answers :
    answers placed
      [(.assignPort 0 0 7, .outOfRange, 1), (.assignPort 0 7 7, .outOfRange, 1), (.assignPort 0 1 8, .noSuchAnchor, 0),
       (.assignPort 0 2 7, .ok, 0), (.assignPort 0 1 7, .duplicate, 2), (.groutRequest 0 8, .noSuchAnchor, 0),
       (.groutRequest 0 7, .ok, 1), (.groutCancel 0 7, .wrongStage, 0)] = true ∧
    answers { placed with reg := placed.reg ++ [Entry.fresh { decl with id := 8 }] }
      [(.assignPort 0 2 8, .busy, 7), (.assignPort 0 6 8, .ok, 0), (.groutRequest 0 8, .wrongStage, 0)] = true ∧
    answers (site (ent .placed)) [(.groutRequest 0 7, .noPort, 0)] = true ∧
    answers (grouting .pumping .opened) [(.assignPort 0 2 7, .busy, 0), (.groutRequest 0 7, .duplicate, 0), (.groutCancel 0 7, .busy, 0)] =
      true ∧
    answers (queueing placed (List.replicate 8 ⟨9, .primary, 0⟩)) [(.groutRequest 0 7, .full, 0)] = true ∧
    answers (queueing placed [⟨7, .primary, 0⟩]) [(.groutRequest 0 7, .duplicate, 0), (.groutCancel 0 7, .ok, 0)] = true ∧
    answers (without placed off) [(.groutRequest 0 7, .disabled, 0)] = true ∧
    answers { placed with site := { placed.site with clockValid := false } } [(.groutRequest 0 7, .clockUnset, 0)] = true ∧
    answers { placed with reg := placed.reg.map fun e => { e with passes := List.replicate 3 ⟨.primary, 2, 0, none, none, none, none, .noFlow⟩ } }
      [(.groutRequest 0 7, .attemptsExhausted, 0)] = true := by decide +kernel

theorem test_meets_ArbiterServesTheOldestEligible :
    let s := queueing placed [⟨8, .primary, 0⟩, ⟨7, .primary, 0⟩, ⟨9, .primary, 0⟩]
    s.phase = .running ∧
    (s.grout.state = .idle ∧ s.grout.pass = none ∧ s.site.enables.g = true ∧ s.faults.trip = false ∧
      s.faults.emergency.set = false ∧ s.link.lost = false ∧ s.combined 4 = false) ∧
    s.grout.queue = [⟨8, .primary, 0⟩] ++ ⟨7, .primary, 0⟩ :: [⟨9, .primary, 0⟩] ∧ s.portOf 8 = none ∧ s.portOf 7 = some 2 ∧
    s.entry 7 ≠ none ∧ (without s off).site.enables.g = false := by decide +kernel

/-- R135: the request nearest the front whose anchor has a port is served. -/
theorem test_arbiter_serves :
    let t := after (queueing placed [⟨8, .primary, 0⟩, ⟨7, .primary, 0⟩]) .arbiterServe
    t.grout.state = .starting ∧ t.grout.queue = [⟨8, .primary, 0⟩] ∧ t.grout.pass.map (·.cap) = some 50000 ∧
    (t.grout.valve 2).state = .opening ∧ t.reg.map (·.stage) = [.grouting] ∧
    t.notices.entries.any (fun n => n.kind == .passStarted && n.detail == 513) = true := by decide +kernel

/-- A paused pass with a cause set. -/
def paused (cs : CauseSet) : State := grouting .paused .closed { pass with causes := cs }

theorem test_meets_PassesStopPauseAndResume :
    pumping.accepts (.groutStop 0) ∧ pumping.site.enables.g = true ∧ pumping.grout.state = .pumping ∧
    pumping.grout.pass.isSome = true ∧ (paused .none).accepts (.groutResume 0) ∧ (paused .none).grout.state = .paused ∧
    (paused .none).combined 4 = false ∧ (paused { CauseSet.none with trip := true }).accepts (.groutResume 0) ∧
    (without pumping off).accepts (.groutPause 0) ∧ (without pumping off).site.enables.g = false :=
  ⟨takes rfl _, rfl, rfl, rfl, takes rfl _, rfl, rfl, takes rfl _, takes rfl _, rfl⟩

theorem test_pass_answers :
    answers placed [(.groutStop 0, .wrongStage, 0), (.groutPause 0, .wrongStage, 0), (.groutResume 0, .wrongStage, 0)] = true ∧
    answers (without placed off) [(.groutStop 0, .disabled, 0), (.groutPause 0, .disabled, 0), (.groutResume 0, .disabled, 0)] =
      true ∧
    answers pumping [(.groutStop 0, .ok, 0), (.groutPause 0, .ok, 0), (.groutResume 0, .wrongStage, 0)] = true ∧
    answers (grouting .ending .closing) [(.groutStop 0, .ok, 0), (.groutPause 0, .wrongStage, 0)] = true ∧
    answers (paused { CauseSet.none with host := true }) [(.groutResume 0, .ok, 0), (.groutPause 0, .ok, 0)] = true ∧
    answers (paused { CauseSet.none with host := true, emergency := true }) [(.groutResume 0, .conditionPresent, 5)] = true ∧
    answers { paused .none with faults := { (paused .none).faults with comb := 8#6 } } [(.groutResume 0, .faulted, 0)] =
      true := by decide +kernel

/-- R141, R143: a pause stops the pump and closes the valve; a resume opens it again. -/
theorem test_pause_and_resume :
    (after pumping (.groutPause 0)).grout.state = .paused ∧ (after pumping (.groutPause 0)).grout.pump.cmd = 0 ∧
    ((after pumping (.groutPause 0)).grout.valve 2).state = .closing ∧
    (after (paused { CauseSet.none with host := true }) (.groutResume 0)).grout.state = .starting ∧
    ((after (paused { CauseSet.none with host := true }) (.groutResume 0)).grout.valve 2).state = .opening := by
  decide +kernel

theorem test_meets_PassesEndAndComplete :
    (grouting .starting .opening).phase = .running ∧ (grouting .starting .opening).grout.pass = some pass ∧
    (((grouting .starting .opening).grout.valve 2).state = .opening ∧ (grouting .starting .opening).grout.state = .starting) ∧
    (((grouting .ending .closing).grout.valve 2).state = .closing ∧ (grouting .ending .closing).grout.state = .ending) ∧
    (pumping.grout.state = .pumping ∧ pumping.grout.pass.bind (·.noFlow) = some (3, 30)) ∧
    (paused .none).grout.state = .paused ∧ ({ pass with reason := some .volumeReached } : Pass).reason = some .volumeReached ∧
    (6 : Nat) ≠ pass.port ∧ 6 ≤ grouted.grout.valves.length ∧ grouted.grout.pass = none ∧
    ({ grouted.grout with state := .selftest, self := some ⟨3, none, true⟩ } : Grout).self = some ⟨3, none, true⟩ := by
  decide +kernel

/-- R137, R138, R142, R144: the valve opens and the pump runs; the ends of a pass; GROUTED after VOLUME_REACHED. -/
theorem test_pass_ends :
    (after (grouting .starting .opening) (.valveTravelEnd 2)).grout.state = .pumping ∧
    (after (grouting .starting .opening) (.valveTravelEnd 2)).grout.pump.cmd = 1000 ∧
    (after pumping .noFlow).grout.pass.bind (·.reason) = some .noFlow ∧
    (after pumping .groutRefusalTrip).grout.pass.bind (·.reason) = some .refusal ∧
    (after pumping .groutOverpressureTrip).flag .overpressure = true ∧
    (after (paused .none) .pauseExpired).reg.map (fun e => (e.stage, e.passes.map (·.reason))) = [(.placed, [.pauseExpired])] ∧
    (after (grouting .ending .closing { pass with reason := some .volumeReached, endTime := some 5 }) (.valveTravelEnd 2)).reg.map
      (fun e => (e.stage, e.primaryEnd)) = [(.grouted, some 5)] := by decide +kernel

/-! ## Faults, self-tests and the emergency state -/

/-- R136: a trip raises the peak pressure, as its sample does. -/
theorem test_grout_trip_raises_the_peak :
    let s : State := { pumping with grout := { pumping.grout with pressure := ⟨[2000], some .valid⟩ } }
    (after s .groutRefusalTrip).grout.pass.map (·.peakPressure) = some 2000 ∧
    (after s .groutOverpressureTrip).grout.pass.map (·.peakPressure) = some 2000 := by decide +kernel

/-- A part whose LOAD1 is OPEN with its flag and combined flag set, unmasked. -/
def loadOpen : State :=
  { grouted with
    s1 := { grouted.s1 with load := ⟨[], some .isOpen⟩ }, faults := { grouted.faults with det := 2#20, comb := 1#6, trip := true } }

theorem test_meets_FlagsLatchClearAndTrip :
    loadOpen.accepts (.clearFault 0 1 2) ∧ (Flag.loadOpen .s1 ∈ Flag.all ∧ (Flag.loadOpen .s1).group = 1 ∧
      (Flag.loadOpen .s1).code = 2) ∧
    loadOpen.flag (.loadOpen .s1) = true ∧ loadOpen.condition (.loadOpen .s1) = true ∧
    (tripped grouted).accepts (.clearGroup 0 1) ∧ (tripped grouted).flag (.overload .s1) = true ∧
    (tripped grouted).combined 1 = true ∧ (without grouted off).groupLive 1 = false ∧
    (without grouted off).accepts (.clearFault 0 1 1) ∧ grouted.groupLive 6 = true ∧
    grouted.faults.trip = false ∧ (tripped grouted).faults.trip = true ∧ grouted.phase = .running := by
  refine ⟨takes rfl _, by decide +kernel, rfl, rfl, takes rfl _, by decide +kernel, by decide +kernel, by decide +kernel,
    takes rfl _, ?_⟩
  decide +kernel

theorem test_fault_answers :
    answers loadOpen
      [(.clearFault 0 0 1, .outOfRange, 1), (.clearFault 0 7 1, .outOfRange, 1), (.clearFault 0 1 5, .outOfRange, 2),
       (.clearFault 0 6 17, .outOfRange, 2), (.clearFault 0 1 2, .conditionPresent, 2), (.clearFault 0 1 1, .ok, 0),
       (.clearGroup 0 0, .outOfRange, 1), (.clearGroup 0 7, .outOfRange, 1), (.clearGroup 0 1, .flagsRemain, 2),
       (.clearGroup 0 6, .ok, 0)] = true ∧
    answers (without loadOpen off) [(.clearFault 0 1 2, .ok, 0)] = true ∧
    answers (tripped grouted) [(.clearFault 0 1 1, .ok, 0), (.clearGroup 0 1, .flagsRemain, 1)] = true := by decide +kernel

/-- R102, R103, R106: the detailed flag goes first, then the combined flag, and TRIP with it. -/
theorem test_flag_group_and_trip :
    (after (tripped grouted) (.clearFault 0 1 1)).faults.trip = true ∧
    (after (tripped grouted) (.clearFault 0 1 1)).faults.det = 0#20 ∧
    (after { tripped grouted with faults := { (tripped grouted).faults with det := 0#20 } } (.clearGroup 0 1)).faults.trip =
      false ∧
    (grouted.raise .tiltExceeded).faults.trip = true ∧
    (grouted.raise .tiltExceeded).notices.entries.any (fun n => n.kind == .faultRaised && n.detail == 5 + 256 * 11) = true := by
  decide +kernel

theorem test_meets_FlagsLatchClearAndTrip_emergency :
    let s := emergency { tripped grouted with faults := { (tripped grouted).faults with trip := false } }
    s.phase = .running ∧ s.faults.trip = false ∧ s.faults.emergency.set = true ∧
    s.faults.comb &&& ~~~s.site.limits.tripMask ≠ 0#6 ∧ s.judgeTrip.faults.trip = true := by decide +kernel

/-- R98: the condition of each flag of a station, of the manifold, of the wall and of the clock. -/
theorem test_conditions :
    let g := grouted.grout
    let f (n : Nat) : State := { grouted with grout := { g with flow := { g.flow with stray := n } } }
    (testing .fault 2).condition (.overload .s1) = true ∧ (testing .held 2).condition (.overload .s1) = false ∧
    atEnd.condition (.encoderRange .s1) = true ∧ (f 9).condition .valveLeak = false ∧ (f 10).condition .valveLeak = true ∧
    State.reset.condition .clockLost = true ∧ grouted.condition .clockLost = false ∧ (lost grouted).condition .linkLost = true ∧
    { grouted with grout := { g with pressure := ⟨[5000], some .valid⟩ } }.condition .overpressure = true ∧
    grouted.condition .selftestFailed = false := by decide +kernel

theorem test_meets_ConditionsReachEveryStation :
    grouted.s1.ctx = none ∧ ((testing .ramping 2).stn .s1).ctx = some (ctx 2) ∧ (testing .ramping 2).s1.state = .ramping ∧
    (testing .held 2).s1.state = .held ∧ (testing .fault 2).s1.state = .fault ∧ (winching .paying).winch.state = .paying ∧
    (winching .paying).winch.run.isSome = true ∧ (winching .idle).winch.state ≠ .paying ∧
    (grouting .starting .opening).grout.pass = some pass ∧ (grouting .starting .opening).grout.state = .starting ∧
    (paused .none).grout.state = .paused ∧ (grouting .ending .closing).grout.state = .ending ∧
    grouted.grout.pass = none := by decide +kernel

/-- R48, R123, R141: TRIP holds a ramping test, halts a run and pauses a pass. -/
theorem test_trip_reaches_the_stations :
    ((testing .ramping 2).handCause .trip .trip).s1.state = .held ∧
    ((winching .paying).handCause .trip .trip).winch.run.bind (·.halt) = some .trip ∧
    (pumping.handCause .trip .trip).grout.state = .paused ∧
    ((testing .fault 2).handCause .trip .trip).s1.ctx.map (·.causes) = some .none := by decide +kernel

/-- R48, R108: a cause whose condition ends leaves the set of a held test; R52: the set of a test in FAULT is frozen. -/
theorem test_ended_causes_leave :
    let caused (x : StnState) : State :=
      testing x 2 fun c => { c with causes := { CauseSet.none with host := true, trip := true } }
    ((caused .held).dropCause .trip).s1.ctx.map (·.causes) = some { CauseSet.none with host := true } ∧
    ((caused .fault).dropCause .trip).s1.ctx.map (·.causes) = some { CauseSet.none with host := true, trip := true } := by
  decide +kernel

/-- A station in its self-test, its sample counted. -/
def selfTesting (count guard : Nat) : State :=
  { grouted with
    s1 := { grouted.s1 with state := .selftest, self := some ⟨count, none, true⟩, ovl := ⟨guard, none⟩ }
    grout := { grouted.grout with state := .selftest, self := some ⟨count, none, true⟩ }
    winch := { grouted.winch with state := .selftest, self := some ⟨count, none, true⟩ } }

theorem test_meets_SelftestRunsAndEnds :
    grouted.accepts (.runSelftest 0 1) ∧ grouted.enabled .s1 = true ∧ (grouted.s1.state == .idle) = true ∧
    grouted.faults.emergency.set = false ∧ grouted.site.enables.g = true ∧ (grouted.grout.state == .idle) = true ∧
    grouted.site.enables.w = true ∧ (grouted.winch.state == .idle) = true ∧ (selfTesting 3 0).phase = .running ∧
    ((selfTesting 3 0).stn .s1).state = .selftest ∧ ((selfTesting 3 0).stn .s1).self = some ⟨3, none, true⟩ ∧
    (selfTesting 3 0).grout.self = some ⟨3, none, true⟩ ∧ (selfTesting 3 0).winch.self = some ⟨3, none, true⟩ ∧
    ((selfTesting 3 0).grout.state = .selftest ∧ (selfTesting 3 0).winch.state = .selftest ∧
      (selfTesting 3 0).winch.run = none) ∧
    grouted.grout.state ≠ .selftest :=
  ⟨takes rfl _, rfl, rfl, rfl, rfl, rfl, rfl, rfl, rfl, rfl, rfl, rfl, rfl, ⟨rfl, rfl, rfl⟩, by decide⟩

theorem test_selftest_answers :
    answers grouted
      [(.runSelftest 0 0, .outOfRange, 1), (.runSelftest 0 5, .outOfRange, 1), (.runSelftest 0 1, .accepted, 0),
       (.runSelftest 0 2, .accepted, 0), (.runSelftest 0 3, .accepted, 0), (.runSelftest 0 4, .accepted, 0)] = true ∧
    answers (without grouted off) [(.runSelftest 0 1, .disabled, 0), (.runSelftest 0 4, .disabled, 0)] = true ∧
    answers (testing .held 3) [(.runSelftest 0 1, .busy, 0)] = true ∧
    answers (emergency grouted) [(.runSelftest 0 3, .emergency, 0)] = true := by decide +kernel

/-- R111: a passed self-test: standing PASSED, station IDLE, SELFTEST_DONE with the guard and result 1. -/
theorem test_selftest_passes :
    let t := after (selfTesting 2 2) (.sample .load1 0 true)
    t.s1.state = .idle ∧ t.s1.passed = true ∧ t.s1.self = none ∧
    t.notices.entries.any (fun n => n.kind == .selftestDone && n.origin == .s1 && n.detail == 257) = true ∧
    (selfTesting 2 2).s1.self = some ⟨2, none, true⟩ := by decide +kernel

/-- R110, R111: the third sample trips the overload guard and passes the test; a trip row passes it; a fail sets DUE. -/
theorem test_selftest_ends :
    (after (selfTesting 2 2) (.sample .load1 0 true)).faults.records[0]? = some (some ⟨true, some 3, some 1000000⟩) ∧
    (after (selfTesting 1 1) (.sample .load1 0 true)).s1.state = .selftest ∧
    (after (selfTesting 1 0) (.sample .tension 0 true)).winch.self.map (·.count) = some 2 ∧
    (after (selfTesting 1 0) (.sample .pressure 0 true)).grout.self.map (·.count) = some 2 ∧
    (after (selfTesting 5 0) .winchJamTrip).faults.records[3]? = some (some ⟨true, some 5, some 1000000⟩) ∧
    (after (selfTesting 7 0) (.selftestFail 1)).s1.passed = false ∧
    (after (selfTesting 7 0) (.selftestFail 1)).flag .selftestFailed = true ∧
    (after (selfTesting 7 0) (.selftestFail 3)).grout.state = .idle := by decide +kernel

theorem test_meets_EmergencyIsSetAndCleared :
    grouted.estopHigh = true ∧ grouted.phase = .running ∧ grouted.faults.emergency.set = false ∧
    { grouted with estopHigh := false }.estopHigh = false ∧ { grouted with phase := .inReset }.phase ≠ .running ∧
    (emergency grouted).faults.emergency.set = true ∧ (emergency grouted).accepts (.clearEmergency 0) ∧
    { emergency grouted with wallTripHigh := false }.accepts (.clearEmergency 0) ∧ grouted.accepts (.clearEmergency 0) :=
  ⟨rfl, rfl, rfl, rfl, by decide, rfl, takes rfl _, takes rfl _, takes rfl _⟩

theorem test_emergency :
    (after pumping (.emergencyFallingEdge .estop)).faults.emergency = ⟨true, true, false, some 1000000⟩ ∧
    (after pumping (.emergencyFallingEdge .estop)).grout.pump.applied = 0 ∧
    ((after pumping (.emergencyFallingEdge .estop)).grout.valve 2).cmd = false ∧
    (after pumping (.emergencyFallingEdge .estop)).notices.entries.any (fun n => n.kind == .emergency && n.detail == 1) =
      true ∧
    (after { grouted with estopHigh := false } (.emergencyLineRise .estop)).estopHigh = true ∧
    answers { emergency grouted with wallTripHigh := false } [(.clearEmergency 0, .conditionPresent, 2)] = true ∧
    (after (emergency grouted) (.clearEmergency 0)).faults.emergency.set = false := by decide +kernel

/-! ## The Wall Watch -/

/-- Point 16 a TILT point with a baseline, point 1 a LOAD_CELL point of anchor 9, a scan published. -/
def watched : State :=
  { grouted with
    wall :=
      { points := [⟨.loadCell, some 9, none, 0, false⟩] ++ List.replicate 14 .unused ++ [⟨.tilt, none, some (-410), 600, false⟩]
        tilt := List.replicate 16 ⟨2, none⟩ }
    fe := { grouted.fe with scanCount := 255, scan := .valid 500 :: List.replicate 14 .unused ++ [.valid 240] } }

/-- The same with a test that holds a baseline of point 1. -/
def rising : State :=
  { watched with s1 := (testing .holding 2 fun c => { c with baselines := some 399 :: List.replicate 15 none }).s1 }

theorem test_meets_PointsAndBaselinesAreSet :
    watched.accepts (.setPoint 0 16 3 0 32000) ∧ watched.baselineHeld .s1 16 = false ∧ watched.baselineHeld .s2 16 = false ∧
    rising.accepts (.setPoint 0 1 1 0 0) ∧ rising.baselineHeld .s1 1 = true ∧ watched.linkHolder 2 9 = some 1 ∧
    watched.linkHolder 1 9 = none ∧ watched.accepts (.baseline 0 16 1) ∧ (watched.point 16).kind = .tilt ∧
    watched.scanned 16 = .valid 240 ∧ (watched.point 1).kind ≠ .tilt := by
  refine ⟨takes rfl _, rfl, rfl, takes rfl _, rfl, rfl, rfl, takes rfl _, rfl, rfl, by decide⟩

theorem test_point_answers :
    answers watched
      [(.setPoint 0 0 1 0 0, .outOfRange, 1), (.setPoint 0 17 1 0 0, .outOfRange, 1), (.setPoint 0 1 0 0 0, .outOfRange, 2),
       (.setPoint 0 1 4 0 0, .outOfRange, 2), (.setPoint 0 2 2 65001 0, .outOfRange, 3), (.setPoint 0 2 2 9 0, .duplicate, 1),
       (.setPoint 0 2 2 0 0, .ok, 0), (.setPoint 0 2 2 65000 0, .ok, 0), (.setPoint 0 2 3 0 0, .outOfRange, 4),
       (.setPoint 0 2 3 0 32001, .outOfRange, 4), (.setPoint 0 16 3 0 1, .ok, 0), (.setPoint 0 16 1 0 0, .ok, 0),
       (.baseline 0 0 1, .outOfRange, 1), (.baseline 0 16 3, .outOfRange, 2), (.baseline 0 16 0, .outOfRange, 2),
       (.baseline 0 1 1, .wrongStage, 0), (.baseline 0 16 1, .ok, 255), (.baseline 0 16 2, .ok, 0)] = true ∧
    answers { watched with fe := { watched.fe with scan := List.replicate 16 .isOpen } } [(.baseline 0 16 1, .conditionPresent, 16)] =
      true ∧
    answers rising [(.setPoint 0 1 1 0 0, .busy, 1)] = true := by decide +kernel

/-- R152, R153: a TILT point keeps its baseline under a new limit; a capture takes the scanned value, the guard at 0. -/
theorem test_points :
    (after watched (.setPoint 0 16 3 0 700)).wall.points[15]? = some ⟨.tilt, none, some (-410), 700, false⟩ ∧
    (after watched (.baseline 0 16 1)).wall.points[15]? = some ⟨.tilt, none, some 240, 600, true⟩ ∧
    (after watched (.baseline 0 16 1)).wall.tilt[15]? = some ⟨0, none⟩ := by decide +kernel

/-- R95, R152, R153: a difference of 650 is out of band; a limit of 700 counts from the next scan on, and a guard whose
baseline was captured is active from there on. -/
theorem test_limit_and_capture_wait_for_the_scan :
    let s : State := { watched with wall := { watched.wall with tilt := List.replicate 16 ⟨0, some 600⟩ } }
    let wider := after s (.setPoint 0 16 3 0 700)
    let captured := after s (.baseline 0 16 1)
    (s.condition .tiltExceeded = true ∧ wider.condition .tiltExceeded = true ∧ wider.wallScan.condition .tiltExceeded = false) ∧
    captured.condition .tiltExceeded = false ∧ (s.point 16).tiltActive = true ∧ (captured.point 16).tiltActive = false ∧
    (captured.wallScan.point 16).tiltActive = true := by decide +kernel

/-- R156: a capture takes the scanned value of a linked VALID point; at a rebase a held baseline stays for one that is OPEN. -/
theorem test_baselines :
    let dark : State := { watched with fe := { watched.fe with scan := List.replicate 16 .isOpen } }
    (watched.baselinesOf [9] false [])[0]? = some (some 500) ∧ (watched.baselinesOf [8] false [])[0]? = some none ∧
    (dark.baselinesOf [9] false [some 399])[0]? = some none ∧ (dark.baselinesOf [9] true [some 399])[0]? = some (some 399) := by
  decide +kernel

theorem test_meets_ScansAreJudged :
    watched.phase = .running ∧ (watched.scanned (1 + 1) == .unused) = true ∧ (watched.point (15 + 1)).kind = .tilt ∧ (watched.point (15 + 1)).baseline = some (-410) ∧
    (watched.point 16).fresh = false ∧ ((after watched (.baseline 0 16 1)).point 16).fresh = true ∧
    watched.scanned (15 + 1) = .valid 240 ∧ rising.s1.ctx.isSome = true ∧
    rising.s1.ctx.bind (fun c => c.baselines[0]?) = some (some 399) ∧ rising.scanned (0 + 1) = .valid 500 ∧
    (watched.point 1).kind ≠ .tilt ∧ watched.baselineHeld .s1 1 = false ∧ rising.baselineHeld .s1 1 = true := by
  decide +kernel

/-- R87, R154, R155, R157: a scan wraps its counter; an OPEN point in use raises MONITOR_SENSOR; the third out-of-band scan
trips a tilt guard; the rise of 101 holds the test. -/
theorem test_scans :
    (after watched (.scanComplete (List.replicate 16 0) true)).fe.scanCount = 0 ∧
    (after watched (.scanComplete (List.replicate 16 0) true)).flag .monitorSensor = true ∧
    watched.wallScan.flag .tiltExceeded = true ∧
    (rising.riseAt rising.s1 0).1.count = 1 ∧
    ({ watched with fe := { watched.fe with scan := List.replicate 16 .isOpen } } : State).tiltAt 15 = (⟨0, none⟩, false) ∧
    (after watched (.wallTiltTrip 16)).flag .tiltExceeded = true ∧
    (after (after watched (.baseline 0 16 1)) (.wallTiltTrip 16)).flag .tiltExceeded = false ∧
    (after rising (.neighbourRiseTrip .s1 1)).s1.state = .held ∧
    (after rising (.neighbourRiseTrip .s1 1)).s1.ctx.map (·.causes.neighbour) = some true := by decide +kernel

/-! ## The Archive -/

/-- An append in progress at the last slot of block 1. -/
def appending : State :=
  { site { ent .closing with prior := some .locked } with
    archive :=
      { Archive.rest with
        slots := [(128, .writing { record with number := 128, slot := 128 })]
        blocks := .filling :: List.replicate 7 .empty, nextNumber := 129, nextSlot := 129, activity := .appending 7 128 128 } }

/-- A ring that has come round: block 1 EXPORTED, the next slot not ERASED. -/
def fullRing : State :=
  { site (ent .locked) with
    archive :=
      { Archive.rest with
        slots := [(1, .torn 1), (1024, .torn 1024)], blocks := .exported :: List.replicate 7 .full, nextNumber := 1025
        nextSlot := 1 } }

/-- The same with the erase in progress. -/
def erasing : State :=
  { fullRing with archive :=
      { fullRing.archive with blocks := .erasing :: List.replicate 7 .full, activity := .erasing 1 } }

theorem test_meets_ArchiveAppendsAndErases :
    (site (ent .locked)).accepts (.closeAnchor 0 7) ∧ (site (ent .locked)).entry 7 = some (ent .locked) ∧
    (site (ent .locked)).site.clockValid = true ∧ (site (ent .locked)).archive.activity = .idle ∧
    slotAt (site (ent .locked)).archive.slots (site (ent .locked)).archive.nextSlot = none ∧
    (site (ent .locked)).archive.nextNumber < 4294967295 ∧ appending.phase = .running ∧
    appending.archive.activity = .appending 7 128 128 ∧
    slotAt appending.archive.slots 128 = some (.writing { record with number := 128, slot := 128 }) ∧
    fullRing.accepts (.markExported 0 2) ∧ fullRing.archive.blocks[2 - 1]? = some .full ∧ fullRing.accepts (.eraseOldest 0) ∧
    fullRing.archive.oldest = some 1 ∧ fullRing.archive.block 1 = .exported ∧ erasing.phase = .running ∧
    erasing.archive.activity = .erasing 1 := by
  refine ⟨takes rfl _, rfl, rfl, rfl, rfl, by decide +kernel, rfl, rfl, by decide +kernel, takes rfl _, rfl, takes rfl _, ?_⟩
  decide +kernel

theorem test_archive_answers :
    answers (site (ent .locked))
      [(.closeAnchor 0 8, .noSuchAnchor, 0), (.closeAnchor 0 7, .accepted, 0), (.markExported 0 0, .outOfRange, 1),
       (.markExported 0 9, .outOfRange, 1), (.markExported 0 8, .wrongStage, 1), (.eraseOldest 0, .notExported, 0)] = true ∧
    answers (site (ent .placed)) [(.closeAnchor 0 7, .wrongStage, 0)] = true ∧
    answers { State.reset with reg := [ent .locked] } [(.closeAnchor 0 7, .clockUnset, 0)] = true ∧
    answers { appending with reg := [ent .voided] } [(.closeAnchor 0 7, .busy, 0), (.eraseOldest 0, .busy, 0), (.markExported 0 1, .wrongStage, 2)] =
      true ∧
    answers fullRing
      [(.closeAnchor 0 7, .archiveFull, 1), (.markExported 0 1, .ok, 0), (.markExported 0 8, .ok, 0), (.eraseOldest 0, .accepted, 1)] =
      true ∧
    answers erasing [(.markExported 0 1, .wrongStage, 5)] = true ∧
    answers { fullRing with archive := { fullRing.archive with blocks := List.replicate 8 .full } } [(.eraseOldest 0, .notExported, 1)] =
      true ∧
    answers { site (ent .locked) with archive := { Archive.rest with nextNumber := 4294967295 } }
      [(.closeAnchor 0 7, .archiveFull, 0)] = true ∧
    answers { fullRing with archive := { fullRing.archive with nextNumber := 4294967295 } }
      [(.closeAnchor 0 7, .archiveFull, 0)] = true := by decide +kernel

/-- R166: a close writes the slot and moves both counters. -/
theorem test_close_anchor :
    let t := after (site (ent .locked)) (.closeAnchor 0 7)
    fieldsOf (site (ent .locked)) (.closeAnchor 0 7) = some [.u32 1, .u16 1] ∧ t.archive.nextNumber = 2 ∧
    t.archive.nextSlot = 2 ∧ t.archive.block 1 = .filling ∧ t.archive.activity = .appending 7 1 1 ∧
    t.reg.map (fun e => (e.stage, e.prior)) = [(.closing, some .locked)] := by decide +kernel

/-- R167, R168, R171: an append that reads back removes the entry; one that does not returns it; an erase empties. -/
theorem test_append_and_erase_end :
    (after appending (.appendEnd true)).reg = [] ∧ (after appending (.appendEnd true)).archive.block 1 = .full ∧
    (after appending (.appendEnd false)).reg.map (·.stage) = [.locked] ∧
    (after appending (.appendEnd false)).flag .archiveWrite = true ∧
    slotAt (after appending (.appendEnd false)).archive.slots 128 = some (.torn 128) ∧
    (after erasing (.eraseEnd true)).archive.block 1 = .empty ∧
    (after erasing (.eraseEnd true)).archive.slots = [(1024, .torn 1024)] ∧
    (after erasing (.eraseEnd false)).archive.block 1 = .exported := by decide +kernel

/-! ## Notices -/

/-- A full set: 31 entries of kinds at MID or HIGH, and the oldest at LOW. -/
def fullSet : NoticeUnit :=
  { levels := defaultLevels, floor := .low, overflow := false
    entries :=
      ⟨.stepDone, .s1, some 7, 1, some 5, 0, false⟩ ::
        (List.range 31).map fun k => ⟨.linkLost, .system, none, k, some 6, 0, false⟩ }

theorem test_meets_NoticesAreRaisedTakenAndLevelled :
    ({ fullSet with levels := List.replicate 16 .off }.level .stepDone = .off) ∧ fullSet.level .stepDone ≠ .off ∧
    (∃ n ∈ fullSet.entries, n.kind = .stepDone ∧ n.origin = .s1) ∧ ¬(∃ n ∈ fullSet.entries, n.kind = .runEnded ∧ n.origin = .w) ∧
    State.reset.notices.entries.length < 32 ∧ 32 ≤ fullSet.entries.length ∧
    (∀ m ∈ fullSet.entries, (fullSet.level .stepDone).rank ≤ (fullSet.level m.kind).rank) ∧
    (fullSet.level .stepDone).rank < (fullSet.level .runEnded).rank ∧
    (fullSet.level .stepDone).rank ≤ (fullSet.level .stepDone).rank := by decide +kernel

theorem test_meets_NoticesAreRaisedTakenAndLevelled_take :
    State.reset.accepts (.takeNotice 0) ∧ State.reset.accepts (.setNoticeLevel 0 16 0) ∧
    (State.reset.notices.entries.map fun n => (n.kind, n.acked)) = [(.resetDone, false), (.clockLost, false)] ∧
    (State.reset.notices.level .resetDone).rank < (State.reset.notices.level .clockLost).rank ∧
    NoticeKind.clockLost.isCondition = true := ⟨takes rfl _, takes rfl _, rfl, by decide, rfl⟩

/-- R177, R179: the end of a condition removes its entry, acknowledged too; ATTN stands while an entry at the floor does. -/
theorem test_condition_end_and_attn :
    (State.reset.endCondition .clockLost .system).notices.entries.map (·.kind) = [.resetDone] ∧
    ((after State.reset (.takeNotice 0)).endCondition .clockLost .system).notices.entries.map (·.kind) = [.resetDone] ∧
    State.reset.endCondition .emergency .system = State.reset ∧ State.reset.attn = true ∧
    (after (after State.reset (.setNoticeLevel 0 0 3)) .replySent).attn = true ∧
    (after (after (after State.reset (.setNoticeLevel 0 0 3)) .replySent) (.takeNotice 0)).attn = false := by decide +kernel

/-- R176: a raise of a known kind counts; of a new one in a full set, the lowest leaves or the overflow is flagged. -/
theorem test_raises :
    ((fullSet.raise .stepDone .s1 (some 8) 2 none).entries.map (·.again)).head? = some 1 ∧
    (fullSet.raise .runEnded .w (some 7) 1 none).entries.length = 32 ∧
    ((fullSet.raise .runEnded .w (some 7) 1 none).entries.map (·.kind)).head? = some .linkLost ∧
    (fullSet.raise .selftestDone .w none 1 none).overflow = true := by decide +kernel

/-- R180: the HIGH condition is taken before the MID event, and stays, acknowledged. -/
theorem test_take_notice :
    let t := after State.reset (.takeNotice 0)
    t.notices.entries.map (fun n => (n.kind, n.acked)) = [(.resetDone, false), (.clockLost, true)] ∧
    (fieldsOf State.reset (.takeNotice 0)).map (·.take 3) = some [.u8 1, .u8 15, .u8 6] := by decide +kernel

theorem test_notice_level_answers :
    answers State.reset
      [(.setNoticeLevel 0 17 1, .outOfRange, 1), (.setNoticeLevel 0 16 4, .outOfRange, 2), (.setNoticeLevel 0 0 0, .outOfRange, 2),
       (.setNoticeLevel 0 10 2, .outOfRange, 2), (.setNoticeLevel 0 11 0, .outOfRange, 2), (.setNoticeLevel 0 10 3, .ok, 0),
       (.setNoticeLevel 0 0 3, .ok, 0), (.setNoticeLevel 0 16 0, .ok, 0)] = true ∧
    (after State.reset (.setNoticeLevel 0 16 0)).notices.entries.map (·.kind) = [.clockLost] := by decide +kernel

/-! ## Limits, settings, clock and tags -/

/-- The limits locked. -/
def locked : State := { grouted with site := { grouted.site with locked := true } }

theorem test_meets_LimitsSettingsAndTagsAreWritten :
    locked.accepts (.setLimits 0 [(1, 100)]) ∧ locked.site.locked = true ∧ grouted.accepts (.setLimits 0 [(1, 100)]) ∧
    grouted.site.locked = false ∧ itemFailure limitInRange [] [(1, 100), (19, 63)] = none ∧
    itemFailure limitInRange [] [(1, 100), (1, 100)] = some 1 ∧ (testing .held 3).accepts (.setLimits 0 [(1, 11999)]) ∧
    (testing .held 3).s1.ctx = some (ctx 3) ∧ (11999 : Nat) < (ctx 3).pp ∧ grouted.accepts (.setSettings 0 [(30, 4)]) ∧
    itemFailure settingInRange [] [(30, 4)] = none ∧ grouted.accepts (.lockLimits 0) ∧ grouted.accepts (.setTag 0 4 0) :=
  ⟨takes rfl _, rfl, takes rfl _, rfl, by decide +kernel, by decide +kernel, takes rfl _, rfl, by decide +kernel, takes rfl _,
   by decide +kernel, takes rfl _, takes rfl _⟩

theorem test_limit_answers :
    answers locked [(.setLimits 0 [(1, 100)], .limitsLocked, 0), (.setLimits 0 [], .limitsLocked, 0)] = true ∧
    answers grouted
      [(.setLimits 0 [], .ok, 0), (.setLimits 0 [(1, 99)], .outOfRange, 1), (.setLimits 0 [(20, 1)], .outOfRange, 20),
       (.setLimits 0 [(19, 64)], .outOfRange, 19), (.setLimits 0 [(3, 1), (3, 1)], .outOfRange, 3),
       (.setLimits 0 [(18, 1048575), (19, 0)], .ok, 0)] = true ∧
    answers (testing .held 3) [(.setLimits 0 [(1, 11999)], .busy, 1), (.setLimits 0 [(5, 11999)], .outOfRange, 5)] = true ∧
    answers grouted
      [(.setSettings 0 [], .ok, 0), (.setSettings 0 [(1, 0)], .outOfRange, 1), (.setSettings 0 [(31, 1)], .outOfRange, 31),
       (.setSettings 0 [(14, 50)], .outOfRange, 15), (.setSettings 0 [(5, 1000), (6, 1000)], .outOfRange, 6),
       (.setSettings 0 [(30, 4)], .ok, 0), (.setTag 0 0 1, .outOfRange, 1), (.setTag 0 5 1, .outOfRange, 1),
       (.setTag 0 4 4294967295, .ok, 0), (.lockLimits 0, .ok, 0)] = true := by decide +kernel

/-- R101, R189: a flag unmasked sets its combined flag and TRIP; a window takes effect at once. -/
theorem test_limits_and_settings :
    let s : State :=
      { grouted with
        faults := { grouted.faults with det := 1#20 }
        site := { grouted.site with limits := { grouted.site.limits with combMask := 1#20 } } }
    (after s (.setLimits 0 [(18, 0)])).faults.trip = true ∧
    (after grouted (.setSettings 0 [(30, 4)])).link.watch = .running 60 ∧
    (after grouted (.setTag 0 4 7)).site.tags = [0, 0, 0, 7] ∧ (after grouted (.lockLimits 0)).site.locked = true := by
  decide +kernel

theorem test_meets_LimitsSettingsAndTagsAreWritten_ranges :
    limitInRange 17 10 = true ∧ limitInRange 17 9 = false ∧ limitInRange 18 1048575 = true ∧ limitInRange 18 1048576 = false ∧
    limitInRange 0 100 = false ∧ limitInRange 20 100 = false ∧ settingInRange 25 32 = true ∧ settingInRange 25 33 = false ∧
    settingInRange 30 4 = true ∧ settingInRange 31 0 = false ∧ itemFailure limitInRange [] [(3, 1), (4, 99)] = some 4 ∧
    (Limits.factory.write 12 5).ceilings = [0, 0, 0, 0, 0, 0, 0, 5] ∧ (Settings.factory.write 15 49).slackTension = 49 := by
  decide +kernel

/-- A GROUTED anchor whose post pass is due, with a port or without. -/
def due (ports : List (Option Nat)) : State :=
  let s := site { ent .grouted with postDone := 0 }
  { s with grout := { s.grout with ports := ports }, site := { s.site with clock := 999960 } }

theorem test_meets_ClockAndSiteMinute :
    grouted.accepts (.setTime 0 5) ∧ grouted.latestStamp = some 0 ∧ State.reset.accepts (.setTime 0 0) ∧
    State.reset.latestStamp = none ∧ State.reset.site.clock < 4294967295 ∧
    4294967295 ≤ { State.reset with site := { State.reset.site with clock := 4294967295 } }.site.clock ∧
    State.reset.site.clock % 60 = 0 ∧ grouted.site.clock % 60 ≠ 0 ∧ State.reset.site.clockValid = false ∧
    ((due [some 7]).site.clockValid = true ∧ (due [some 7]).site.enables.g = true) ∧
    (due [some 7]).entry 7 = some { ent .grouted with postDone := 0 } ∧ (due [some 7]).portOf 7 = some 1 ∧
    (due []).portOf 7 = none ∧ (due [some 7]).grout.queue.length < 8 ∧ (due [some 7]).grout.waiting = 0 :=
  ⟨takes rfl _, by decide +kernel, takes rfl _, by decide +kernel, by decide, by decide, by decide, by decide +kernel, rfl,
   ⟨rfl, rfl⟩, rfl, by decide +kernel, by decide +kernel, by decide +kernel, rfl⟩

theorem test_meets_ClockAndSiteMinute_cure :
    grouted.entry 7 = some (ent .grouted) ∧ 7 ∉ grouted.grout.cure ∧ (ent .grouted).postDone = decl.passes ∧
    grouted.grout.queue = [] ∧ grouted.grout.pass = none ∧ (ent .grouted).primaryEnd = some 0 ∧
    0 + decl.cure * 3600 ≤ grouted.site.clock ∧ grouted.entry 8 = none := by decide +kernel

/-- R148: CURE_COMPLETE is handed once for an entry, and not before its hours have run. -/
theorem test_cure :
    (visitCure grouted 7).grout.cure = [7] ∧ visitCure (visitCure grouted 7) 7 = visitCure grouted 7 ∧
    (let early : State := { grouted with site := { grouted.site with clock := 259199 } }; visitCure early 7 = early) := by
  decide +kernel

/-- R197: a time before the latest stamp is refused; a second counts, and not past the end. -/
theorem test_clock :
    answers { grouted with reg := [{ ent .grouted with primaryEnd := some 900 }] } [(.setTime 0 899, .timeBack, 0), (.setTime 0 900, .ok, 0)] =
      true ∧
    (after grouted .siteClockSecond).site.clock = 1000001 ∧
    (after { grouted with site := { grouted.site with clock := 4294967295 } } .siteClockSecond).site.clock = 4294967295 ∧
    ({ grouted with reg := [{ ent .stressing with test := some ⟨.s1, 1, .full, 700⟩ }, ent .placed] } : State).latestStamp =
      some 700 ∧
    (after State.reset (.setTime 0 61)).notices.entries.map (·.kind) = [.resetDone] := by decide +kernel

/-- R146, R147: a site minute joins the due post pass where a port holds the anchor, and else tells POSTGROUT_DUE. -/
theorem test_site_minute :
    (after (due [some 7]) .siteMinute).grout.pass.map (·.kind) = some .post ∧
    (after (due []) .siteMinute).reg.map (·.postDue) = [true] ∧ (after (due []) .siteMinute).grout.waiting = 1 ∧
    (after (due []) .siteMinute).notices.entries.any (fun n => n.kind == .postgroutDue && n.detail == 1) = true := by
  decide +kernel

/-- R147, R148: CURE_COMPLETE comes before POSTGROUT_DUE, which is judged at the end of the run. -/
theorem test_scheduler_order :
    let e : Entry := { ent .grouted with decl := { decl with id := 8 } }
    (after { due [] with reg := (due []).reg ++ [e] } .siteMinute).notices.entries.map (·.kind) =
      (due []).notices.entries.map (·.kind) ++ [.cureComplete, .postgroutDue] := by decide +kernel

/-! ## Resets -/

/-- A part in start-up with an erase to finish. -/
def startingUp : State := { erasing with phase := .startUp, resets := { erasing.resets with power := true } }

theorem test_meets_ResetsCutConvertAndRestart :
    { State.reset with phase := .inReset }.phase = .inReset ∧ State.reset.phase ≠ .inReset ∧
    { State.reset.resets with supplyLow := true }.supplyLow = true ∧ State.reset.accepts (.reset 0) ∧
    (State.reset.resets.pinLow = false ∧ State.reset.resets.supplyLow = false) ∧ State.reset.notices.level .resetDone ≠ .off ∧
    startingUp.phase = .startUp ∧ startingUp.archive.block 1 = .erasing ∧
    (∀ b ∈ List.range 9, State.reset.archive.block b ≠ .erasing) ∧
    ({ ent .stressing with test := some ⟨.s1, 1, .full, 5⟩ } : Entry).test = some ⟨.s1, 1, .full, 5⟩ ∧
    ((ent .placed).stage ≠ .stressing ∧ (ent .placed).stage ≠ .closing ∧ (ent .placed).pass = none) ∧
    (ent .stressing).stage = .stressing ∧ (ent .stressing).prior ≠ some .closing ∧
    ({ ent .grouting with pass := some ⟨.primary, 2, 5⟩ } : Entry).pass = some ⟨.primary, 2, 5⟩ ∧
    ({ ent .closing with prior := some .locked } : Entry).prior = some .locked := by
  refine ⟨rfl, by decide, rfl, takes rfl _, ⟨rfl, rfl⟩, ?_⟩; decide +kernel

/-- R199, R200: a reset pin holds the part until it rises; the supply holds it too; the recorded cause is the highest. -/
theorem test_resets :
    (after grouted .pinReset).phase = .inReset ∧ (after (after grouted .pinReset) .resetPinRelease).phase = .startUp ∧
    (after (after grouted .pinReset) .resetPinRelease).resets.recorded = .pin ∧
    (after grouted (.powerReset false false)).phase = .inReset ∧ (after grouted (.powerReset true false)).phase = .startUp ∧
    grouted.commandReset.resets.recorded = .command ∧ (after grouted (.reset 0)).link.resetAfterReply = true := by
  decide +kernel

/-- R174: the WRITING slot becomes TORN, and its block FULL; R200: RESET_DONE carries the time before the clock check; a COMMAND
reset waits for RESET#. -/
theorem test_start_up_begins :
    appending.archive.scan.block 1 = .full ∧ slotAt appending.archive.scan.slots 128 = some (.torn 128) ∧
    slotsWf appending.archive.slots = true ∧ appending.archive.blocks.length = 8 ∧
    (after grouted (.powerReset true true)).notices.entries.map (fun n => (n.kind, n.time)) =
      [(.resetDone, some 1000000), (.clockLost, none)] ∧
    (after grouted .pinReset).resets.pinLow = true ∧ (after grouted .pinReset).commandReset.phase = .inReset := by
  decide +kernel

/-- R20 to R22: the conversion of each entry an operation was cut in. -/
theorem test_conversion :
    ({ ent .stressing with prior := some .rejected, test := some ⟨.s1, 1, .full, 5⟩ }.convert (some 9)).stage = .rejected ∧
    ({ ent .stressing with prior := some .grouted, counted := true }.convert none).stage = .lockFault ∧
    ({ ent .stressing with counted := true, test := some ⟨.s2, 3, .full, 5⟩ }.convert none).result.map
      (fun r : TestResult => (r.stn, r.slot, r.shape, r.start, r.seatDone)) = some (.s2, 3, .full, 5, true) ∧
    ({ ent .grouting with pass := some ⟨.primary, 2, 5⟩ }.convert (some 9)).passes.map (fun p : PassEntry => (p.endTime, p.reason)) =
      [(some 9, .interrupted)] ∧
    ({ ent .closing with prior := some .locked }.convert none).interrupted = some .close := by decide +kernel

/-- R174, R200: start-up ends with the erase run again, and the part runs. -/
theorem test_start_up_end :
    (after startingUp (.startUpEnd true)).phase = .running ∧ (after startingUp (.startUpEnd true)).archive.block 1 = .empty ∧
    (after startingUp (.startUpEnd false)).flag .archiveWrite = true ∧
    (after startingUp (.startUpEnd false)).notices.entries.any (fun n => n.kind == .archiveFull && n.detail == 1) = true ∧
    (after startingUp (.startUpEnd true)).notices.entries.any (fun n => n.kind == .archiveFull) = false ∧
    (let t := after { State.reset with phase := .startUp, wallTripHigh := false } (.startUpEnd true)
     t.faults.emergency = ⟨true, false, true, none⟩ ∧
       t.notices.entries.any (fun n => n.kind == .emergency && n.detail == 2) = true) := by
  decide +kernel

end Sys2Proof.Tests
end

section
namespace Sys2Proof.Machine

/-! ## The ids of the Register -/

/-- R1: the ids of a register, in declaration order. -/
def regIds (l : List Entry) : List Nat := l.map fun e => e.decl.id

theorem regIds_length (l : List Entry) : (regIds l).length = l.length := List.length_map _

theorem State.registerSound_iff (s : State) :
    s.registerSound ↔ (regIds s.reg).length ≤ Config.maxAnchors ∧ (regIds s.reg).Nodup := by
  rw [regIds_length]; rfl

/-- R1, R11: a register that keeps some of its entries, in their order, stays sound. -/
theorem State.registerSound_of_sublist {s t : State} (h : (regIds t.reg).Sublist (regIds s.reg))
    (hs : s.registerSound) : t.registerSound := by
  rw [State.registerSound_iff] at hs ⊢
  exact ⟨h.length_le.trans hs.1, hs.2.sublist h⟩

/-- Changing each entry of an id, but not its own id, keeps the ids. -/
@[simp] theorem regIds_map_if (l : List Entry) (id : Nat) (f : Entry → Entry)
    (hf : ∀ e, (f e).decl.id = e.decl.id) :
    regIds (l.map fun e => if e.decl.id = id then f e else e) = regIds l := by
  simp only [regIds, List.map_map]
  refine List.map_congr_left fun e _ => ?_
  simp only [Function.comp]
  split <;> simp [hf]

/-! ## What the named changes of an entry do to its declaration -/

@[simp] theorem Entry.served_decl (e : Entry) (r : GroutReq) (port start : Nat) :
    (e.served r port start).decl = e.decl := by
  unfold Entry.served
  cases r.kind <;> rfl

@[simp] theorem Entry.passEnded_decl (e : Entry) (p : Pass) (r : PassEnd) : (e.passEnded p r).decl = e.decl := by
  unfold Entry.passEnded
  cases p.kind
  · dsimp only
    split <;> rfl
  · rfl

@[simp] theorem Entry.testEnded_decl (e : Entry) (c : TestCtx) (st : Stn) (d : Decision) (now : Option Nat) :
    (e.testEnded c st d now).decl = e.decl := by simp [Entry.testEnded]

@[simp] theorem Entry.testStarted_decl (e : Entry) (st : Stn) (slot : Nat) (shape : PlanShape) (start : Nat) :
    (e.testStarted st slot shape start).decl = e.decl := by simp [Entry.testStarted]

@[simp] theorem Entry.runEnded_decl (e : Entry) (r : RunEnd) (paid : Int) (peak : Nat) :
    (e.runEnded r paid peak).decl = e.decl := by simp [Entry.runEnded]

@[simp] theorem Entry.closing_decl (e : Entry) : e.closing.decl = e.decl := by simp [Entry.closing]

@[simp] theorem Entry.reopened_decl (e : Entry) : e.reopened.decl = e.decl := by simp [Entry.reopened]

@[simp] theorem Entry.convertTest_decl (e : Entry) : e.convertTest.decl = e.decl := by
  unfold Entry.convertTest
  split <;> rfl

@[simp] theorem Entry.convertPass_decl (e : Entry) (now : Option Nat) : (e.convertPass now).decl = e.decl := by
  unfold Entry.convertPass
  split <;> rfl

@[simp] theorem Entry.convertClose_decl (e : Entry) : e.convertClose.decl = e.decl := by
  unfold Entry.convertClose
  split <;> rfl

/-- R20 to R22: the conversion keeps the declaration. -/
@[simp] theorem Entry.convert_decl (e : Entry) (now : Option Nat) : (e.convert now).decl = e.decl := by
  simp [Entry.convert]

@[simp] theorem amended_id (d : Decl) (items : List AmendItem) : (amended d items).id = d.id := by simp [amended]

/-! ## Operations that leave the Register as it is -/

section
variable (s : State) (st : Stn)

@[simp] theorem State.applyForces_reg : s.applyForces.reg = s.reg := by
  obtain ⟨a, b, g, h⟩ := s.applyForces_shape
  rw [h]

@[simp] theorem State.hold_reg : (s.hold st).reg = s.reg := by
  obtain ⟨a, b, n, h⟩ := s.hold_shape st
  rw [h]

@[simp] theorem State.addCause_reg (c : Cause) : (s.addCause c st).reg = s.reg := by
  obtain ⟨a, b, n, h⟩ := s.addCause_shape c st
  rw [h]

@[simp] theorem State.thawCauses_reg : (s.thawCauses st).reg = s.reg := by
  obtain ⟨a, b, h⟩ := s.thawCauses_shape st
  rw [h]

@[simp] theorem State.takeDecision_reg (d : Decision) : (s.takeDecision st d).reg = s.reg := s.modStn_reg st _

@[simp] theorem State.endRun_reg (r : RunEnd) (h : Option HaltCause) : (s.endRun r h).reg = s.reg := by
  obtain ⟨w, h⟩ := s.endRun_shape r h
  rw [h]

@[simp] theorem State.addPassCause_reg (c : Cause) : (s.addPassCause c).reg = s.reg := by
  obtain ⟨g, h⟩ := s.addPassCause_shape c
  rw [h]

@[simp] theorem State.handCause_reg (c : Cause) (h : HaltCause) : (s.handCause c h).reg = s.reg := by
  obtain ⟨a, b, w, g, n, h⟩ := s.handCause_shape c h
  rw [h]

@[simp] theorem State.dropCause_reg (c : Cause) : (s.dropCause c).reg = s.reg := by
  obtain ⟨a, b, g, h⟩ := s.dropCause_shape c
  rw [h]

@[simp] theorem State.setEmergency_reg (line : EmLine) : (s.setEmergency line).reg = s.reg := by
  unfold State.setEmergency
  dsimp only
  split <;> simp

@[simp] theorem State.restartWatch_reg : s.restartWatch.reg = s.reg := by rw [s.restartWatch_eq]

@[simp] theorem State.writeSettings_reg (t : Settings) : (s.writeSettings t).reg = s.reg := by
  unfold State.writeSettings
  dsimp only
  split <;> rfl

@[simp] theorem State.resumePass_reg (p : Pass) : (s.resumePass p).reg = s.reg := rfl

@[simp] theorem State.rebase_reg : (s.rebase st).reg = s.reg := by
  unfold State.rebase
  split <;> simp

@[simp] theorem State.drainSelector_reg (sel : Nat) : (s.drainSelector sel).reg = s.reg := by
  unfold State.drainSelector
  split <;> rfl

@[simp] theorem State.startSelftest_reg (g : TestedGuard) : (s.startSelftest g).reg = s.reg := by
  cases g <;> simp [State.startSelftest]

@[simp] theorem State.leaveSelftest_reg (passed : Bool) (g : TestedGuard) : (s.leaveSelftest passed g).reg = s.reg := by
  cases g <;> simp [State.leaveSelftest]

@[simp] theorem State.setBaseline_reg (p : Nat) (b : Option Int) : (s.setBaseline p b).reg = s.reg := by
  simp [State.setBaseline]

@[simp] theorem State.riseScan_reg : (s.riseScan st).reg = s.reg := by
  unfold State.riseScan
  dsimp only
  split <;> simp

@[simp] theorem State.judgeWaiting_reg (w : List Nat) : (s.judgeWaiting w).reg = s.reg := by
  unfold State.judgeWaiting
  cases w with
  | nil => simp
  | cons id rest => dsimp only; split <;> simp

@[simp] theorem visitCure_reg (id : Nat) : (visitCure s id).reg = s.reg := by
  unfold visitCure
  split
  · rfl
  · split <;> simp

@[simp] theorem State.readLines_reg : s.readLines.reg = s.reg := by
  unfold State.readLines
  split <;> simp

@[simp] theorem State.clearByCause_reg : s.clearByCause.reg = s.reg := by
  unfold State.clearByCause
  dsimp only
  split <;> split <;> rfl

@[simp] theorem State.paySample_reg : s.paySample.reg = s.reg := by
  unfold State.paySample
  dsimp only
  split
  · simp
  · split
    · simp
    · split <;> simp

@[simp] theorem State.winchTrip_reg (r : RunEnd) : (s.winchTrip r).reg = s.reg := by
  simp [State.winchTrip, State.noteWinch_eq]

end

/-! ## Operations that keep the ids of the Register -/

section
variable (s : State) (st : Stn)

@[simp] theorem State.serve_regIds (r : GroutReq) (port : Nat) (e : Entry) :
    regIds (s.serve r port e).reg = regIds s.reg := by
  simp [State.serve]

@[simp] theorem State.arbiter_regIds : regIds s.arbiter.reg = regIds s.reg := by
  unfold State.arbiter
  split
  · split
    · rfl
    · split <;> simp
  · rfl

@[simp] theorem State.completePass_regIds : regIds s.completePass.reg = regIds s.reg := by
  unfold State.completePass
  split
  · rfl
  · split <;> simp

@[simp] theorem State.endPass_regIds (r : PassEnd) : regIds (s.endPass r).reg = regIds s.reg := by
  unfold State.endPass
  split
  · rfl
  · split
    · dsimp only
      split <;> simp
    · rfl

@[simp] theorem State.judgeTrip_regIds : regIds s.judgeTrip.reg = regIds s.reg := by
  unfold State.judgeTrip
  split
  · rfl
  · split
    · rfl
    · split <;> simp [State.assertTrip, State.deassertTrip]

@[simp] theorem State.raise_regIds (f : Flag) : regIds (s.raise f).reg = regIds s.reg := by
  unfold State.raise
  split
  · dsimp only
    split <;> simp
  · rfl

@[simp] theorem State.setStations_regIds (e : Enables) : regIds (s.setStations e).reg = regIds s.reg := by
  unfold State.setStations
  extract_lets was site written s1Off s2Off wOff gOff judged
  have h0 : written.reg = s.reg := rfl
  have h1 : s1Off.reg = s.reg := by simp only [s1Off]; split <;> exact h0
  have h2 : s2Off.reg = s.reg := by simp only [s2Off]; split <;> exact h1
  have h3 : wOff.reg = s.reg := by simp only [wOff]; split <;> exact h2
  have h4 : gOff.reg = s.reg := by simp only [gOff]; split <;> exact h3
  have h5 : regIds judged.reg = regIds s.reg := by simp only [judged, State.judgeTrip_regIds, h4]
  split
  · rw [State.arbiter_regIds, h5]
  · exact h5

@[simp] theorem State.closeAnchor_regIds (e : Entry) : regIds (s.closeAnchor e).reg = regIds s.reg := by
  unfold State.closeAnchor
  dsimp only
  split <;> simp

@[simp] theorem State.appendTorn_regIds (anchor number slot : Nat) :
    regIds (s.appendTorn anchor number slot).reg = regIds s.reg := by
  simp [State.appendTorn]

/-- R167: an append that completes takes entries out and changes no id. -/
theorem State.appendDone_regIds (anchor slot : Nat) (r : Record) :
    (regIds (s.appendDone anchor slot r).reg).Sublist (regIds s.reg) :=
  List.Sublist.map _ List.filter_sublist

/-! The stressing stations. -/

@[simp] theorem State.beginStep_regIds : regIds (s.beginStep st).reg = regIds s.reg := by
  unfold State.beginStep
  split
  · rfl
  · dsimp only
    split <;> simp

@[simp] theorem State.restartStep_regIds : regIds (s.restartStep st).reg = regIds s.reg := by
  unfold State.restartStep
  split
  · rfl
  · split <;> simp

@[simp] theorem State.completeStep_regIds : regIds (s.completeStep st).reg = regIds s.reg := by
  unfold State.completeStep
  split
  · rfl
  · dsimp only
    split <;> simp

@[simp] theorem State.releaseDone_regIds : regIds (s.releaseDone st).reg = regIds s.reg := by
  unfold State.releaseDone
  dsimp only
  split
  · simp
  · split
    · split <;> simp
    · simp

@[simp] theorem State.endTest_regIds : regIds (s.endTest st).reg = regIds s.reg := by
  unfold State.endTest
  dsimp only
  split
  · rfl
  · split <;> simp

@[simp] theorem State.seatEvent_regIds : regIds (s.seatEvent st).reg = regIds s.reg := by
  unfold State.seatEvent
  split
  · rfl
  · dsimp only
    split
    · simp
    · split <;> simp

@[simp] theorem State.holdEnd_regIds : regIds (s.holdEnd st).reg = regIds s.reg := by
  unfold State.holdEnd
  dsimp only
  split
  · simp
  · split
    · simp
    · simp
    · split <;> simp
    all_goals simp

@[simp] theorem State.creepReading_regIds : regIds (s.creepReading st).reg = regIds s.reg := by
  unfold State.creepReading
  dsimp only
  split
  · rfl
  · split <;> simp

@[simp] theorem State.holdSample_regIds : regIds (s.holdSample st).reg = regIds s.reg := by
  unfold State.holdSample
  split
  · rfl
  · dsimp only
    split
    · split <;> split <;> simp
    · split <;> simp
    · split <;> simp
    · rfl

@[simp] theorem State.targetReached_regIds : regIds (s.targetReached st).reg = regIds s.reg := by
  simp [State.targetReached]

@[simp] theorem State.rampSample_regIds (c : TestCtx) (m : Motion) : regIds (s.rampSample st c m).reg = regIds s.reg := by
  unfold State.rampSample
  dsimp only
  split <;> split
  any_goals split
  all_goals simp

@[simp] theorem State.releaseSample_regIds (c : TestCtx) : regIds (s.releaseSample st c).reg = regIds s.reg := by
  unfold State.releaseSample
  dsimp only
  split
  · split <;> simp
  · split <;> simp

@[simp] theorem State.endStroke_regIds : regIds (s.endStroke st).reg = regIds s.reg := by
  unfold State.endStroke
  dsimp only
  split <;> simp

@[simp] theorem State.stationSample_regIds : regIds (s.stationSample st).reg = regIds s.reg := by
  unfold State.stationSample
  dsimp only
  split
  · rfl
  · split
    · simp
    · split <;> simp

@[simp] theorem State.startTest_regIds (e : Entry) (slot : Nat) (p : Plan) :
    regIds (s.startTest st e slot p).reg = regIds s.reg := by
  unfold State.startTest
  dsimp only
  split <;> simp

/-! Self-tests, the winch and the manifold. -/

@[simp] theorem State.endSelftest_regIds (g : TestedGuard) (tripAt : Option Nat) :
    regIds (s.endSelftest g tripAt).reg = regIds s.reg := by
  unfold State.endSelftest
  dsimp only
  split <;> split <;> simp

@[simp] theorem State.selfNext_regIds (g : TestedGuard) (self : SelfTest) (r : Option Bool) :
    regIds (s.selfNext g self r).reg = regIds s.reg := by
  cases r <;> simp [State.selfNext]

@[simp] theorem State.selfLoad_regIds : regIds (s.selfLoad st).reg = regIds s.reg := by
  unfold State.selfLoad
  split <;> simp

@[simp] theorem State.selfPressure_regIds : regIds s.selfPressure.reg = regIds s.reg := by
  unfold State.selfPressure
  split <;> simp

@[simp] theorem State.selfTension_regIds : regIds s.selfTension.reg = regIds s.reg := by
  unfold State.selfTension
  split <;> simp

@[simp] theorem State.overloadTrip_regIds : regIds (s.overloadTrip st).reg = regIds s.reg := by
  simp [State.overloadTrip]

@[simp] theorem State.overloadSample_regIds : regIds (s.overloadSample st).reg = regIds s.reg := by
  unfold State.overloadSample
  dsimp only
  split
  · rfl
  · split <;> simp

@[simp] theorem State.overpressureTrip_regIds : regIds s.overpressureTrip.reg = regIds s.reg := by
  simp [State.overpressureTrip]

@[simp] theorem State.refusalSample_regIds : regIds s.refusalSample.reg = regIds s.reg := by
  unfold State.refusalSample
  split
  · dsimp only
    split <;> simp
  · rfl

@[simp] theorem State.overpressureSample_regIds : regIds s.overpressureSample.reg = regIds s.reg := by
  unfold State.overpressureSample
  dsimp only
  split
  · split <;> simp
  · rfl

@[simp] theorem State.groutSample_regIds (guardFirst : Bool) : regIds (s.groutSample guardFirst).reg = regIds s.reg := by
  unfold State.groutSample
  dsimp only
  split
  · simp
  · split <;> simp

@[simp] theorem State.startRun_regIds (e : Entry) : regIds (s.startRun e).reg = regIds s.reg := by
  simp [State.startRun]

@[simp] theorem State.completeRun_regIds : regIds s.completeRun.reg = regIds s.reg := by
  unfold State.completeRun
  split <;> simp

@[simp] theorem State.winchSample_regIds : regIds s.winchSample.reg = regIds s.reg := by
  unfold State.winchSample
  dsimp only
  split <;> simp

@[simp] theorem State.judgeMark_regIds (code : Nat) (isOpen isOver : Flag) :
    regIds (s.judgeMark code isOpen isOver).reg = regIds s.reg := by
  unfold State.judgeMark
  split <;> simp

@[simp] theorem State.loadSample_regIds (code : Nat) (guardFirst : Bool) :
    regIds (s.loadSample st code guardFirst).reg = regIds s.reg := by
  unfold State.loadSample
  dsimp only
  split
  · split
    · simp
    · split <;> simp
  · rfl

@[simp] theorem State.tensionSample_regIds (code : Nat) : regIds (s.tensionSample code).reg = regIds s.reg := by
  unfold State.tensionSample
  split <;> simp [State.formPaid]

@[simp] theorem State.pressureSample_regIds (code : Nat) (guardFirst : Bool) :
    regIds (s.pressureSample code guardFirst).reg = regIds s.reg := by
  unfold State.pressureSample
  split <;> simp

@[simp] theorem State.encoderEdge_regIds (line : EncLine) : regIds (s.encoderEdge st line).reg = regIds s.reg := by
  unfold State.encoderEdge State.encoderMoves
  extract_lets enc moved invert n
  split
  · split <;> simp [moved]
  · simp [moved]

@[simp] theorem State.strayPulse_regIds : regIds s.strayPulse.reg = regIds s.reg := by
  unfold State.strayPulse
  dsimp only
  split <;> simp

@[simp] theorem State.wallScan_regIds : regIds s.wallScan.reg = regIds s.reg := by
  unfold State.wallScan
  dsimp only
  split <;> split <;> simp

/-! The site minute, the link and the resets. -/

@[simp] theorem visitPost_regIds (acc : State × List Nat) (id : Nat) :
    regIds (visitPost acc id).1.reg = regIds acc.1.reg := by
  unfold visitPost
  dsimp only
  split
  · rfl
  · split
    · rfl
    · split
      · simp
      · split <;> simp

theorem foldl_visitPost_regIds (ids : List Nat) (acc : State × List Nat) :
    regIds (ids.foldl visitPost acc).1.reg = regIds acc.1.reg := by
  induction ids generalizing acc with
  | nil => rfl
  | cons id rest ih => rw [List.foldl_cons, ih, visitPost_regIds]

theorem foldl_visitCure_reg (ids : List Nat) (s : State) : (ids.foldl visitCure s).reg = s.reg := by
  induction ids generalizing s with
  | nil => rfl
  | cons id rest ih => rw [List.foldl_cons, ih, visitCure_reg]

@[simp] theorem State.siteMinute_regIds : regIds s.siteMinute.reg = regIds s.reg := by
  unfold State.siteMinute
  dsimp only
  split
  · simp [State.scheduler, foldl_visitCure_reg, foldl_visitPost_regIds]
  · rfl

@[simp] theorem State.clearCombined_regIds (group : Nat) : regIds (s.clearCombined group).reg = regIds s.reg := by
  simp [State.clearCombined]

@[simp] theorem State.applyMasks_regIds : regIds s.applyMasks.reg = regIds s.reg := by
  simp [State.applyMasks]

@[simp] theorem State.clearEmergency_regIds : regIds s.clearEmergency.reg = regIds s.reg := by
  simp [State.clearEmergency]

@[simp] theorem State.setTime_regIds (time : Nat) : regIds (s.setTime time).reg = regIds s.reg := by
  unfold State.setTime
  dsimp only
  split <;> simp

@[simp] theorem State.resumeLink_regIds : regIds s.resumeLink.reg = regIds s.reg := by
  simp [State.resumeLink]

@[simp] theorem State.watchExpires_regIds (window : Nat) : regIds (s.watchExpires window).reg = regIds s.reg := by
  simp [State.watchExpires]

@[simp] theorem State.beginStartUp_regIds : regIds s.beginStartUp.reg = regIds s.reg := by
  unfold State.beginStartUp
  extract_lets gathered started cleared cut emptied told clocked
  have h : regIds clocked.reg = regIds s.reg := by
    simp only [clocked]
    split <;> simp [State.loseClock, told, emptied, cleared, started]
  rw [← h]
  simp [regIds]

@[simp] theorem State.leaveReset_regIds : regIds s.leaveReset.reg = regIds s.reg := by
  unfold State.leaveReset
  split <;> simp

@[simp] theorem State.commandReset_regIds : regIds s.commandReset.reg = regIds s.reg := by
  simp [State.commandReset, State.cut]

@[simp] theorem State.endStartUp_regIds (ok : Bool) : regIds (s.endStartUp ok).reg = regIds s.reg := by
  have h : regIds (s.finishErase ok).reg = regIds s.reg := by
    unfold State.finishErase
    split
    · rfl
    · dsimp only
      split <;> simp
  unfold State.endStartUp
  dsimp only
  split <;> simp [h]

end

/-! ## What the blocks of the requests do to the ids -/

theorem withStation_regIds (station : Nat) (s : State) (act : Stn → State × Answer)
    (h : ∀ st, regIds (act st).1.reg = regIds s.reg) : regIds (withStation station s act).1.reg = regIds s.reg := by
  unfold withStation
  split
  · rfl
  · split
    · exact h _
    · rfl

theorem withRecord_state (s : State) (number : Nat) (k : Record → State × Answer) (h : ∀ r, (k r).1 = s) :
    (withRecord s number k).1 = s := by
  unfold withRecord
  split
  · rfl
  · split
    · rfl
    · split
      · split
        · exact h _
        · rfl
      · rfl

/-- R11: DECLARE adds an entry of a new id, while there is room. -/
theorem actDeclare_registerSound (d : DeclareBody) {s : State} (hs : s.registerSound) :
    (actDeclare d s).1.registerSound := by
  unfold actDeclare
  split
  · exact hs
  · next hroom =>
    split
    · exact hs
    · next hnew =>
      split
      · exact hs
      · split
        · exact hs
        · have hid : ∀ e ∈ s.reg, e.decl.id ≠ d.id := by
            simpa [State.entry] using hnew
          obtain ⟨-, hnodup⟩ := hs
          refine ⟨by simpa [accept] using Nat.lt_of_not_le hroom, ?_⟩
          simp only [accept, List.map_append, List.map_cons, List.map_nil]
          refine List.nodup_append.2 ⟨hnodup, List.nodup_singleton _, ?_⟩
          simpa [Entry.fresh, declOf] using hid

section
variable (s : State)

theorem actTakeNotice_regIds : regIds (actTakeNotice s).1.reg = regIds s.reg := by
  unfold actTakeNotice
  (repeat' split) <;> simp

theorem actSetNoticeLevel_regIds (selector level : Nat) : regIds (actSetNoticeLevel selector level s).1.reg = regIds s.reg := by
  unfold actSetNoticeLevel
  (repeat' split) <;> simp

theorem actAmend_regIds (id : Nat) (items : List AmendItem) : regIds (actAmend id items s).1.reg = regIds s.reg := by
  unfold actAmend
  (repeat' split) <;> simp

theorem actVoid_regIds (id : Nat) : regIds (actVoid id s).1.reg = regIds s.reg := by
  unfold actVoid
  (repeat' split) <;> simp

theorem actLoadPlan_regIds (slot : Nat) (steps : List RawStep) : regIds (actLoadPlan slot steps s).1.reg = regIds s.reg := by
  unfold actLoadPlan
  (repeat' split) <;> simp

theorem actStartTest_regIds (station anchor slot : Nat) : regIds (actStartTest station anchor slot s).1.reg = regIds s.reg := by
  unfold actStartTest
  (repeat' split) <;> simp

theorem actSetCalibration_regIds (sel : Nat) (zero : Int) (span signed invert : Nat) :
    regIds (actSetCalibration sel zero span signed invert s).1.reg = regIds s.reg := by
  unfold actSetCalibration
  dsimp only
  (repeat' split) <;> simp

theorem actSetStations_regIds (a b c d : Nat) : regIds (actSetStations a b c d s).1.reg = regIds s.reg := by
  unfold actSetStations
  (repeat' split) <;> simp

theorem actClearFault_regIds (group code : Nat) : regIds (actClearFault group code s).1.reg = regIds s.reg := by
  unfold actClearFault
  (repeat' split) <;> simp

theorem actClearGroup_regIds (group : Nat) : regIds (actClearGroup group s).1.reg = regIds s.reg := by
  unfold actClearGroup
  (repeat' split) <;> simp

theorem actRunSelftest_regIds (guard : Nat) : regIds (actRunSelftest guard s).1.reg = regIds s.reg := by
  unfold actRunSelftest
  (repeat' split) <;> simp

theorem actClearEmergency_regIds : regIds (actClearEmergency s).1.reg = regIds s.reg := by
  unfold actClearEmergency
  dsimp only
  (repeat' split) <;> simp

theorem actWinchRun_regIds (anchor : Nat) : regIds (actWinchRun anchor s).1.reg = regIds s.reg := by
  unfold actWinchRun
  (repeat' split) <;> simp

theorem actWinchStop_regIds : regIds (actWinchStop s).1.reg = regIds s.reg := by
  unfold actWinchStop
  (repeat' split) <;> simp

theorem actAssignPort_regIds (port anchor : Nat) : regIds (actAssignPort port anchor s).1.reg = regIds s.reg := by
  unfold actAssignPort
  (repeat' split) <;> simp

theorem actReleasePort_regIds (port : Nat) : regIds (actReleasePort port s).1.reg = regIds s.reg := by
  unfold actReleasePort
  (repeat' split) <;> simp

theorem actGroutRequest_regIds (anchor : Nat) : regIds (actGroutRequest anchor s).1.reg = regIds s.reg := by
  unfold actGroutRequest
  (repeat' split) <;> simp

theorem actGroutCancel_regIds (anchor : Nat) : regIds (actGroutCancel anchor s).1.reg = regIds s.reg := by
  unfold actGroutCancel
  (repeat' split) <;> simp

theorem actGroutStop_regIds : regIds (actGroutStop s).1.reg = regIds s.reg := by
  unfold actGroutStop
  (repeat' split) <;> simp

theorem actGroutPause_regIds : regIds (actGroutPause s).1.reg = regIds s.reg := by
  unfold actGroutPause
  (repeat' split) <;> simp

theorem actGroutResume_regIds : regIds (actGroutResume s).1.reg = regIds s.reg := by
  unfold actGroutResume
  (repeat' split) <;> simp

theorem actSetPoint_regIds (point kind linked limit : Nat) :
    regIds (actSetPoint point kind linked limit s).1.reg = regIds s.reg := by
  unfold actSetPoint
  dsimp only
  (repeat' split) <;> simp

theorem actBaseline_regIds (point action : Nat) : regIds (actBaseline point action s).1.reg = regIds s.reg := by
  unfold actBaseline
  (repeat' split) <;> simp

theorem actCloseAnchor_regIds (anchor : Nat) : regIds (actCloseAnchor anchor s).1.reg = regIds s.reg := by
  unfold actCloseAnchor
  dsimp only
  (repeat' split) <;> simp

theorem actMarkExported_regIds (block : Nat) : regIds (actMarkExported block s).1.reg = regIds s.reg := by
  unfold actMarkExported
  (repeat' split) <;> simp

theorem actEraseOldest_regIds : regIds (actEraseOldest s).1.reg = regIds s.reg := by
  unfold actEraseOldest
  (repeat' split) <;> simp

theorem actSetLimits_regIds (items : List (Nat × Nat)) : regIds (actSetLimits items s).1.reg = regIds s.reg := by
  unfold actSetLimits
  dsimp only
  (repeat' split) <;> simp

theorem actLockLimits_regIds : regIds (actLockLimits s).1.reg = regIds s.reg := by
  unfold actLockLimits
  simp

theorem actSetSettings_regIds (items : List (Nat × Nat)) : regIds (actSetSettings items s).1.reg = regIds s.reg := by
  unfold actSetSettings
  dsimp only
  (repeat' split) <;> simp

theorem actSetTime_regIds (time : Nat) : regIds (actSetTime time s).1.reg = regIds s.reg := by
  unfold actSetTime
  (repeat' split) <;> simp

theorem actSetTag_regIds (word val : Nat) : regIds (actSetTag word val s).1.reg = regIds s.reg := by
  unfold actSetTag
  (repeat' split) <;> simp

theorem actResumeLink_regIds : regIds (actResumeLink s).1.reg = regIds s.reg := by
  unfold actResumeLink
  (repeat' split) <;> simp

theorem actHoldTest_regIds (station : Nat) : regIds (actHoldTest station s).1.reg = regIds s.reg := by
  refine withStation_regIds station s _ fun st => ?_
  split <;> simp

theorem actResumeTest_regIds (station rebase : Nat) : regIds (actResumeTest station rebase s).1.reg = regIds s.reg := by
  unfold actResumeTest
  split
  · rfl
  · refine withStation_regIds station s _ fun st => ?_
    dsimp only
    (repeat' split) <;> simp

theorem actAbortTest_regIds (station : Nat) : regIds (actAbortTest station s).1.reg = regIds s.reg := by
  refine withStation_regIds station s _ fun st => ?_
  (repeat' split) <;> simp

theorem actAdjustTest_regIds (station : Nat) (plo ext : RawOption) :
    regIds (actAdjustTest station plo ext s).1.reg = regIds s.reg := by
  unfold actAdjustTest
  split
  · rfl
  · split
    · rfl
    · refine withStation_regIds station s _ fun st => ?_
      dsimp only
      split
      · rfl
      · (iterate 5 (split; · rfl)); simp

/-! The blocks of the queries. -/

theorem actGetAnchor_state (id part first : Nat) : (actGetAnchor id part first s).1 = s := by
  unfold actGetAnchor
  (repeat' split) <;> rfl

theorem actListAnchors_state (filter : Nat) : (actListAnchors filter s).1 = s := by
  unfold actListAnchors
  split <;> rfl

theorem actGetPlan_state (slot : Nat) : (actGetPlan slot s).1 = s := by
  unfold actGetPlan
  split
  · rfl
  · split <;> rfl

theorem actGetStation_state (station : Nat) : (actGetStation station s).1 = s := by
  unfold actGetStation
  split <;> rfl

theorem actGetCalibration_state (sel : Nat) : (actGetCalibration sel s).1 = s := by
  unfold actGetCalibration
  (repeat' split) <;> rfl

theorem actReadArchive_state (number part : Nat) : (actReadArchive number part s).1 = s := by
  unfold actReadArchive
  split
  · rfl
  · exact withRecord_state s number _ fun _ => rfl

theorem actReadReadings_state (number first : Nat) : (actReadReadings number first s).1 = s := by
  unfold actReadReadings
  split
  · rfl
  · exact withRecord_state s number _ fun _ => rfl

end

/-- R186: the block of a query changes nothing. -/
theorem actOf_query {i : Instr} (h : isQuery i = true) (s : State) : (actOf i s).1 = s := by
  cases i with
  | getAnchor _ id part first => exact actGetAnchor_state s id part first
  | listAnchors _ filter => exact actListAnchors_state s filter
  | getPlan _ slot => exact actGetPlan_state s slot
  | getStation _ station => exact actGetStation_state s station
  | getCalibration _ sel => exact actGetCalibration_state s sel
  | readArchive _ number part => exact actReadArchive_state s number part
  | readReadings _ number first => exact actReadReadings_state s number first
  | _ => first | rfl | simp [isQuery, frameOf] at h

theorem actOf_query_regIds {i : Instr} (h : isQuery i = true) (s : State) :
    regIds (actOf i s).1.reg = regIds s.reg := by rw [actOf_query h]

/-- Every block but that of DECLARE keeps the ids of the Register. -/
theorem actOf_regIds (i : Instr) (s : State) (hi : ∀ tag d, i ≠ .declare tag d) :
    regIds (actOf i s).1.reg = regIds s.reg := by
  cases i with
  | declare tag d => exact absurd rfl (hi tag d)
  | resumeLink => exact actResumeLink_regIds s
  | takeNotice => exact actTakeNotice_regIds s
  | setNoticeLevel _ k l => exact actSetNoticeLevel_regIds s k l
  | amend _ id items => exact actAmend_regIds s id items
  | void _ id => exact actVoid_regIds s id
  | loadPlan _ slot steps => exact actLoadPlan_regIds s slot steps
  | startTest _ station anchor slot => exact actStartTest_regIds s station anchor slot
  | holdTest _ station => exact actHoldTest_regIds s station
  | resumeTest _ station rebase => exact actResumeTest_regIds s station rebase
  | abortTest _ station => exact actAbortTest_regIds s station
  | adjustTest _ station plo ext => exact actAdjustTest_regIds s station plo ext
  | setCalibration _ sel zero span signed invert => exact actSetCalibration_regIds s sel zero span signed invert
  | setStations _ a b c d => exact actSetStations_regIds s a b c d
  | clearFault _ group code => exact actClearFault_regIds s group code
  | clearGroup _ group => exact actClearGroup_regIds s group
  | runSelftest _ guard => exact actRunSelftest_regIds s guard
  | clearEmergency => exact actClearEmergency_regIds s
  | winchRun _ anchor => exact actWinchRun_regIds s anchor
  | winchStop => exact actWinchStop_regIds s
  | assignPort _ port anchor => exact actAssignPort_regIds s port anchor
  | releasePort _ port => exact actReleasePort_regIds s port
  | groutRequest _ anchor => exact actGroutRequest_regIds s anchor
  | groutCancel _ anchor => exact actGroutCancel_regIds s anchor
  | groutStop => exact actGroutStop_regIds s
  | groutPause => exact actGroutPause_regIds s
  | groutResume => exact actGroutResume_regIds s
  | setPoint _ point kind linked limit => exact actSetPoint_regIds s point kind linked limit
  | baseline _ point action => exact actBaseline_regIds s point action
  | closeAnchor _ anchor => exact actCloseAnchor_regIds s anchor
  | markExported _ block => exact actMarkExported_regIds s block
  | eraseOldest => exact actEraseOldest_regIds s
  | setLimits _ items => exact actSetLimits_regIds s items
  | lockLimits => exact actLockLimits_regIds s
  | setSettings _ items => exact actSetSettings_regIds s items
  | setTime _ time => exact actSetTime_regIds s time
  | setTag _ word val => exact actSetTag_regIds s word val
  | _ => first | rfl | exact actOf_query_regIds rfl s

/-- R1, R11: the block of every request keeps the Register sound. -/
theorem actOf_registerSound (i : Instr) {s : State} (hs : s.registerSound) : (actOf i s).1.registerSound := by
  by_cases hi : ∃ tag d, i = .declare tag d
  · obtain ⟨tag, d, rfl⟩ := hi
    exact actDeclare_registerSound d hs
  · push Not at hi
    exact State.registerSound_of_sublist (actOf_regIds i s hi ▸ .refl _) hs

/-! ## The Register through the link -/

theorem State.answer_registerSound (kind tag : Nat) (i : Instr) {s : State} (hs : s.registerSound) :
    (s.answer kind tag (actOf i)).registerSound := by
  unfold State.answer
  split
  · exact hs
  · exact actOf_registerSound i hs

theorem takeFrame_registerSound (f : Frame) {s : State} (hs : s.registerSound) : (takeFrame f s).registerSound := by
  unfold takeFrame
  split
  · exact hs
  · split
    · exact State.answer_registerSound _ _ _ hs
    · exact hs

theorem State.frameArrives_registerSound (f : Frame) (take : State → State)
    (ht : ∀ s : State, s.registerSound → (take s).registerSound) {s : State} (hs : s.registerSound) :
    (s.frameArrives f take).registerSound := by
  unfold State.frameArrives
  split
  · exact hs
  · extract_lets watched link joined
    have hw : watched.registerSound := by
      simp only [watched]
      split
      · rw [s.restartWatch_eq]; exact hs
      · exact hs
    split
    · exact hw
    · split
      · exact ht joined hw
      · exact hw

theorem State.nextFrame_registerSound {s : State} (hs : s.registerSound) : s.nextFrame.registerSound := by
  unfold State.nextFrame
  dsimp only
  split
  · exact hs
  · exact takeFrame_registerSound _ hs

/-! ## The Register through every command -/

/-- An event keeps the Register sound where its change does. -/
theorem State.event_registerSound {s t : State} {f : State → State} (h : s.event f = .next t)
    (hs : s.registerSound) (hf : (f s).registerSound) : t.registerSound := by
  unfold State.event at h
  injection h with h
  subst h
  split
  · exact hf
  · exact hs

/-- An event keeps the Register sound where its change keeps the ids. -/
theorem State.event_of_regIds {s t : State} {f : State → State} (h : s.event f = .next t)
    (hs : s.registerSound) (hf : regIds (f s).reg = regIds s.reg) : t.registerSound :=
  State.event_registerSound h hs (State.registerSound_of_sublist (hf ▸ .refl _) hs)

theorem State.registerSound_of_next {s t u : State} (h : (.next u : Host.Outcome State Fault Refusal) = .next t)
    (hs : s.registerSound) (hu : regIds u.reg = regIds s.reg) : t.registerSound := by
  injection h with h
  subst h
  exact State.registerSound_of_sublist (hu ▸ .refl _) hs

/-- R1, R11: every command keeps the Register sound. -/
theorem exec_registerSound (i : Instr) {s t : State} (hs : s.registerSound) (h : exec i s = .next t) :
    t.registerSound := by
  by_cases hi : i.isRequest = true
  · rw [exec_request hi] at h
    injection h with h
    subst h
    exact State.frameArrives_registerSound _ _ (fun _ hu => State.answer_registerSound _ _ _ hu) hs
  cases i with
  | unknownKind kind tag body =>
    unfold exec execUnknownKind at h
    injection h with h
    subst h
    exact State.frameArrives_registerSound _ _ (fun _ hu => takeFrame_registerSound _ hu) hs
  | byteReceived b stopError =>
    unfold exec execByteReceived at h
    refine State.event_registerSound h hs ?_
    split
    · exact hs
    · dsimp only
      split
      · exact hs
      · exact State.frameArrives_registerSound _ _ (fun _ hu => takeFrame_registerSound _ hu) hs
  | replySent =>
    unfold exec execReplySent at h
    refine State.event_registerSound h hs ?_
    split
    · exact hs
    · split
      · exact State.registerSound_of_sublist (s.commandReset_regIds ▸ .refl _) hs
      · exact State.nextFrame_registerSound hs
  | appendEnd ok =>
    unfold exec execAppendEnd at h
    refine State.event_registerSound h hs ?_
    split
    · split
      · exact State.registerSound_of_sublist (s.appendDone_regIds _ _ _) hs
      · exact State.registerSound_of_sublist (s.appendTorn_regIds _ _ _ ▸ .refl _) hs
    all_goals exact hs
  | receiverGap =>
    unfold exec execReceiverGap at h
    exact State.event_of_regIds h hs rfl
  | linkWatchExpiry =>
    unfold exec execLinkWatchExpiry at h
    exact State.event_of_regIds h hs (by split <;> simp)
  | powerReset up lost =>
    unfold exec execPowerReset at h
    exact State.registerSound_of_next h hs (by simp [State.cut])
  | pinReset =>
    unfold exec execPinReset at h
    exact State.registerSound_of_next h hs (by simp [State.cut])
  | resetPinRelease =>
    unfold exec execResetPinRelease at h
    exact State.registerSound_of_next h hs (by split <;> simp)
  | startUpEnd ok =>
    unfold exec execStartUpEnd at h
    exact State.registerSound_of_next h hs (by split <;> simp)
  | emergencyFallingEdge line =>
    unfold exec execEmergencyFallingEdge at h
    refine State.registerSound_of_next h hs ?_
    dsimp only
    split
    · split <;> simp
    · rfl
  | emergencyLineRise line =>
    unfold exec execEmergencyLineRise at h
    exact State.registerSound_of_next h hs (by simp)
  | siteClockSecond =>
    unfold exec execSiteClockSecond at h
    refine State.registerSound_of_next h hs ?_
    dsimp only
    split
    · rfl
    · split <;> simp
  | encoderEdge st line =>
    unfold exec execEncoderEdge at h
    exact State.registerSound_of_next h hs (by split <;> simp [State.encoderMoves])
  | sample chan code guardFirst =>
    unfold exec execSample at h
    exact State.event_of_regIds h hs (by cases chan <;> simp)
  | holdEnd st =>
    unfold exec execHoldEnd at h
    exact State.event_of_regIds h hs (by split <;> simp)
  | creepReading st =>
    unfold exec execCreepReading at h
    exact State.event_of_regIds h hs (by split <;> simp)
  | rampTimeout st =>
    unfold exec execRampTimeout at h
    exact State.event_of_regIds h hs (by split <;> simp)
  | wholeSecond st =>
    unfold exec execWholeSecond at h
    exact State.event_of_regIds h hs (by simp)
  | releaseDutyEnd st =>
    unfold exec execReleaseDutyEnd at h
    exact State.event_of_regIds h hs (by simp)
  | seatPulseEnd st =>
    unfold exec execSeatPulseEnd at h
    exact State.event_of_regIds h hs (by split <;> simp)
  | drumPulse dirHigh =>
    unfold exec execDrumPulse at h
    exact State.event_of_regIds h hs rfl
  | flowPulse period =>
    unfold exec execFlowPulse at h
    refine State.event_of_regIds h hs ?_
    dsimp only
    split
    · rfl
    · split
      · split <;> simp
      · simp
  | noFlowTime =>
    unfold exec execNoFlowTime at h
    exact State.event_of_regIds h hs (by dsimp only; split <;> simp)
  | noFlow =>
    unfold exec execNoFlow at h
    exact State.event_of_regIds h hs (by split <;> simp)
  | siteMinute =>
    unfold exec execSiteMinute at h
    exact State.event_of_regIds h hs (by split <;> simp)
  | scanComplete codes wallFirst =>
    unfold exec execScanComplete at h
    exact State.event_of_regIds h hs (by dsimp only; split <;> simp [State.publishScan])
  | jackOverloadTrip st =>
    unfold exec execJackOverloadTrip at h
    exact State.event_of_regIds h hs (by split <;> simp)
  | groutRefusalTrip =>
    unfold exec execGroutRefusalTrip at h
    exact State.event_of_regIds h hs (by split <;> simp)
  | groutOverpressureTrip =>
    unfold exec execGroutOverpressureTrip at h
    exact State.event_of_regIds h hs (by dsimp only; split <;> simp)
  | winchJamTrip =>
    unfold exec execWinchJamTrip at h
    refine State.event_of_regIds h hs ?_
    split
    · simp
    · split <;> simp
  | winchSlackTrip =>
    unfold exec execWinchSlackTrip at h
    exact State.event_of_regIds h hs (by split <;> simp)
  | neighbourRiseTrip st point =>
    unfold exec execNeighbourRiseTrip at h
    exact State.event_of_regIds h hs (by split <;> simp)
  | wallTiltTrip point =>
    unfold exec execWallTiltTrip at h
    exact State.event_of_regIds h hs (by dsimp only; split <;> simp)
  | selftestFail guard =>
    unfold exec execSelftestFail at h
    refine State.event_of_regIds h hs ?_
    split
    · rfl
    · split <;> simp
  | brakeIntervalExpiry =>
    unfold exec execBrakeIntervalExpiry at h
    exact State.event_of_regIds h hs (by split <;> simp)
  | arbiterServe =>
    unfold exec execArbiterServe at h
    exact State.event_of_regIds h hs (by simp)
  | valveTravelEnd port =>
    unfold exec execValveTravelEnd at h
    refine State.event_of_regIds h hs ?_
    dsimp only
    split
    · simp
    · (repeat' split) <;> simp [State.enterPumping]
  | pauseExpired =>
    unfold exec execPauseExpired at h
    exact State.event_of_regIds h hs (by split <;> simp)
  | eraseEnd ok =>
    unfold exec execEraseEnd at h
    refine State.event_of_regIds h hs ?_
    dsimp only
    split
    · (repeat' split) <;> simp
    all_goals rfl
  | pwmPeriodStart =>
    unfold exec execPwmPeriodStart at h
    exact State.event_of_regIds h hs rfl
  | _ => exact absurd rfl hi

end Sys2Proof.Machine

open Sys2Proof.Machine in
/-- Settles O5: a step runs one command, and every command keeps the Register sound. -/
theorem stepKeepsRegisterSound : Obligations.StepKeepsRegisterSound := by
  unfold Obligations.StepKeepsRegisterSound
  intro s t hs h
  unfold step at h
  split at h
  · injection h with h
    exact h ▸ hs
  · next c rest _ => exact exec_registerSound c (s := { s with pending := rest }) hs h
end

section
namespace Sys2Proof.Machine

/-- R186: a request refused by its own checks. -/
theorem Refuses.of_act {i : Instr} {s : State} {act : Act} {c : Resp} {d : Nat} (h : s.accepts i)
    (hk : knownKind (frameOf i).kind = true) (he : exec i s = s.request i act)
    (ha : act (s.taken i) = refuse (s.taken i) c d) : Refuses i s c d :=
  Serves.of_act h hk he ha

/-- What a served request of the catalogue leads to, from what its block does. -/
theorem Serves.of_actOf {i : Instr} {s : State} {effect : State → State} {a : Answer} (hi : i.isRequest = true)
    (h : s.accepts i) (ha : actOf i (s.taken i) = (effect (s.taken i), a)) : Serves i s effect a :=
  Serves.of_act h (request_known hi) (exec_request hi s) ha

theorem Refuses.of_actOf {i : Instr} {s : State} {c : Resp} {d : Nat} (hi : i.isRequest = true)
    (h : s.accepts i) (ha : actOf i (s.taken i) = refuse (s.taken i) c d) : Refuses i s c d :=
  Serves.of_actOf hi h ha

end Sys2Proof.Machine

open Sys2Proof Sys2Proof.Machine

/-- Settles O4: the reset state is one concrete state. -/
theorem resetStateIsSound : Obligations.ResetStateIsSound := by
  unfold Obligations.ResetStateIsSound
  refine ⟨by decide, by decide, by decide, by decide, by decide, by decide, by decide, by decide⟩

/-- Settles O22: the block of LIST_ANCHORS, case by case of the filter. -/
theorem listAnchorsListsTheStage : Obligations.ListAnchorsListsTheStage := by
  unfold Obligations.ListAnchorsListsTheStage
  intro tag filter s hs
  refine ⟨fun hf => ?_, ?_⟩
  · exact Refuses.of_actOf rfl hs (by simp [actOf, actListAnchors, hf])
  · intro stage
    have hstage : ∀ x : Stage, stage x = x.code := by intro x; cases x <;> rfl
    refine ⟨fun hits hf hh => ?_, fun hf he => ?_⟩
    · refine Serves.of_actOf rfl hs ?_
      subst hh
      simp [actOf, actListAnchors, Nat.not_lt.2 hf, hstage, WField.list]
    · exact Serves.of_actOf rfl hs (by simp [actOf, actListAnchors, Nat.not_lt.2 hf, he, WField.list])
end

section
namespace Sys2Proof.Machine

/-! ## The checks of a declaration -/

/-- The first failing check of a list whose checks are numbered in order. -/
theorem firstFailure_zipIdx (l : List Bool) (k : Nat) :
    firstFailure (l.zipIdx k) = (l.findIdx? fun ok => !ok).map (· + k) := by
  induction l generalizing k with
  | nil => rfl
  | cons b rest ih =>
    have hk : (fun n => n + (k + 1)) = (fun n => n + k) ∘ (· + 1) := by funext n; simp only [Function.comp]; omega
    cases b
    · simp [firstFailure, List.findIdx?_cons]
    · rw [List.findIdx?_cons, Bool.not_true, if_neg Bool.false_ne_true, Option.map_map, ← hk, ← ih]
      simp [firstFailure]

/-- R4: the load relations in their order, each with the field its failure names. -/
def loadRelations (site : Site) (pw pp pa plo : Nat) : List (Bool × Nat) :=
  let l := site.limits
  let tol := (2 * (plo * l.liftTol) + 1000) / 2000
  let target := (2 * (plo * (1000 + site.settings.overdrive)) + 1000) / 2000
  [(decide (pw ≤ pp), 8),
   (decide (site.enables.s1 = true ∧ pp ≤ l.rating1 ∨ site.enables.s2 = true ∧ pp ≤ l.rating2), 8),
   (decide (pa < pp), 9), (decide (pa ≤ pp / 5), 9), (decide (pa < plo), 10), (decide (target ≤ pp), 10),
   (decide (plo + tol + site.settings.loadTol ≤ pp), 10)]

theorem relationFailure_eq (site : Site) (d : Decl) :
    relationFailure site d = ((loadRelations site d.pw d.pp d.pa d.plo).find? fun r => !r.1).map (·.2) := by
  have hrated : ((site.enables.s1 && decide (d.pp ≤ site.limits.rating1)) ||
      (site.enables.s2 && decide (d.pp ≤ site.limits.rating2))) =
      decide (site.enables.s1 = true ∧ d.pp ≤ site.limits.rating1 ∨
        site.enables.s2 = true ∧ d.pp ≤ site.limits.rating2) := by
    simp only [Bool.decide_or, Bool.decide_and, Bool.decide_eq_true]
  simp only [relationFailure, hrated]
  rfl

/-- R5: when a neighbour list is acceptable. -/
theorem neighboursOk_iff (self count : Nat) (ids : List Nat) :
    neighboursOk self count ids = true ↔
      count ≤ 4 ∧ (∀ i ∈ ids.take count, 1 ≤ i ∧ i ≤ 65000 ∧ i ≠ self) ∧ (ids.take count).Nodup := by
  simp [neighboursOk, inRange, and_assoc]

/-- R3, R5: the eighteen ranges of a DECLARE body, in index order. -/
def declareRanges (l : Limits) (d : DeclareBody) : List Bool :=
  let ids := d.nbrIds.take d.nbrCount
  let post := d.passes ≠ 0
  [decide (1 ≤ d.id ∧ d.id ≤ 65000), decide (1 ≤ d.row ∧ d.row ≤ 8), decide (300 ≤ d.lFree ∧ d.lFree ≤ 4000),
   decide (300 ≤ d.lBond ∧ d.lBond ≤ 2000), decide (100 ≤ d.area ∧ d.area ≤ 5000),
   decide (150000 ≤ d.modulus ∧ d.modulus ≤ 210000), decide (100 ≤ d.pw ∧ d.pw ≤ 20000),
   decide (100 ≤ d.pp ∧ d.pp ≤ 30000), decide (50 ≤ d.pa ∧ d.pa ≤ 30000), decide (1 ≤ d.plo ∧ d.plo ≤ 30000),
   decide (1000 ≤ d.volCap ∧ d.volCap ≤ 5000000), decide (100 ≤ d.refusal ∧ d.refusal ≤ l.maxPressure),
   decide (d.passes ≤ 3), decide (post → 4 ≤ d.postInterval ∧ d.postInterval ≤ 48),
   decide (post → 1000 ≤ d.postVolCap ∧ d.postVolCap ≤ 5000000),
   decide (post → 100 ≤ d.postRefusal ∧ d.postRefusal ≤ l.maxPressure), decide (l.minCure ≤ d.cure ∧ d.cure ≤ 720),
   decide (d.nbrCount ≤ 4 ∧ (∀ i ∈ ids, 1 ≤ i ∧ i ≤ 65000 ∧ i ≠ d.id) ∧ ids.Nodup)]

theorem declareFailure_eq (l : Limits) (d : DeclareBody) :
    declareFailure l d = ((declareRanges l d).findIdx? fun ok => !ok).map (· + 1) := by
  have hskip (p : Prop) [Decidable p] : (d.passes == 0 || decide p) = decide (d.passes ≠ 0 → p) := by
    rw [Bool.eq_iff_iff]
    simp [or_iff_not_imp_left]
  have hpasses : inRange 0 3 d.passes = decide (d.passes ≤ 3) := by simp [inRange]
  have hnbrs : neighboursOk d.id d.nbrCount d.nbrIds =
      decide (d.nbrCount ≤ 4 ∧ (∀ i ∈ d.nbrIds.take d.nbrCount, 1 ≤ i ∧ i ≤ 65000 ∧ i ≠ d.id) ∧
        (d.nbrIds.take d.nbrCount).Nodup) := by
    rw [Bool.eq_iff_iff, neighboursOk_iff, decide_eq_true_iff]
  rw [← firstFailure_zipIdx]
  simp only [declareFailure, fieldInRange, hnbrs, hpasses]
  simp only [inRange, hskip]
  rfl

/-! ## Operations in flight -/

/-- R12, R14: when an operation of an anchor is in flight, a queued request apart. -/
theorem State.inFlight_iff (s : State) (e : Entry) :
    s.inFlight e = true ↔ e.stage = .stressing ∨ e.stage = .grouting ∨ e.stage = .closing ∨
      (s.winch.state ≠ .idle ∧ s.winch.run.any (fun r => r.anchor == e.decl.id) = true) ∨
      s.grout.pass.any (fun p => p.anchor == e.decl.id) = true := by
  simp [State.inFlight, or_assoc]

end Sys2Proof.Machine

open Sys2Proof Sys2Proof.Machine

/-- Settles O25: DECLARE, check by check in the order of R10. -/
theorem declareChecksAndAppends : Obligations.DeclareChecksAndAppends := by
  unfold Obligations.DeclareChecksAndAppends
  intro tag d s hs l ids post ranges tol target relations decl entry
  have hranges : declareFailure s.site.limits d = (ranges.findIdx? fun ok => !ok).map (· + 1) := declareFailure_eq l d
  have hrelations : relationFailure s.site (declOf d) = (relations.find? fun r => !r.1).map (·.2) :=
    relationFailure_eq s.site (declOf d)
  split
  · next hfull => exact Refuses.of_actOf rfl hs (by simp [actOf, actDeclare, Config.maxAnchors, hfull])
  · next hroom =>
    split
    · next hdup =>
      exact Refuses.of_actOf rfl hs (by simp [actOf, actDeclare, Config.maxAnchors, hroom, hdup])
    · next hnew =>
      split
      · next n hn =>
        refine Refuses.of_actOf rfl hs ?_
        simp [actOf, actDeclare, Config.maxAnchors, hroom, hnew, hranges, hn]
      · next hn =>
        split
        · next r hr =>
          refine Refuses.of_actOf rfl hs ?_
          simp [actOf, actDeclare, Config.maxAnchors, hroom, hnew, hranges, hn, hrelations, hr]
        · next hr =>
          refine Serves.of_actOf rfl hs ?_
          simp [actOf, actDeclare, Config.maxAnchors, hroom, hnew, hranges, hn, hrelations, hr]
          rfl

/-- Settles O27: VOID, check by check in the order of R14. -/
theorem voidWithdrawsTheAnchor : Obligations.VoidWithdrawsTheAnchor := by
  unfold Obligations.VoidWithdrawsTheAnchor
  intro tag id s hs
  constructor
  · intro he
    exact Refuses.of_actOf rfl hs (by simp [actOf, actVoid, he])
  intro e he flying voidable
  have hflying : s.inFlight e = true ↔ flying := s.inFlight_iff e
  refine ⟨fun hf => ?_, fun hf hv => ?_, fun hf hv => ?_⟩
  · exact Refuses.of_actOf rfl hs (by simp [actOf, actVoid, he, hflying.2 hf])
  · refine Refuses.of_actOf rfl hs ?_
    simp only [actOf, actVoid, State.taken_entry, he, State.taken_inFlight, hflying, if_neg hf]
    exact if_neg hv
  · refine Serves.of_actOf rfl hs ?_
    simp only [actOf, actVoid, State.taken_entry, he, State.taken_inFlight, hflying, if_neg hf]
    exact if_pos hv
end

section
namespace Sys2Proof.Machine

/-! ## The items of an AMEND -/

theorem names_iff (l : List AmendItem) (k : Nat) : names l k = true ↔ k ∈ l.map itemIndex := by
  simp [names]

/-- R12: an item passes the index check. -/
theorem indexOk_iff (seen : List Nat) (x : AmendItem) :
    (inRange 2 18 (itemIndex x) && !seen.contains (itemIndex x)) = true ↔
      (2 ≤ itemIndex x ∧ itemIndex x ≤ 18) ∧ itemIndex x ∉ seen := by
  simp [inRange]

/-- R12: the index check passes when every index lies in 2 to 18 and none repeats an earlier one. -/
theorem amendIndexFailure_eq_none_iff (l : List AmendItem) (seen : List Nat) :
    amendIndexFailure seen l = none ↔
      (∀ x ∈ l, 2 ≤ itemIndex x ∧ itemIndex x ≤ 18) ∧ (∀ x ∈ l, itemIndex x ∉ seen) ∧ (l.map itemIndex).Nodup := by
  induction l generalizing seen with
  | nil => simp [amendIndexFailure]
  | cons x rest ih =>
    rw [amendIndexFailure]
    by_cases hx : (2 ≤ itemIndex x ∧ itemIndex x ≤ 18) ∧ itemIndex x ∉ seen
    · rw [if_pos ((indexOk_iff seen x).2 hx), ih]
      simp only [List.forall_mem_cons, List.map_cons, List.nodup_cons]
      simp only [List.mem_cons, not_or, List.mem_map, not_exists, not_and, forall_and]
      tauto
    · rw [if_neg fun h => hx ((indexOk_iff seen x).1 h)]
      simp only [List.forall_mem_cons, reduceCtorEq, false_iff]
      tauto

/-- R12: the first item that does not pass is the one named. -/
theorem amendIndexFailure_append (front back : List AmendItem) (x : AmendItem) (seen : List Nat)
    (hfront : amendIndexFailure seen front = none) (hx : amendIndexFailure seen (front ++ [x]) ≠ none) :
    amendIndexFailure seen (front ++ x :: back) = some (itemIndex x) := by
  induction front generalizing seen with
  | nil =>
    simp only [List.nil_append, amendIndexFailure] at hx ⊢
    split at hx
    · exact absurd rfl hx
    · next h => rw [if_neg h]
  | cons y rest ih =>
    simp only [List.cons_append, amendIndexFailure] at hfront hx ⊢
    split at hfront
    · next h =>
      rw [if_pos h] at hx ⊢
      exact ih _ hfront hx
    · cases hfront

theorem newValue_eq_none {l : List AmendItem} {k : Nat} (h : ∀ v, AmendItem.value k v ∉ l) : newValue l k = none := by
  refine List.findSome?_eq_none_iff.2 fun x hx => ?_
  cases x with
  | value j v =>
    refine if_neg fun hj => h v ?_
    rwa [← hj]
  | neighbours => rfl

/-- A value an AMEND gives is the value of one of its items. -/
theorem mem_of_newValue {l : List AmendItem} {k v : Nat} (h : newValue l k = some v) : AmendItem.value k v ∈ l := by
  obtain ⟨x, hx, hv⟩ := List.exists_of_findSome?_eq_some h
  cases x with
  | value j w =>
    simp only [Option.ite_none_right_eq_some, Option.some.injEq] at hv
    obtain ⟨rfl, rfl⟩ := hv
    exact hx
  | neighbours => cases hv

theorem mem_of_newNeighbours {l : List AmendItem} {c : Nat} {ids : List Nat} (h : newNeighbours l = some (c, ids)) :
    AmendItem.neighbours c ids ∈ l := by
  obtain ⟨x, hx, hv⟩ := List.exists_of_findSome?_eq_some h
  cases x with
  | value => cases hv
  | neighbours =>
    simp only [Option.some.injEq, Prod.mk.injEq] at hv
    obtain ⟨rfl, rfl⟩ := hv
    exact hx

theorem newNeighbours_eq_none {l : List AmendItem} (h : ∀ c ids, AmendItem.neighbours c ids ∉ l) :
    newNeighbours l = none := by
  refine List.findSome?_eq_none_iff.2 fun x hx => ?_
  cases x with
  | value => rfl
  | neighbours c ids => exact absurd hx (h c ids)

/-- Where no index repeats, two items of one index are one item. -/
theorem item_unique {l : List AmendItem} (h : (l.map itemIndex).Nodup) {x y : AmendItem} (hx : x ∈ l) (hy : y ∈ l)
    (hxy : itemIndex x = itemIndex y) : x = y :=
  List.inj_on_of_nodup_map h hx hy hxy

theorem newValue_of_mem {l : List AmendItem} (h : (l.map itemIndex).Nodup) {k v : Nat}
    (hm : AmendItem.value k v ∈ l) : newValue l k = some v := by
  cases hn : newValue l k with
  | none =>
    have := List.findSome?_eq_none_iff.1 hn _ hm
    simp at this
  | some w =>
    have := item_unique h hm (mem_of_newValue hn) rfl
    simp_all

theorem newNeighbours_of_mem {l : List AmendItem} (h : (l.map itemIndex).Nodup) {c : Nat} {ids : List Nat}
    (hm : AmendItem.neighbours c ids ∈ l) : newNeighbours l = some (c, ids) := by
  cases hn : newNeighbours l with
  | none =>
    have := List.findSome?_eq_none_iff.1 hn _ hm
    simp at this
  | some p =>
    have := item_unique h hm (mem_of_newNeighbours (c := p.1) (ids := p.2) hn) rfl
    simp_all

/-! ## The checks of an AMEND that look for a lowest field -/

/-- The lowest number below a bound that has a property is found by a search from 0. -/
theorem find_range_eq_some_iff {p : Nat → Bool} {n k : Nat} (hn : ∀ k, p k = true → k < n) :
    (List.range n).find? p = some k ↔ p k = true ∧ ∀ j < k, ¬p j = true := by
  rw [List.find?_range_eq_some]
  simp only [List.mem_range, Bool.not_eq_true']
  constructor
  · rintro ⟨h, -, hj⟩
    exact ⟨h, fun j hlt => by simp [hj j hlt]⟩
  · rintro ⟨h, hj⟩
    exact ⟨h, hn k h, fun j hlt => by simpa using hj j hlt⟩

/-- R12: the indices an AMEND may name. -/
abbrev goodItems (l : List AmendItem) : Prop :=
  (∀ x ∈ l, 2 ≤ itemIndex x ∧ itemIndex x ≤ 18) ∧ (l.map itemIndex).Nodup

theorem goodItems_iff (l : List AmendItem) : amendIndexFailure [] l = none ↔ goodItems l := by
  simp [amendIndexFailure_eq_none_iff]

theorem names_lt {l : List AmendItem} (h : goodItems l) {k : Nat} (hk : names l k = true) : 2 ≤ k ∧ k < 19 := by
  obtain ⟨x, hx, rfl⟩ := List.mem_map.1 ((names_iff l k).1 hk)
  have := h.1 x hx
  omega

/-- R12 check 4. -/
theorem lockedFieldNamed_eq_some_iff {l : List AmendItem} (h : goodItems l) (k : Nat) :
    lockedFieldNamed l = some k ↔
      (k ∈ l.map itemIndex ∧ k ∉ [7, 8, 9, 10, 17, 18]) ∧
        ∀ j < k, ¬(j ∈ l.map itemIndex ∧ j ∉ [7, 8, 9, 10, 17, 18]) := by
  have hlocked (j : Nat) : (names l j && !([7, 8, 9, 10, 17, 18].contains j)) = true ↔
      j ∈ l.map itemIndex ∧ j ∉ [7, 8, 9, 10, 17, 18] := by
    rw [Bool.and_eq_true, names_iff, Bool.not_eq_true', ← Bool.not_eq_true, List.contains_iff_mem]
  unfold lockedFieldNamed
  rw [find_range_eq_some_iff fun j hj => (names_lt h (Bool.and_eq_true _ _ ▸ hj).1).2]
  simp only [hlocked]

/-- R12 check 7. -/
theorem postFieldMissing_eq_some_iff (d : Decl) (l : List AmendItem) (k : Nat) :
    postFieldMissing d l = some k ↔
      d.passes = 0 ∧ 0 < (newValue l 13).getD d.passes ∧ (14 ≤ k ∧ k ≤ 16 ∧ k ∉ l.map itemIndex) ∧
        ∀ j < k, ¬(14 ≤ j ∧ j ≤ 16 ∧ j ∉ l.map itemIndex) := by
  have hlist : [14, 15, 16] = List.range' 14 3 := rfl
  have hname (j : Nat) : (!names l j) = true ↔ j ∉ l.map itemIndex := by
    rw [Bool.not_eq_true', ← Bool.not_eq_true, names_iff]
  unfold postFieldMissing
  split
  · next h =>
    obtain ⟨hzero, hrises⟩ := h
    rw [hlist, List.find?_range'_eq_some]
    simp only [List.mem_range'_1, hname, Bool.not_not, names_iff]
    constructor
    · rintro ⟨hk, ⟨h1, h2⟩, hj⟩
      exact ⟨hzero, hrises, ⟨h1, by omega, hk⟩, fun j hlt ⟨h3, _, h4⟩ => h4 (hj j h3 hlt)⟩
    · rintro ⟨-, -, ⟨h1, h2, hk⟩, hj⟩
      exact ⟨hk, ⟨h1, by omega⟩, fun j h3 hlt => by_contra fun h4 => hj j hlt ⟨h3, by omega, h4⟩⟩
  · next h => simp only [reduceCtorEq, false_iff]; tauto

/-- R3: the ranges of fields 2 to 17, in index order. -/
def fieldBounds (l : Limits) : List (Nat × Nat) :=
  [(1, 8), (300, 4000), (300, 2000), (100, 5000), (150000, 210000), (100, 20000), (100, 30000), (50, 30000),
   (1, 30000), (1000, 5000000), (100, l.maxPressure), (0, 3), (4, 48), (1000, 5000000),
   (100, l.maxPressure), (l.minCure, 720)]

theorem fieldInRange_iff (l : Limits) {k : Nat} (h2 : 2 ≤ k) (h17 : k ≤ 17) (v : Nat) :
    (!fieldInRange l k v) = true ↔ ∃ b, (fieldBounds l)[k - 2]? = some b ∧ (v < b.1 ∨ b.2 < v) := by
  have hrange (lo hi : Nat) : (!inRange lo hi v) = true ↔ v < lo ∨ hi < v := by
    simp [inRange]
  interval_cases k <;> simp [fieldInRange, fieldBounds, hrange]

/-- R12 check 6: field `k` is named, counts, and lies outside its range. -/
def fieldBad (limits : Limits) (d : Decl) (l : List AmendItem) (k : Nat) : Prop :=
  ¬((newValue l 13).getD d.passes = 0 ∧ 14 ≤ k ∧ k ≤ 16) ∧
  ((∃ v b, newValue l k = some v ∧ (fieldBounds limits)[k - 2]? = some b ∧ (v < b.1 ∨ b.2 < v)) ∨
    k = 18 ∧ ∃ c ids, newNeighbours l = some (c, ids) ∧
      (4 < c ∨ (∃ n ∈ ids.take c, n < 1 ∨ 65000 < n ∨ n = d.id) ∨ ¬(ids.take c).Nodup))

theorem not_neighboursOk_iff (self count : Nat) (ids : List Nat) :
    (!neighboursOk self count ids) = true ↔
      4 < count ∨ (∃ n ∈ ids.take count, n < 1 ∨ 65000 < n ∨ n = self) ∨ ¬(ids.take count).Nodup := by
  rw [Bool.not_eq_true', ← Bool.not_eq_true, neighboursOk_iff]
  simp only [not_and_or, not_forall, Nat.not_le, not_not, exists_prop, ne_eq]

theorem names_of_newValue {l : List AmendItem} {k v : Nat} (h : newValue l k = some v) : names l k = true :=
  (names_iff l k).2 (List.mem_map.2 ⟨_, mem_of_newValue h, rfl⟩)

theorem names_of_newNeighbours {l : List AmendItem} {p : Nat × List Nat} (h : newNeighbours l = some p) :
    names l 18 = true :=
  (names_iff l 18).2 (List.mem_map.2 ⟨_, mem_of_newNeighbours (c := p.1) (ids := p.2) h, rfl⟩)

/-- R12 check 6: what the search looks for at one field is a named field outside its range. -/
theorem amendRangeCheck_iff {l : List AmendItem} (h : goodItems l) (limits : Limits) (d : Decl) (k : Nat) :
    (names l k && !((newValue l 13).getD d.passes == 0 && inRange 14 16 k) &&
      (if k = 18 then
        match newNeighbours l with
        | some (c, ids) => !neighboursOk d.id c ids
        | none => false
      else
        match newValue l k with
        | some v => !fieldInRange limits k v
        | none => false)) = true ↔ fieldBad limits d l k := by
  have hskip : (!((newValue l 13).getD d.passes == 0 && inRange 14 16 k)) = true ↔
      ¬((newValue l 13).getD d.passes = 0 ∧ 14 ≤ k ∧ k ≤ 16) := by
    simp [inRange]
    omega
  rw [Bool.and_eq_true, Bool.and_eq_true, hskip, fieldBad, and_comm (a := names l k = true), and_assoc]
  refine and_congr_right fun _ => ?_
  by_cases h18 : k = 18
  · subst h18
    have hbound : (fieldBounds limits)[18 - 2]? = none := rfl
    rw [if_pos rfl]
    cases hn : newNeighbours l with
    | none => simp [hbound]
    | some p =>
      simp only [names_of_newNeighbours hn, true_and, hbound, Option.some.injEq, reduceCtorEq, false_and, and_false,
        exists_false, false_or]
      rw [not_neighboursOk_iff]
      constructor
      · exact fun hbad => ⟨_, _, rfl, hbad⟩
      · rintro ⟨c, ids, rfl, hbad⟩
        exact hbad
  · rw [if_neg h18]
    cases hn : newValue l k with
    | none => simp [h18]
    | some v =>
      have hk := names_lt h (names_of_newValue hn)
      have hv := fieldInRange_iff limits hk.1 (by omega) v
      simp only [names_of_newValue hn, true_and, h18, false_and, or_false, hv, Option.some.injEq, exists_and_left,
        exists_eq_left']

theorem amendRangeFailure_eq_some_iff {l : List AmendItem} (h : goodItems l) (limits : Limits) (d : Decl) (k : Nat) :
    amendRangeFailure limits d l = some k ↔ fieldBad limits d l k ∧ ∀ j < k, ¬fieldBad limits d l j := by
  unfold amendRangeFailure
  simp only [← amendRangeCheck_iff h limits d]
  refine find_range_eq_some_iff fun j hj => ?_
  simp only [Bool.and_eq_true] at hj
  exact (names_lt h hj.1.1).2

/-! ## The block of AMEND -/

theorem State.entry_id {s : State} {id : Nat} {e : Entry} (h : s.entry id = some e) : e.decl.id = id := by
  simpa using List.find?_some h

/-- R12 check 2: when an anchor has an operation in flight or a queued request. -/
theorem State.busy_iff {s : State} {id : Nat} {e : Entry} (h : s.entry id = some e) :
    (s.inFlight e || s.queued id) = true ↔
      e.stage = .stressing ∨ e.stage = .grouting ∨ e.stage = .closing ∨
        (s.winch.state ≠ .idle ∧ ∃ r, s.winch.run = some r ∧ r.anchor = id) ∨
        (∃ q ∈ s.grout.queue, q.anchor = id) ∨ ∃ p, s.grout.pass = some p ∧ p.anchor = id := by
  simp only [Bool.or_eq_true, s.inFlight_iff, State.queued, State.entry_id h, Option.any_eq_true, List.any_eq_true,
    beq_iff_eq, or_assoc]
  rw [or_comm (a := ∃ p, s.grout.pass = some p ∧ p.anchor = id)]

end Sys2Proof.Machine

open Sys2Proof Sys2Proof.Machine

/-- Settles O26: AMEND, check by check in the order of R12, and what each check looks for. -/
theorem amendReplacesTheNamedFields : Obligations.AmendReplacesTheNamedFields := by
  unfold Obligations.AmendReplacesTheNamedFields
  refine ⟨?_, ?_, ?_, ?_, ?_⟩
  · intro tag id items s hs i
    constructor
    · intro k hk
      exact Refuses.of_actOf rfl hs (by simp [actOf, actAmend, i, hk])
    intro hidx
    constructor
    · intro he
      exact Refuses.of_actOf rfl hs (by simp [actOf, actAmend, i, hidx, he])
    intro e he busy
    have hbusy : (s.inFlight e || s.queued id) = true ↔ busy := State.busy_iff he
    constructor
    · intro hb
      exact Refuses.of_actOf rfl hs (by simp [actOf, actAmend, i, hidx, he, hbusy.2 hb])
    intro hb
    have hfree : (s.inFlight e || s.queued id) = false := Bool.eq_false_iff.2 fun h => hb (hbusy.1 h)
    constructor
    · intro hst
      exact Refuses.of_actOf rfl hs (by simp [actOf, actAmend, i, hidx, he, hfree, hst])
    intro hst
    have hopen : ¬(e.stage = .locked ∨ e.stage = .lockFault ∨ e.stage = .voided) := by
      rcases hst with h | h | h | h <;> simp [h]
    constructor
    · intro hgr k hk
      exact Refuses.of_actOf rfl hs (by simp [actOf, actAmend, i, hidx, he, hfree, hopen, hgr, hk])
    intro hunlocked
    have hlock : (if e.stage = .grouted ∨ e.stage = .rejected then lockedFieldNamed items else none) = none := by
      rcases hunlocked with h | h | h <;> simp [h]
    constructor
    · intro h10 hcounted
      exact Refuses.of_actOf rfl hs (by simp [actOf, actAmend, i, hidx, he, hfree, hopen, hlock, h10, hcounted])
    intro h10
    have hplo : (names items 10 && e.counted) = false := Bool.and_eq_false_iff.2 h10
    constructor
    · intro k hk
      exact Refuses.of_actOf rfl hs (by simp [actOf, actAmend, i, hidx, he, hfree, hopen, hlock, hplo, hk])
    intro hrange
    refine ⟨fun k hk => ?_, fun hpost hnil => ?_, fun hpost hnil => ⟨fun k hk => ?_, fun hrel => ?_⟩⟩
    · exact Refuses.of_actOf rfl hs (by simp [actOf, actAmend, i, hidx, he, hfree, hopen, hlock, hplo, hrange, hk])
    · subst hnil
      exact Refuses.of_actOf rfl hs (by simp [actOf, actAmend, i, hidx, he, hfree, hopen, hlock, hplo, hrange, hpost])
    · refine Refuses.of_actOf rfl hs ?_
      simp [actOf, actAmend, i, hidx, he, hfree, hopen, hlock, hplo, hrange, hpost, hnil, hk]
    · refine Serves.of_actOf rfl hs ?_
      simp [actOf, actAmend, i, hidx, he, hfree, hopen, hlock, hplo, hrange, hpost, hnil, hrel, State.modEntry]
  · intro items h
    have hnodup := ((goodItems_iff items).1 h).2
    exact ⟨fun k v hm _ => newValue_of_mem hnodup hm, fun k hk => newValue_eq_none hk,
      fun c ids hm => newNeighbours_of_mem hnodup hm, newNeighbours_eq_none⟩
  · intro d items a now
    refine ⟨rfl, rfl, rfl, rfl, rfl, rfl, rfl, rfl, rfl, rfl, rfl, rfl, rfl, rfl, fun c ids h => ?_, fun h => ?_, fun h => ?_,
      fun p h hp => ?_, fun i v r h hp hi hv hr => ?_⟩
    · simp [a, amended, h]
    · simp [a, amended, h]
    · exact if_pos h
    · exact (if_neg h).trans (by simp [hp, now])
    · exact (if_neg h).trans (by simp [hi, hv, hr])
  · intro index good named
    have hindex : index = itemIndex := by funext x; cases x <;> rfl
    have hgood (l : List AmendItem) : good l ↔ goodItems l := by simp only [good, hindex, goodItems]
    have hnamed (l : List AmendItem) (k : Nat) : named l k ↔ k ∈ l.map itemIndex := by simp only [named, hindex]
    refine ⟨fun l => ?_, fun front x back hf hx => ?_, fun l k => ?_, ?_, ?_, ?_⟩
    · rw [hgood]; exact goodItems_iff l
    · rw [hgood, ← goodItems_iff] at hf hx
      rw [hindex]
      exact amendIndexFailure_append front back x [] hf hx
    · rw [hnamed]; exact names_iff l k
    · intro l k locked h
      have := lockedFieldNamed_eq_some_iff ((hgood l).1 h) k
      simpa only [locked, hnamed] using this
    · intro limits d l k bounds bad h
      exact amendRangeFailure_eq_some_iff ((hgood l).1 h) limits d k
    · intro d l k absent
      simpa only [absent, hnamed] using postFieldMissing_eq_some_iff d l k
  · intro site d l tol target relations
    exact relationFailure_eq site d
end

section
namespace Sys2Proof.Machine

/-! ## Looking a record up (R163, R164, R169) -/

section
variable {s : State} {number slot : Nat} {k : Record → State × Answer}

/-- R164: a number that has not been assigned has no slot. -/
theorem Archive.slotOf_eq_none {a : Archive} (h : number = 0 ∨ a.nextNumber ≤ number) : a.slotOf number = none := by
  unfold Archive.slotOf
  exact if_neg (by omega)

/-- R163, R164: the number before the next one took the slot before the next one, and so back round the ring. -/
theorem Archive.slotOf_eq_some {a : Archive} (h1 : 1 ≤ number) (hn : number < a.nextNumber) (hs1 : 1 ≤ slot)
    (hs : slot ≤ 1024) (hring : (slot + (a.nextNumber - number)) % 1024 = a.nextSlot % 1024) :
    a.slotOf number = some slot := by
  unfold Archive.slotOf
  rw [if_pos ⟨h1, hn⟩, Config.slotCount]
  congr 1
  omega

theorem withRecord_unassigned (h : s.archive.slotOf number = none) : withRecord s number k = refuse s .noSuchRecord := by
  simp [withRecord, h]

theorem withRecord_erasing (h : s.archive.slotOf number = some slot) (hb : s.archive.block (blockOf slot) = .erasing) :
    withRecord s number k = refuse s .busy := by
  simp [withRecord, h, hb]

/-- R169 check 2: no record of this number stands in the slot. -/
theorem withRecord_gone (h : s.archive.slotOf number = some slot) (hb : s.archive.block (blockOf slot) ≠ .erasing)
    (hr : ∀ r, slotAt s.archive.slots slot = some (.valid r) → r.number ≠ number) :
    withRecord s number k = refuse s .noSuchRecord := by
  simp only [withRecord, h, if_neg hb]
  split
  · next r he => exact if_neg (hr r he)
  · rfl

theorem withRecord_found {r : Record} (h : s.archive.slotOf number = some slot)
    (hb : s.archive.block (blockOf slot) ≠ .erasing) (hr : slotAt s.archive.slots slot = some (.valid r))
    (hn : r.number = number) : withRecord s number k = k r := by
  simp [withRecord, h, hb, hr, hn]

end

section
variable {s : State} {tag number n : Nat} {c : Resp} {r : Record}

theorem readArchive_refuses (hs : s.accepts (.readArchive tag number n)) (h1 : 1 ≤ n) (h4 : n ≤ 4)
    (h : ∀ k, withRecord (s.taken (.readArchive tag number n)) number k =
      refuse (s.taken (.readArchive tag number n)) c) : Refuses (.readArchive tag number n) s c := by
  have hin : inRange 1 4 n = true := by simp [inRange, h1, h4]
  exact Refuses.of_actOf rfl hs (by simp only [actOf, actReadArchive, hin, h]; rfl)

theorem readReadings_refuses (hs : s.accepts (.readReadings tag number n)) (h1 : 1 ≤ n)
    (h : ∀ k, withRecord (s.taken (.readReadings tag number n)) number k =
      refuse (s.taken (.readReadings tag number n)) c) : Refuses (.readReadings tag number n) s c :=
  Refuses.of_actOf rfl hs (by simp only [actOf, actReadReadings, h]; exact if_neg (by omega))

theorem readArchive_serves (hs : s.accepts (.readArchive tag number n)) (h1 : 1 ≤ n) (h4 : n ≤ 4)
    (h : ∀ k, withRecord (s.taken (.readArchive tag number n)) number k = k r) :
    Serves (.readArchive tag number n) s (fun u => u) (.reply (recordPart r n)) := by
  have hin : inRange 1 4 n = true := by simp [inRange, h1, h4]
  exact Serves.of_actOf rfl hs (by simp only [actOf, actReadArchive, hin, h]; rfl)

theorem readReadings_serves (hs : s.accepts (.readReadings tag number n)) (h1 : 1 ≤ n)
    (h : ∀ k, withRecord (s.taken (.readReadings tag number n)) number k = k r) :
    Serves (.readReadings tag number n) s (fun u => u) (.reply (readingPage (readingsOf r.result) n)) :=
  Serves.of_actOf rfl hs (by simp only [actOf, actReadReadings, h]; exact if_neg (by omega))

end

/-- R15: the position of an anchor is the place of its first entry. -/
theorem State.position_eq {s : State} {id k : Nat} {e : Entry} (he : e.decl.id = id) (hk : s.reg[k]? = some e)
    (hfirst : ∀ j d, j < k → s.reg[j]? = some d → d.decl.id ≠ id) : s.position id = k + 1 := by
  obtain ⟨hlt, hget⟩ := List.getElem?_eq_some_iff.1 hk
  unfold State.position
  rw [(List.findIdx_eq hlt).2 ⟨by simp [hget, he], fun j hj => ?_⟩]
  have := hfirst j s.reg[j] hj (List.getElem?_eq_getElem _)
  simpa using this

/-! ## The fields of replies -/

theorem WField.flag_eq (b : Bool) : WField.flag b = .u8 (if b then 1 else 0) := by cases b <;> rfl

theorem WField.list_eq {α : Type} (f : α → List WField) (l : List α) :
    WField.list f l = .u8 (l.map f).length :: (l.map f).flatten := by
  simp [WField.list, List.flatMap_def]

/-- R49, R193: the bits of a cause set. -/
theorem CauseSet.bits_eq (c : CauseSet) :
    c.bits = (if c.host then 1 else 0) + (if c.trip then 2 else 0) + (if c.emergency then 4 else 0) +
      (if c.linkLost then 8 else 0) + (if c.neighbour then 16 else 0) := by
  obtain ⟨h, t, e, l, n⟩ := c
  revert h t e l n
  decide

/-- R8, R193: the bits of a reason set. -/
theorem reasonBits_eq (l : List Reason) :
    reasonBits l = (if .creepExceeded ∈ l then 1 else 0) + (if .elasticNonpositive ∈ l then 2 else 0) +
      (if .lappLow ∈ l then 4 else 0) + (if .lappHigh ∈ l then 8 else 0) + (if .lappClamped ∈ l then 16 else 0) +
      (if .liftoffLow ∈ l then 32 else 0) + (if .liftoffHigh ∈ l then 64 else 0) := by
  have hbit (x : Reason) (n : Nat) : n * (l.contains x).toNat = if x ∈ l then n else 0 := by
    by_cases h : x ∈ l <;> simp [h]
  have hfirst := hbit .creepExceeded 1
  rw [Nat.one_mul] at hfirst
  simp only [reasonBits, hbit, hfirst]

end Sys2Proof.Machine

open Sys2Proof Sys2Proof.Machine

/-- Settles O24: each query in the order of its checks, and the fields of each part. -/
theorem unpagedQueriesReturnTheirFields : Obligations.UnpagedQueriesReturnTheirFields := by
  unfold Obligations.UnpagedQueriesReturnTheirFields
  refine ⟨?_, ?_, ?_, ?_⟩
  · intro tag n s
    refine ⟨fun hs => ?_, fun hs => ⟨fun h1 h2 => ?_, fun st hst => ?_⟩, fun hs => ⟨fun hn => ?_, fun hn => ?_, fun hn => ?_,
      fun c h1 h20 hc => ?_⟩⟩
    · refine Serves.of_actOf rfl hs ?_
      simp only [actOf, actIdentify, accept_eq, identityFields, State.taken_resets, State.taken_site]
      cases s.resets.recorded <;> rfl
    · exact Refuses.of_actOf rfl hs (by simp [actOf, actGetStation, ofCode_none h1 h2])
    · have hcode : Stn.ofCode n = some st := by subst hst; cases st <;> rfl
      refine Serves.of_actOf rfl hs ?_
      simp only [actOf, actGetStation, hcode, accept_eq, State.taken_stn, State.taken_enabled]
      cases (s.stn st).state <;> rfl
    · have hout : inRange 1 22 n = false := by simp [inRange]; omega
      exact Refuses.of_actOf rfl hs (by simp [actOf, actGetCalibration, hout])
    · subst hn; exact Serves.of_actOf rfl hs rfl
    · subst hn; exact Serves.of_actOf rfl hs rfl
    · have hin : inRange 1 22 n = true := by simp [inRange]; omega
      refine Serves.of_actOf rfl hs ?_
      simp [actOf, actGetCalibration, hin, show n ≠ 21 by omega, show n ≠ 22 by omega, List.getD_eq_getElem?_getD, hc]
  · intro tag id part first s hs i held
    have hheld : held = readingsOf := by funext r; cases r <;> rfl
    constructor
    · intro he
      exact Refuses.of_actOf rfl hs (by simp [actOf, actGetAnchor, i, he])
    intro e he
    refine ⟨fun hp => ?_, fun hp hf => ?_, fun hp => ?_, fun k hp hk hfirst => ?_, fun hp => ?_, fun hp => ?_,
      fun hp hf => ?_⟩
    · refine Refuses.of_actOf rfl hs ?_
      simp only [actOf, actGetAnchor, i, State.taken_entry, he]
      split <;> first | omega | rfl
    · subst hp hf
      exact Refuses.of_actOf rfl hs (by simp [actOf, actGetAnchor, i, he])
    · subst hp
      exact Serves.of_actOf rfl hs (by simp [actOf, actGetAnchor, i, he])
    · subst hp
      have hpos : (s.taken i).position id = k + 1 := State.position_eq (State.entry_id he) hk hfirst
      exact Serves.of_actOf rfl hs (by simp [actOf, actGetAnchor, i, he, hpos])
    · subst hp
      exact Serves.of_actOf rfl hs (by simp [actOf, actGetAnchor, i, he])
    · subst hp
      exact Serves.of_actOf rfl hs (by simp [actOf, actGetAnchor, i, he, hheld])
    · subst hp
      exact Serves.of_actOf rfl hs (by simp [actOf, actGetAnchor, i, he, hheld, Nat.pos_iff_ne_zero.1 hf])
  · intro tag number n s held a b
    have hheld : held = readingsOf := by funext r; cases r <;> rfl
    refine ⟨fun hs hn => ?_, fun hs hn => ?_, ?_⟩
    · have hout : inRange 1 4 n = false := by simp [inRange]; omega
      exact Refuses.of_actOf rfl hs (by simp [actOf, actReadArchive, a, hout])
    · exact Refuses.of_actOf rfl hs (by simp [actOf, actReadReadings, b, hn])
    intro missing next
    constructor
    · intro h
      have hslot : s.archive.slotOf number = none := Archive.slotOf_eq_none h
      exact ⟨fun hs h1 h4 => readArchive_refuses hs h1 h4 fun k => withRecord_unassigned hslot,
        fun hs h1 => readReadings_refuses hs h1 fun k => withRecord_unassigned hslot⟩
    intro slot h1 hnext hs1 hs1024 hring block
    have hslot : s.archive.slotOf number = some slot := Archive.slotOf_eq_some h1 hnext hs1 hs1024 hring
    constructor
    · intro hb
      exact ⟨fun hs h1 h4 => readArchive_refuses hs h1 h4 fun k => withRecord_erasing hslot hb,
        fun hs h1 => readReadings_refuses hs h1 fun k => withRecord_erasing hslot hb⟩
    intro hb
    constructor
    · intro hr
      exact ⟨fun hs h1 h4 => readArchive_refuses hs h1 h4 fun k => withRecord_gone hslot hb hr,
        fun hs h1 => readReadings_refuses hs h1 fun k => withRecord_gone hslot hb hr⟩
    intro r hr hnum
    have part (hs : s.accepts a) (h1 : 1 ≤ n) (h4 : n ≤ 4) : Serves a s (fun u => u) (.reply (recordPart r n)) :=
      readArchive_serves hs h1 h4 fun k => withRecord_found hslot hb hr hnum
    rw [hheld]
    refine ⟨fun hs hn => ?_, fun hs hn => ?_, fun hs hn => ?_, fun hs hn => ?_, fun hs h1 => ?_⟩
    · subst hn; exact part hs (by omega) (by omega)
    · subst hn; exact part hs (by omega) (by omega)
    · subst hn; exact part hs (by omega) (by omega)
    · subst hn; exact part hs (by omega) (by omega)
    · exact readReadings_serves hs h1 fun k => withRecord_found hslot hb hr hnum
  · intro bit opt items causes reasons stage kind shape station phase ended abort cut runEnd passEnd time word
    have hbit : WField.flag = bit := by funext b; exact WField.flag_eq b
    have hopt {α : Type} (f : α → List WField) (o : Option α) : WField.opt f o = opt (o.map f) := by cases o <;> rfl
    have hitems {α : Type} (f : α → List WField) (l : List α) : WField.list f l = items (l.map f) := WField.list_eq f l
    have hcauses (c : CauseSet) : c.bits = causes c := c.bits_eq
    have hreasons (l : List Reason) : reasonBits l = reasons l := reasonBits_eq l
    have hstage (x : Stage) : x.code = stage x := by cases x <;> rfl
    have hkind (x : PassKind) : x.code = kind x := by cases x <;> rfl
    have hshape (x : PlanShape) : x.code = shape x := by cases x <;> rfl
    have hstation (x : Stn) : x.code = station x := by cases x <;> rfl
    have hphase (x : TestPhase) : x.code = phase x := by cases x <;> rfl
    have hended (x : EndKind) : x.code = ended x := by cases x <;> rfl
    have habort (x : AbortCause) : x.code = abort x := by cases x <;> rfl
    have hcut (x : Interrupted) : x.code = cut x := by cases x <;> rfl
    have hrunEnd (x : RunEnd) : x.code = runEnd x := by cases x <;> rfl
    have hpassEnd (x : PassEnd) : x.code = passEnd x := by cases x <;> rfl
    have htest : testMarkFields = fun t => [.u8 (station t.stn), .u8 t.slot, .u8 (shape t.shape), .u32 t.start] := by
      funext t; simp only [testMarkFields, hstation, hshape]
    have hpass : passMarkFields = fun p => [.u8 (kind p.kind), .u8 p.port, .u32 p.start] := by
      funext p; simp only [passMarkFields, hkind]
    have hwinch : winchResultFields = fun w => [.u8 (runEnd w.reason), .i32 w.paid, .u16 w.peak] := by
      funext w; simp only [winchResultFields, hrunEnd]
    have hentry : passEntryFields = fun p =>
        [.u8 (kind p.kind), .u8 p.port, .u32 p.start] ++ time p.endTime ++ opt (p.volume.map fun v => [.u32 v]) ++
          word p.peakPressure ++ word p.peakFlow ++ [.u8 (passEnd p.reason)] := by
      funext p; simp only [passEntryFields, hopt, hkind, hpassEnd, time, word]
    refine ⟨fun c => ?_, fun d => ?_, fun e position => ?_, fun w passes => ?_, fun r => ?_, fun l first => ?_, ?_⟩
    · simp only [testFields, hopt, hbit, hcauses, hreasons, hshape, hphase, hended, habort, word]
      rcases c.decision with _ | _ | _ | _ <;> rfl
    · simp only [declFields, hopt, hitems, word, Option.map_map]
      rfl
    · simp only [progressFields, htest, hpass, hopt, hbit, hstage, hcut, time]
    · simp only [installationFields, hwinch, hentry, hopt, hitems]
    · simp only [resultFields, hopt, hbit, hstation, hshape, hended, habort, hreasons, time, word]
    · simp only [readingPage, hitems]
      rfl
    · intro r held closing
      have hheld : readingsOf r.result = held := by simp only [readingsOf, held]; cases r.result <;> rfl
      have hclosing (x : Stage) : closingCode x = closing x := by cases x <;> rfl
      simp only [summaryFields, hheld, hclosing, hopt, hbit, hcut, hended, hreasons]
end

section
namespace Sys2Proof.Machine

/-! ## The end of a step, the seat event and the end of a test -/

theorem CauseSet.isEmpty_iff (cs : CauseSet) : cs.isEmpty = true ↔ cs = .none := by
  obtain ⟨h, t, e, l, n⟩ := cs
  revert h t e l n
  decide

section
variable (s : State) (st : Stn)

@[simp] theorem State.stn_notice (k : NoticeKind) (o : Origin) (a : Option Nat) (d : Nat) (u : Stn) :
    (s.notice k o a d).stn u = s.stn u := by cases u <;> rfl

@[simp] theorem State.entry_setStn (x : Station) (id : Nat) : (s.setStn st x).entry id = s.entry id := by
  cases st <;> rfl

@[simp] theorem State.row_setStn (x : Station) (r : Nat) : (s.setStn st x).row r = s.row r := by cases st <;> rfl

/-- R29, R37: a station whose step has completed, its next step not yet begun. -/
def Station.stepDone (x : Station) (c : TestCtx) : Station :=
  { x with
    pump := { x.pump with cmd := 0 }, relCmd := false
    ctx := some { c with motion := none, step := c.step + 1, begun := false } }

/-- R37: the two ways a completed step goes on. -/
theorem State.completeStep_eq {s : State} {st : Stn} {c : TestCtx} (hc : (s.stn st).ctx = some c) :
    s.completeStep st =
      let t := (s.notice .stepDone st.origin (some c.anchor) c.step).setStn st ((s.stn st).stepDone c)
      if c.causes.isEmpty then t.beginStep st else t.hold st := by
  simp only [State.completeStep, hc, State.modStn, State.stn_notice]
  rfl

/-- R43: a station at its seat event. -/
def Station.seated (x : Station) (c : TestCtx) : Station :=
  { x with
    state := .seating, pump := { x.pump with cmd := 0 }, relCmd := false
    seat := some (x.seat.getD ⟨c.cap.seatTime, 0⟩)
    ctx := some { c with motion := none, phase := .seat, seatDone := true } }

/-- R43: the seat event of an anchor that is listed. -/
theorem State.seatEvent_eq {s : State} {st : Stn} {c : TestCtx} {e : Entry} (hc : (s.stn st).ctx = some c)
    (he : s.entry c.anchor = some e) :
    s.seatEvent st =
      let t := s.setStn st ((s.stn st).seated c)
      if e.counted then t
      else
        (t.modRow c.row fun r => { locked := r.locked + c.plo, reserved := r.reserved - c.pp }).modEntry c.anchor
          fun e => { e with counted := true } := by
  simp only [State.seatEvent, hc, State.modStn, State.entry_setStn, he]
  rfl

end
end Sys2Proof.Machine

open Sys2Proof Sys2Proof.Machine

/-- Settles O35: the completed step, the seat event, the test end and the stage table. -/
theorem stepSeatAndTestEnd : Obligations.StepSeatAndTestEnd := by
  unfold Obligations.StepSeatAndTestEnd
  intro st s c hc x next told
  refine ⟨fun hn => ?_, fun hn => ?_, ?_, ?_, ?_⟩
  · rw [State.completeStep_eq hc]
    exact if_pos (c.causes.isEmpty_iff.2 hn)
  · rw [State.completeStep_eq hc]
    exact if_neg fun h => hn (c.causes.isEmpty_iff.1 h)
  · intro e he seated
    rw [State.seatEvent_eq hc he]
    refine ⟨fun hcounted => if_pos hcounted, fun hcounted => ?_⟩
    simp only [hcounted, State.modEntry, State.modRow, State.row_setStn, State.setStn_reg, State.setStn_rows]
    rfl
  · intro d hd kind cause result causeCode ended row idle closed
    have hended : (fun e : Entry => e.testEnded c st d s.now) = ended := by
      funext e
      cases d <;> rfl
    have hdetail : detail2 d.endKind.code ((d.cause.map (·.code)).getD 0) =
        (match kind with | .passed => 1 | .failed => 2 | .aborted => 3) + 256 * causeCode := by
      rcases d with _ | _ | a
      · rfl
      · rfl
      · cases a <;> rfl
    simp only [State.endTest, hc, hd, Option.getD_some, hended, hdetail]
    by_cases hfull : c.shape = .full ∧ c.seatDone = false
    · have hrow : c.shape = .full ∧ (!c.seatDone) = true := by simpa using hfull
      simp only [if_pos hrow, closed, if_pos hfull]
      rfl
    · have hrow : ¬(c.shape = .full ∧ (!c.seatDone) = true) := by simpa using hfull
      simp only [if_neg hrow, closed, if_neg hfull]
      rfl
  · intro d seat shape prior
    cases d with
    | passed => rfl
    | failed _ => rfl
    | aborted _ => cases seat <;> cases shape <;> rfl
end

section
namespace Sys2Proof.Machine

/-! ## The scheduler (R146 to R148) -/

theorem State.queued_iff (s : State) (id : Nat) : s.queued id = true ↔ ∃ q ∈ s.grout.queue, q.anchor = id := by
  simp [State.queued]

theorem State.passActive_iff (s : State) (id : Nat) :
    s.passActive id = true ↔ ∃ p, s.grout.pass = some p ∧ p.anchor = id := by
  simp [State.passActive, Option.any_eq_true]

/-- R146: when an entry is due for its next post pass. -/
theorem State.postPassDue_iff (s : State) (e : Entry) :
    s.postPassDue e = true ↔
      e.stage = .grouted ∧ e.postDone < e.decl.passes ∧ (¬∃ q ∈ s.grout.queue, q.anchor = e.decl.id) ∧
        (¬∃ p, s.grout.pass = some p ∧ p.anchor = e.decl.id) ∧
        ∃ t, e.primaryEnd = some t ∧ t + (e.postDone + 1) * (e.decl.post.getD default).interval * 3600 ≤ s.site.clock := by
  simp only [State.postPassDue, Bool.and_eq_true, Bool.not_eq_true', ← Bool.not_eq_true, s.queued_iff, s.passActive_iff,
    Option.any_eq_true, beq_iff_eq, decide_eq_true_eq]
  tauto

section
variable {s : State} {w : List Nat} {id : Nat} {e : Entry}

theorem visitPost_not_due (he : s.entry id = some e) (h : ¬s.postPassDue e = true) : visitPost (s, w) id = (s, w) := by
  simp [visitPost, he, h]

theorem visitPost_no_port (he : s.entry id = some e) (h : s.postPassDue e = true) (hp : s.portOf id = none) :
    visitPost (s, w) id = (s.modEntry id fun x => { x with postDue := true }, w ++ [id]) := by
  simp [visitPost, he, h, hp]

theorem visitPost_full (he : s.entry id = some e) (h : s.postPassDue e = true) (hp : s.portOf id ≠ none)
    (hq : Config.groutPlaces ≤ s.grout.queue.length) : visitPost (s, w) id = (s, w ++ [id]) := by
  simp [visitPost, he, h, hp, hq]

theorem visitPost_joins (he : s.entry id = some e) (h : s.postPassDue e = true) (hp : s.portOf id ≠ none)
    (hq : s.grout.queue.length < Config.groutPlaces) :
    visitPost (s, w) id =
      (((s.joinQueue id .post).modEntry id fun x => { x with postDue := false }).arbiter, w) := by
  simp [visitPost, he, h, hp, Nat.not_le.2 hq]

end

/-! ## The latest stamp (R9) -/

/-- R9: a time is a stamp of an entry. -/
theorem Entry.mem_stamps_iff (e : Entry) (t : Nat) :
    t ∈ e.stamps ↔
      e.primaryEnd = some t ∨ (∃ m, e.test = some m ∧ m.start = t) ∨ (∃ p, e.pass = some p ∧ p.start = t) ∨
      (∃ p ∈ e.passes, p.start = t ∨ p.endTime = some t) ∨
      ∃ r, e.result = some r ∧ (r.start = t ∨ r.endTime = some t ∨ ∃ x ∈ r.readings, x.time = t) := by
  unfold Entry.stamps
  cases e.result <;>
    simp only [List.mem_append, List.mem_flatMap, List.mem_cons, List.mem_map, List.not_mem_nil, Option.mem_toList,
      Option.map_eq_some_iff, Option.some.injEq, exists_eq_left', reduceCtorEq, false_and, exists_false, or_false,
      or_assoc, eq_comm (a := t)]

/-- R9: the latest stamp of the register is the greatest of its stamps. -/
theorem State.latestStamp_eq_some_iff (s : State) (t : Nat) :
    s.latestStamp = some t ↔ (∃ e ∈ s.reg, t ∈ e.stamps) ∧ ∀ u, (∃ e ∈ s.reg, u ∈ e.stamps) → u ≤ t := by
  rw [State.latestStamp, List.max?_eq_some_iff]
  simp only [List.mem_flatMap]

end Sys2Proof.Machine

open Sys2Proof Sys2Proof.Machine

/-- Settles O59: the clock, the site minute, the scheduler's visits and the latest stamp, part by part. -/
theorem clockAndSiteMinute : Obligations.ClockAndSiteMinute := by
  unfold Obligations.ClockAndSiteMinute
  refine ⟨?_, ?_, ?_, ?_, ?_, ?_, ?_, ?_, ?_⟩
  · intro tag time s hs
    refine ⟨fun t ht hlt => ?_, fun h => ?_⟩
    · have hstamp : (s.taken (.setTime tag time)).latestStamp = some t := ht
      exact Refuses.of_actOf rfl hs (by simp [actOf, actSetTime, hstamp, hlt])
    · have hstamp : ((s.taken (.setTime tag time)).latestStamp.any fun t => decide (time < t)) = false := by
        show (s.latestStamp.any fun t => decide (time < t)) = false
        cases hl : s.latestStamp with
        | none => rfl
        | some t => simpa using h t hl
      refine Serves.of_actOf rfl hs ?_
      simp only [actOf, actSetTime, hstamp]
      rfl
  · intro s v
    refine ⟨fun h => ?_, fun h => ?_⟩
    · exact congrArg Host.Outcome.next (if_pos h)
    · exact congrArg Host.Outcome.next (if_neg (Nat.not_le.2 h))
  · intro s hrun
    refine ⟨fun h => ?_, fun h => ?_⟩
    · exact (State.event_running hrun _).trans (congrArg Host.Outcome.next (if_neg h))
    · exact (State.event_running hrun _).trans (congrArg Host.Outcome.next (if_pos h))
  · intro s zeroed
    refine ⟨fun h => ?_, fun hc hg => ?_⟩
    · rcases h with h | h <;> simp [State.siteMinute, zeroed, h]
    · simp [State.siteMinute, zeroed, hc, hg]
  · intro s ids visited
    rfl
  · intro s w e id he post queued active due
    have hdue : s.postPassDue e = true ↔ due := s.postPassDue_iff e
    rw [← hdue]
    exact ⟨visitPost_not_due he, visitPost_no_port he, visitPost_full he, visitPost_joins he⟩
  · intro s id
    refine ⟨fun he => by simp [visitCure, he], ?_⟩
    intro e he cured
    have hcured : (e.stage = .grouted ∧ !s.grout.cure.contains id ∧ e.postDone = e.decl.passes ∧ !s.queued id ∧
        !s.passActive id ∧ e.primaryEnd.any (fun t => decide (t + e.decl.cure * 3600 ≤ s.site.clock))) ↔ cured := by
      simp only [Bool.not_eq_true', ← Bool.not_eq_true, List.contains_iff_mem, s.queued_iff, s.passActive_iff,
        Option.any_eq_true, decide_eq_true_eq, not_exists, not_and]
      rfl
    refine ⟨fun h => ?_, fun h => ?_⟩
    · simp only [visitCure, he]
      exact if_neg fun hc => h (hcured.1 hc)
    · simp only [visitCure, he]
      exact if_pos (hcured.2 h)
  · intro s w v
    refine ⟨fun hw => ?_, fun id rest hw => ⟨fun h => ?_, fun h => ?_⟩⟩
    · subst hw; rfl
    · subst hw; exact if_pos h
    · subst hw; exact if_neg h
  · intro s stamp
    have hstamp (t : Nat) : stamp t ↔ ∃ e ∈ s.reg, t ∈ e.stamps := by
      simp only [stamp, Entry.mem_stamps_iff]
    refine ⟨?_, fun t => ?_⟩
    · simp only [hstamp, State.latestStamp, List.max?_eq_none_iff, List.eq_nil_iff_forall_not_mem, List.mem_flatMap]
    · simp only [hstamp, State.latestStamp_eq_some_iff]
end

section
namespace Sys2Proof.Machine

/-! ## The scan of the Archive (R174) -/

theorem slotsWf_bounds {l : List (Nat × Slot)} (h : slotsWf l = true) : ∀ p ∈ l, 1 ≤ p.1 ∧ p.1 ≤ Config.slotCount := by
  induction l with
  | nil => simp
  | cons q rest ih =>
    obtain ⟨h1, h2, -, hrest⟩ := (slotsWf_cons q.1 q.2 rest).1 h
    exact List.forall_mem_cons.2 ⟨⟨h1, h2⟩, ih hrest⟩

/-- The block states after the blocks of some slots are set FULL, one after the other. -/
def fillBlocks (l : List (Nat × Slot)) (blocks : List BlockState) : List BlockState :=
  l.foldl (fun bs p => bs.set (blockOf p.1 - 1) .full) blocks

theorem foldl_setBlock_eq (l : List (Nat × Slot)) (a : Archive) :
    l.foldl (fun a p => a.setBlock (blockOf p.1) .full) a = { a with blocks := fillBlocks l a.blocks } := by
  induction l generalizing a with
  | nil => rfl
  | cons p rest ih => rw [List.foldl_cons, ih]; rfl

theorem fillBlocks_length (l : List (Nat × Slot)) (blocks : List BlockState) :
    (fillBlocks l blocks).length = blocks.length := by
  induction l generalizing blocks with
  | nil => rfl
  | cons p rest ih => exact (ih _).trans (List.length_set ..)

theorem fillBlocks_getElem? (l : List (Nat × Slot)) {blocks : List BlockState} {k : Nat} (hk : k < blocks.length) :
    (fillBlocks l blocks)[k]? = if ∃ p ∈ l, blockOf p.1 - 1 = k then some .full else blocks[k]? := by
  induction l generalizing blocks with
  | nil => simp [fillBlocks]
  | cons p rest ih =>
    have hcons : fillBlocks (p :: rest) blocks = fillBlocks rest (blocks.set (blockOf p.1 - 1) .full) := rfl
    rw [hcons, ih (by rwa [List.length_set]), List.getElem?_set]
    simp only [List.exists_mem_cons_iff]
    by_cases hp : blockOf p.1 - 1 = k
    · simp [hp, hk]
    · simp only [hp, false_or, if_false]

/-- R174: whether a slot was being written. -/
def Slot.isWriting : Slot → Bool
  | .writing _ => true
  | _ => false

/-- R163, R174: the last slot of block `k + 1` is slot `128 * (k + 1)`. -/
theorem last_slot_iff {n : Nat} (k : Nat) (h1 : 1 ≤ n) :
    isLastSlot n = true ∧ blockOf n - 1 = k ↔ n = 128 * (k + 1) := by
  simp only [isLastSlot, blockOf, Config.blockSize, beq_iff_eq]
  omega

theorem Archive.scan_eq {a : Archive} (hw : slotsWf a.slots = true) (hb : a.blocks.length = 8) :
    a.scan =
      { a with
        slots := a.slots.map fun p => (p.1, p.2.scan)
        blocks := (List.range 8).map fun k =>
          if a.slots.any (fun p => p.1 == 128 * (k + 1) && p.2.isWriting) then .full else a.block (k + 1) } := by
  have hscan : a.scan =
      { a with
        slots := a.slots.map fun p => (p.1, p.2.scan)
        blocks := fillBlocks (a.slots.filter fun p => isLastSlot p.1 && p.2.isWriting) a.blocks } := by
    unfold Archive.scan
    dsimp only
    rw [foldl_setBlock_eq]
    rfl
  rw [hscan]
  congr 1
  refine List.ext_getElem? fun k => ?_
  by_cases hk : k < 8
  · have hmem : (∃ p ∈ a.slots.filter (fun p => isLastSlot p.1 && p.2.isWriting), blockOf p.1 - 1 = k) ↔
        a.slots.any (fun p => p.1 == 128 * (k + 1) && p.2.isWriting) = true := by
      simp only [List.mem_filter, Bool.and_eq_true, List.any_eq_true, beq_iff_eq]
      refine exists_congr fun p => ?_
      constructor
      · rintro ⟨⟨hp, hlast, hwriting⟩, hk⟩
        exact ⟨hp, (last_slot_iff k (slotsWf_bounds hw p hp).1).1 ⟨hlast, hk⟩, hwriting⟩
      · rintro ⟨hp, hn, hwriting⟩
        obtain ⟨hlast, hk⟩ := (last_slot_iff k (slotsWf_bounds hw p hp).1).2 hn
        exact ⟨⟨hp, hlast, hwriting⟩, hk⟩
    rw [fillBlocks_getElem? _ (hb.symm ▸ hk)]
    have hget : a.blocks[k]? = some (a.block (k + 1)) := by
      simp [Archive.block, List.getD_eq_getElem?_getD, List.getElem?_eq_getElem (hb.symm ▸ hk)]
    simp only [hmem, hget, List.getElem?_map, List.getElem?_range hk, Option.map_some]
    split <;> rfl
  · rw [List.getElem?_eq_none (by rw [fillBlocks_length]; omega), List.getElem?_eq_none (by simpa using hk)]

/-! ## The conversion of an entry (R20 to R22) -/

section
variable {e : Entry} {now : Option Nat}

theorem Entry.convert_at_rest (h1 : e.stage ≠ .stressing) (h2 : e.stage ≠ .closing) (h3 : e.pass = none) :
    e.convert now = e := by
  simp [Entry.convert, Entry.convertTest, Entry.convertPass, Entry.convertClose, h1, h2, h3]

/-- R20: an entry whose test was cut. -/
theorem Entry.convert_test (h1 : e.stage = .stressing) (h2 : e.pass = none) (h3 : e.prior ≠ some .closing) :
    e.convert now =
      { e with
        stage := if e.counted then .lockFault else e.prior.getD .grouted
        result := some ((e.test.getD default).cutResult e.counted)
        prior := none
        test := none
        interrupted := some .test } := by
  have hstage : (if e.counted then Stage.lockFault else e.prior.getD .grouted) ≠ .closing := by
    split
    · decide
    · cases hp : e.prior with
      | none => decide
      | some p => exact fun h => h3 (hp.trans (congrArg some h))
  simp only [Entry.convert, Entry.convertTest, if_pos h1, Entry.convertPass, h2, Entry.convertClose, if_neg hstage]

/-- R21: an entry whose pass was cut. -/
theorem Entry.convert_pass {p : PassMark} (hp : e.pass = some p) (h1 : e.stage ≠ .stressing) (h2 : e.stage ≠ .closing) :
    e.convert now =
      { e with
        passes := e.passes ++ [⟨p.kind, p.port, p.start, now, none, none, none, .interrupted⟩], pass := none
        interrupted := some .grout, stage := if p.kind = .primary then .placed else e.stage
        postDone := if p.kind = .post then e.postDone + 1 else e.postDone } := by
  have hstage : (if p.kind = .primary then Stage.placed else e.stage) ≠ .closing := by
    split
    · decide
    · exact h2
  simp only [Entry.convert, Entry.convertTest, if_neg h1, Entry.convertPass, hp, Entry.convertClose, if_neg hstage]

/-- R22: an entry whose close was cut. -/
theorem Entry.convert_close {k : Stage} (h1 : e.stage = .closing) (h2 : e.pass = none) (h3 : e.prior = some k) :
    e.convert now = { e with stage := k, prior := none, interrupted := some .close } := by
  simp [Entry.convert, Entry.convertTest, Entry.convertPass, Entry.convertClose, Entry.reopened, h1, h2, h3]

end
/-! ## Faults and notices outside running -/

/-- R106: outside running TRIP is not judged. -/
theorem State.judgeTrip_stopped {s : State} (h : s.phase ≠ .running) : s.judgeTrip = s := if_pos h

/-- R98 to R100: outside running a raise touches the detailed and the combined flags and the notices. -/
theorem State.raise_stopped {s : State} (h : s.phase ≠ .running) (f : Flag) :
    ∃ d c n, s.raise f = { s with faults := { s.faults with det := d, comb := c }, notices := n } := by
  unfold State.raise
  split
  · dsimp only
    split
    all_goals
      rw [State.judgeTrip_stopped (by exact h)]
      exact ⟨_, _, _, rfl⟩
  · exact ⟨_, _, _, rfl⟩

/-- R99, R197: CLOCK_LOST raised outside running, which hands no FAULT_RAISED notice. -/
theorem State.raise_clockLost_stopped {s : State} (h : s.phase ≠ .running) :
    s.raise .clockLost =
      { s with faults :=
        { s.faults with
          det := s.faults.det ||| BitVec.twoPow 20 19
          comb := if s.site.limits.combMask.getLsbD 19 then s.faults.comb
            else s.faults.comb ||| BitVec.twoPow 6 5 } } := by
  have hsilent : (!s.flag .clockLost && !Flag.clockLost.silent) = false := Bool.and_false _
  unfold State.raise
  rw [if_pos (show s.groupLive Flag.clockLost.group = true from rfl)]
  simp only [hsilent]
  exact State.judgeTrip_stopped h

/-- R176: a raise into a set that holds no notice of this kind and has room. -/
theorem NoticeUnit.raise_new {u : NoticeUnit} {k : NoticeKind} {o : Origin} {a : Option Nat} {d : Nat} {t : Option Nat}
    (hnew : u.entries.any (·.same k o) = false) (hroom : u.entries.length < Config.maxNotices) :
    u.raise k o a d t =
      { u with entries := u.entries ++ if u.level k = .off then [] else [⟨k, o, a, d, t, 0, false⟩] } := by
  unfold NoticeUnit.raise
  dsimp only
  split
  · simp
  · simp [hnew]

/-! ## The beginning of start-up (R199, R200) -/

/-- R104, R111, R197: the flags and the self-test records as start-up begins. -/
def Faults.started (f : Faults) (cause : ResetCause) (lost masked : Bool) : Faults :=
  let kept := if cause = .command then f
    else { f with det := 0#20, comb := 0#6, records := [none, none, none, none] }
  if lost then
    { kept with
      det := kept.det ||| BitVec.twoPow 20 19
      comb := if masked then kept.comb else kept.comb ||| BitVec.twoPow 6 5 }
  else kept

/-- R194, R197, R198: the site store as start-up begins. -/
def Site.started (x : Site) (cause : ResetCause) (lost : Bool) : Site :=
  { x with
    locked := x.locked && decide (cause = .command)
    tags := if cause = .power then [0, 0, 0, 0] else x.tags
    clock := if lost then 0 else x.clock
    clockValid := x.clockValid && !lost }

/-- R182: the notices as start-up begins. -/
def NoticeUnit.started (u : NoticeUnit) (cause : ResetCause) (now : Option Nat) (lost : Bool) : NoticeUnit :=
  { u with
    entries :=
      (if u.level .resetDone = .off then [] else [⟨.resetDone, .system, none, cause.code, now, 0, false⟩]) ++
      (if lost = true ∧ u.level .clockLost ≠ .off then [⟨.clockLost, .system, none, 0, none, 0, false⟩] else [])
    overflow := false }

/-- R182: RESET_DONE raised into the emptied set, and CLOCK_LOST after it. -/
theorem NoticeUnit.started_of_raises (u : NoticeUnit) (cause : ResetCause) (now : Option Nat) (lost : Bool) :
    (let v := { u with entries := [], overflow := false }.raise .resetDone .system none cause.code now
     if lost then v.raise .clockLost .system none 0 none else v) = u.started cause now lost := by
  have hfirst : { u with entries := [], overflow := false }.raise .resetDone .system none cause.code now =
      { u with
        entries := if u.level .resetDone = .off then [] else [⟨.resetDone, .system, none, cause.code, now, 0, false⟩]
        overflow := false } := by
    rw [NoticeUnit.raise_new rfl (by simp [Config.maxNotices])]
    rfl
  dsimp only
  rw [hfirst]
  cases lost with
  | false => simp [NoticeUnit.started]
  | true =>
    rw [if_pos rfl, NoticeUnit.raise_new (by dsimp only; split <;> rfl)
      (by dsimp only; split <;> simp [Config.maxNotices])]
    simp only [NoticeUnit.started, NoticeUnit.level, true_and, ite_not]
    rfl

/-- R104, R111, R194, R198: what the cause of the reset clears. -/
theorem State.clearByCause_eq (s : State) :
    s.clearByCause =
      { s with
        s1 := { s.s1 with passed := s.s1.passed && decide (s.resets.highest = .command) }
        s2 := { s.s2 with passed := s.s2.passed && decide (s.resets.highest = .command) }
        faults := s.faults.started s.resets.highest false false
        site := s.site.started s.resets.highest false } := by
  unfold State.clearByCause Faults.started Site.started
  by_cases hpower : s.resets.power = true
  · have hcause : s.resets.highest = .power := if_pos hpower
    simp [hcause, hpower]
  · by_cases hpin : s.resets.pin = true
    · have hcause : s.resets.highest = .pin := (if_neg hpower).trans (if_pos hpin)
      simp [hcause, hpower, hpin]
    · have hcause : s.resets.highest = .command := (if_neg hpower).trans (if_neg hpin)
      simp [hcause, hpower, hpin]

/-- R197: what a lost backup leaves, outside running. -/
theorem State.loseClock_stopped {s : State} (h : s.phase ≠ .running) :
    s.loseClock =
      { s with
        site := { s.site with clock := 0, clockValid := false }
        faults :=
          { s.faults with
            det := s.faults.det ||| BitVec.twoPow 20 19
            comb := if s.site.limits.combMask.getLsbD 19 then s.faults.comb
              else s.faults.comb ||| BitVec.twoPow 6 5 }
        notices := s.notices.raise .clockLost .system none 0 none } := by
  unfold State.loseClock
  dsimp only
  rw [State.raise_clockLost_stopped (by exact h)]
  rfl

/-- R199, R200: start-up as it begins, part by part. -/
theorem State.beginStartUp_eq (s : State) :
    s.beginStartUp =
      let cause := s.resets.highest
      let lost := s.resets.power && s.resets.backupLost
      { s with
        phase := .startUp
        resets := { s.resets with recorded := cause }
        reg := s.reg.map (Entry.convert (if lost then none else s.now))
        s1 := { s.s1 with passed := s.s1.passed && decide (cause = .command) }
        s2 := { s.s2 with passed := s.s2.passed && decide (cause = .command) }
        faults := s.faults.started cause lost (s.site.limits.combMask.getLsbD 19)
        archive := s.archive.scan
        notices := s.notices.started cause s.now lost
        site := s.site.started cause lost } := by
  unfold State.beginStartUp
  extract_lets gathered started cleared notices emptied told clocked cause lost
  have hcleared : cleared =
      { s with
        phase := .startUp
        resets := { s.resets with recorded := cause }
        s1 := { s.s1 with passed := s.s1.passed && decide (cause = .command) }
        s2 := { s.s2 with passed := s.s2.passed && decide (cause = .command) }
        faults := s.faults.started cause false false
        site := s.site.started cause false } := State.clearByCause_eq started
  have hnow : emptied.now = s.now := by simp [emptied, hcleared, State.now, Site.started]
  have htold : told =
      { cleared with
        notices := { s.notices with entries := [], overflow := false }.raise .resetDone .system none cause.code s.now } := by
    simp only [told, State.notice, hnow]
    simp only [emptied, notices, hcleared]
  have hlost : told.clockLost = lost := by rw [htold, hcleared]; rfl
  have hphase : told.phase ≠ .running := by simp [htold, hcleared]
  have hclocked : clocked =
      { cleared with
        faults := s.faults.started cause lost (s.site.limits.combMask.getLsbD 19)
        notices := s.notices.started cause s.now lost
        site := s.site.started cause lost } := by
    rw [← NoticeUnit.started_of_raises]
    simp only [clocked, hlost]
    cases lost with
    | false => rw [htold, hcleared]; rfl
    | true =>
      rw [if_pos rfl, State.loseClock_stopped hphase, htold, hcleared]
      simp [Faults.started, Site.started]
  have hclock : clocked.now = if lost then none else s.now := by
    rw [hclocked]
    cases lost <;> simp [State.now, Site.started]
  rw [hclock, hclocked, hcleared]

/-! ## The end of start-up (R174, R200) -/

theorem Archive.erasingBlock_eq_some_iff (a : Archive) (b : Nat) :
    a.erasingBlock = some b ↔
      (1 ≤ b ∧ b ≤ 8 ∧ a.block b = .erasing) ∧ ∀ c, 1 ≤ c ∧ c ≤ 8 ∧ a.block c = .erasing → b ≤ c := by
  have hlist : [1, 2, 3, 4, 5, 6, 7, 8] = List.range' 1 8 := rfl
  rw [Archive.erasingBlock, hlist, List.find?_range'_eq_some]
  simp only [beq_iff_eq, List.mem_range'_1, Bool.not_eq_true', beq_eq_false_iff_ne]
  constructor
  · rintro ⟨hb, ⟨h1, h8⟩, hj⟩
    exact ⟨⟨h1, by omega, hb⟩, fun c ⟨hc1, _, hc⟩ => Nat.le_of_not_lt fun hlt => hj c hc1 hlt hc⟩
  · rintro ⟨⟨h1, h8, hb⟩, hmin⟩
    exact ⟨hb, ⟨h1, by omega⟩, fun j hj1 hlt hj => absurd (hmin j ⟨hj1, by omega, hj⟩) (by omega)⟩

theorem Archive.erasingBlock_eq_none_iff (a : Archive) :
    a.erasingBlock = none ↔ ∀ b, ¬(1 ≤ b ∧ b ≤ 8 ∧ a.block b = .erasing) := by
  have hlist : [1, 2, 3, 4, 5, 6, 7, 8] = List.range' 1 8 := rfl
  rw [Archive.erasingBlock, hlist, List.find?_eq_none]
  simp only [List.mem_range'_1, beq_iff_eq]
  exact forall_congr' fun b => ⟨fun h ⟨h1, h8, hb⟩ => h ⟨h1, by omega⟩ hb, fun h ⟨h1, h8⟩ hb => h ⟨h1, by omega, hb⟩⟩

/-- R174: an erase run again outside running touches the Archive, the flags and the notices. -/
theorem State.finishErase_stopped {s : State} (h : s.phase ≠ .running) (ok : Bool) :
    ∃ a d c n, s.finishErase ok =
      { s with archive := a, faults := { s.faults with det := d, comb := c }, notices := n } := by
  unfold State.finishErase
  split
  · exact ⟨_, _, _, _, rfl⟩
  · dsimp only
    split
    · exact ⟨_, _, _, _, rfl⟩
    · next b _ _ =>
      obtain ⟨d, c, n, hr⟩ := State.raise_stopped (s := { s with archive := s.archive.endErase b ok }) h .archiveWrite
      exact ⟨_, d, c, n, hr⟩

/-- R113: the lines read as levels. -/
theorem State.readLines_eq (s : State) :
    s.readLines =
      if s.estopHigh = true ∧ s.wallTripHigh = true then s
      else
        State.notice { s with faults := { s.faults with emergency := ⟨true, !s.estopHigh, !s.wallTripHigh, s.now⟩ } }
          .emergency .system none
          (if s.estopHigh then 2 else if s.wallTripHigh then 1 else Config.bothLinesDetail.toNat) := by
  unfold State.readLines
  cases s.estopHigh <;> cases s.wallTripHigh <;> rfl

/-- R113: the lines touch the emergency state and the notices, and set it where one is LOW. -/
theorem State.readLines_shape (s : State) :
    ∃ e n, s.readLines = { s with faults := { s.faults with emergency := e }, notices := n } ∧
      (e.set = true ↔ s.estopHigh = false ∨ s.wallTripHigh = false ∨ s.faults.emergency.set = true) := by
  rw [s.readLines_eq]
  split
  · next h => exact ⟨s.faults.emergency, s.notices, rfl, by simp [h]⟩
  · next h =>
    refine ⟨⟨true, !s.estopHigh, !s.wallTripHigh, s.now⟩, _, rfl, ?_⟩
    cases he : s.estopHigh <;> cases hw : s.wallTripHigh <;> simp_all

/-- R173: ARCHIVE_FULL handed where the next slot is not ERASED. -/
def State.ringJudged (s : State) : State :=
  if s.archive.isFull then s.notice .archiveFull .archive none (blockOf s.archive.nextSlot) else s

theorem State.ringJudged_shape (s : State) : ∃ n, s.ringJudged = { s with notices := n } := by
  unfold State.ringJudged
  split <;> exact ⟨_, rfl⟩

/-- R200 step 5: what follows the erase at the end of start-up. -/
def State.runAgain (s : State) : State :=
  { s with
    phase := .running
    resets := { s.resets with power := false, pin := false, command := false, backupLost := false }
    faults := { s.faults with trip := s.tripJudged }
    link := { Link.rest with watch := s.watchFromSettings } }

theorem State.endStartUp_eq (s : State) (ok : Bool) :
    s.endStartUp ok = (s.finishErase ok).readLines.ringJudged.runAgain := rfl

theorem State.exec_startUpEnd {s : State} (h : s.phase = .startUp) (ok : Bool) :
    exec (.startUpEnd ok) s = .next (s.finishErase ok).readLines.ringJudged.runAgain :=
  congrArg Host.Outcome.next (if_pos h)

/-- R200: what the end of start-up leaves. -/
theorem State.endStartUp_shape {s : State} (h : s.phase ≠ .running) (ok : Bool) :
    ∃ a d c e n, (s.finishErase ok).readLines.ringJudged =
        { s with archive := a, faults := { s.faults with det := d, comb := c, emergency := e }, notices := n } ∧
      (e.set = true ↔ s.estopHigh = false ∨ s.wallTripHigh = false ∨ s.faults.emergency.set = true) := by
  obtain ⟨a, d, c, n, h1⟩ := State.finishErase_stopped h ok
  obtain ⟨e, m, h2, hset⟩ := (s.finishErase ok).readLines_shape
  obtain ⟨l, h3⟩ := (s.finishErase ok).readLines.ringJudged_shape
  rw [h1] at h2 hset
  exact ⟨a, d, c, e, l, by rw [h3, h1, h2], hset⟩

end Sys2Proof.Machine
end

section
namespace Sys2Proof.Machine

/-- R199: the supply or RESET# being LOW holds the part in reset. -/
theorem State.leaveReset_held {s : State} (h : s.resets.pinLow = true ∨ s.resets.supplyLow = true) :
    s.leaveReset = { s with phase := .inReset } :=
  if_pos (Bool.or_eq_true _ _ ▸ h)

theorem State.leaveReset_free {s : State} (hpin : s.resets.pinLow = false) (hsupply : s.resets.supplyLow = false) :
    s.leaveReset = s.beginStartUp :=
  if_neg (by simp [hpin, hsupply])

/-! ## What the cause of a reset clears (R104, R111, R194, R197, R198) -/

/-- R197: the backup is judged only after a power reset. -/
theorem Resets.lost_eq_false {r : Resets} (h : r.highest ≠ .power) : (r.power && r.backupLost) = false :=
  Bool.and_eq_false_imp.2 fun hpower => absurd (if_pos hpower) h

section
variable (f : Faults) (x : Site) (lost masked : Bool)

theorem Faults.started_command : f.started .command false masked = f := rfl

theorem Faults.started_pin :
    f.started .pin false masked = { f with det := 0#20, comb := 0#6, records := [none, none, none, none] } := rfl

theorem Faults.started_power :
    f.started .power lost masked =
      { f with
        det := if lost then BitVec.twoPow 20 19 else 0#20
        comb := if lost = true ∧ masked = false then 0x20#6 else 0#6
        records := [none, none, none, none] } := by
  cases lost with
  | false => simp [Faults.started]
  | true => cases masked <;> simp [Faults.started, BitVec.twoPow]

/-- R199: neither TRIP nor the emergency is a matter of the cause. -/
theorem Faults.started_kept (cause : ResetCause) :
    (f.started cause lost masked).trip = f.trip ∧ (f.started cause lost masked).emergency = f.emergency := by
  cases cause <;> cases lost <;> exact ⟨rfl, rfl⟩

theorem Site.started_command : x.started .command false = x := by simp [Site.started]

theorem Site.started_pin : x.started .pin false = { x with locked := false } := by simp [Site.started]

theorem Site.started_power :
    x.started .power lost =
      { x with
        locked := false, tags := [0, 0, 0, 0], clock := if lost then 0 else x.clock
        clockValid := if lost then false else x.clockValid } := by
  cases lost <;> simp [Site.started]

/-- R197: CLOCK_LOST is the one flag a power reset leaves, and only with a lost backup. -/
theorem Flag.clockLost_alone {f : Flag} (hf : f ∈ Flag.all) :
    (if lost then BitVec.twoPow 20 19 else 0#20).getLsbD f.bit = decide (f = .clockLost ∧ lost = true) := by
  revert f
  cases lost <;> decide

end

end Sys2Proof.Machine

open Sys2Proof Sys2Proof.Machine

/-- Settles O60: the resets, start-up and the conversion, part by part. -/
theorem resetsCutConvertAndRestart : Obligations.ResetsCutConvertAndRestart := by
  unfold Obligations.ResetsCutConvertAndRestart
  refine ⟨?_, ?_, ?_, ?_, ?_, ?_, ?_, ?_, ?_, ?_, ?_, ?_⟩
  · intro s up lost r
    refine congrArg Host.Outcome.next ?_
    split
    · next h => exact State.leaveReset_held (h.symm.imp id fun hup => by simp [hup])
    · next h =>
      rw [not_or, Bool.not_eq_false, Bool.not_eq_true] at h
      exact State.leaveReset_free h.2 (by simp [h.1])
  · intro s
    exact congrArg Host.Outcome.next (State.leaveReset_held (.inl rfl))
  · intro s t
    refine ⟨fun h => ?_, fun h hlow => ?_, fun h hup => ?_⟩
    · exact congrArg Host.Outcome.next (if_neg h)
    · have hheld : t.leaveReset = { t with phase := .inReset } := State.leaveReset_held (.inr hlow)
      refine congrArg Host.Outcome.next ((if_pos h).trans (hheld.trans ?_))
      simp only [t, h]
    · exact congrArg Host.Outcome.next ((if_pos h).trans (State.leaveReset_free rfl hup))
  · intro tag s hs
    exact Serves.of_actOf rfl hs rfl
  · intro s hpin hsupply
    exact State.leaveReset_free hpin hsupply
  · intro s h
    exact State.leaveReset_held h
  · intro a hw hb writing
    exact Archive.scan_eq hw hb
  · intro s t
    refine ⟨fun st => ?_, ?_⟩
    · cases st <;> exact ⟨rfl, rfl, rfl, rfl, rfl, rfl, rfl, rfl, rfl, rfl, rfl, rfl, rfl, rfl, rfl⟩
    · have hvalves : ∀ v ∈ t.grout.valves, v.state = .closed := fun v hv => by rw [List.eq_of_mem_replicate hv]; rfl
      exact ⟨⟨rfl, rfl, rfl, rfl, rfl, rfl, rfl, rfl⟩, ⟨rfl, rfl, rfl, rfl, rfl, rfl⟩, ⟨rfl, rfl, rfl, rfl, rfl⟩,
        ⟨rfl, rfl, rfl⟩, ⟨rfl, rfl, rfl, rfl, rfl, rfl, rfl⟩,
        ⟨rfl, rfl, rfl, rfl, rfl, rfl, rfl, rfl, rfl, hvalves⟩, ⟨rfl, rfl, rfl, rfl⟩,
        ⟨rfl, rfl, rfl, rfl, rfl, rfl, rfl, rfl, rfl, rfl, rfl⟩⟩
  · intro s t cause clockLost now
    have ht : t = _ := s.beginStartUp_eq
    have hcause : s.resets.highest = cause := rfl
    have hlost : clockLost ↔ (s.resets.power && s.resets.backupLost) = true := (Bool.and_eq_true_iff ..).symm
    have hnow : now = if s.resets.power && s.resets.backupLost then none else s.now := if_congr hlost rfl rfl
    have hnever (h : cause ≠ .power) : (s.resets.power && s.resets.backupLost) = false := Resets.lost_eq_false h
    rw [ht, hnow]
    obtain ⟨htrip, hemergency⟩ := s.faults.started_kept (s.resets.power && s.resets.backupLost)
      (s.site.limits.combMask.getLsbD 19) cause
    refine ⟨rfl, rfl, ⟨rfl, rfl, rfl, rfl, rfl, rfl, rfl, htrip, hemergency, rfl, rfl, rfl, rfl⟩, rfl, rfl, rfl, rfl,
      fun h => ?_, fun h => ?_, fun h => ?_, ?_, rfl⟩
    · simp only [hcause, h, hnever (by simp [h]), Faults.started_command, Site.started_command, decide_true, Bool.and_true,
        and_self]
    · simp only [hcause, h, hnever (by simp [h]), Faults.started_pin, Site.started_pin, reduceCtorEq, decide_false, Bool.and_false,
        and_self]
    · simp only [hcause, hlost, h, Faults.started_power, Site.started_power, reduceCtorEq, decide_false, Bool.and_false, true_and,
        and_true]
      exact fun f hf => Flag.clockLost_alone _ hf
    · simp only [hcause, hlost]
      cases cause <;> rfl
  · intro s ok
    refine ⟨fun h => congrArg Host.Outcome.next (if_neg h), fun h => ⟨_, State.exec_startUpEnd h ok, ?_⟩⟩
    obtain ⟨a, d, c, e, n, hshape, hset⟩ := State.endStartUp_shape (s := s) (by simp [h]) ok
    rw [hshape]
    exact ⟨rfl, rfl, rfl, rfl, rfl, rfl, rfl, rfl, rfl, hset, rfl, rfl, rfl, rfl, rfl, rfl, rfl, rfl, rfl, rfl⟩
  · intro s h erasing linesRead ringJudged up
    have hlines (u : State) : linesRead u = u.readLines := u.readLines_eq.symm
    have hring (u : State) : ringJudged u = u.ringJudged := by
      simp only [ringJudged, State.ringJudged, Archive.isFull, Option.isSome_iff_ne_none]
      rfl
    have hup (u : State) (hr : u.resets = s.resets) (hs : u.site = s.site) :
        u.readLines.ringJudged.runAgain = up u := by
      have hjudged : ∃ f n, u.readLines.ringJudged = { u with faults := f, notices := n } := by
        obtain ⟨e, n, h1, -⟩ := u.readLines_shape
        obtain ⟨m, h2⟩ := u.readLines.ringJudged_shape
        exact ⟨_, m, by rw [h2, h1]⟩
      obtain ⟨f, n, hj⟩ := hjudged
      simp only [up, hlines, hring, State.runAgain]
      rw [hj]
      simp only [hr, hs, State.watchFromSettings, State.tripJudged]
    constructor
    · intro hnone ok
      have herase : s.finishErase ok = s := by
        simp only [State.finishErase, s.archive.erasingBlock_eq_none_iff.2 hnone]
      rw [State.exec_startUpEnd h, herase, hup s rfl rfl]
    · intro b hb hmin
      have hblock : s.archive.erasingBlock = some b := s.archive.erasingBlock_eq_some_iff b |>.2 ⟨hb, hmin⟩
      constructor
      · have herase : s.finishErase true = { s with archive := s.archive.endErase b true } := by
          simp only [State.finishErase, hblock, if_true]
        rw [State.exec_startUpEnd h, herase, hup { s with archive := s.archive.endErase b true } rfl rfl]
        rfl
      · have herase : s.finishErase false = State.raise { s with archive := s.archive.endErase b false } .archiveWrite := by
          simp only [State.finishErase, hblock, Bool.false_eq_true, if_false]
        obtain ⟨d, c, n, hraise⟩ :=
          State.raise_stopped (s := { s with archive := s.archive.endErase b false }) (by simp [h]) .archiveWrite
        rw [State.exec_startUpEnd h, herase, hup (State.raise { s with archive := s.archive.endErase b false } .archiveWrite)
            (by rw [hraise]) (by rw [hraise])]
        rfl
  · intro now e c
    refine ⟨Entry.convert_at_rest, fun h1 h2 h3 => ?_, fun p hp h1 h2 => Entry.convert_pass hp h1 h2,
      fun k h1 h2 h3 => Entry.convert_close h1 h2 h3⟩
    have hc : c = _ := Entry.convert_test h1 h2 h3
    rw [hc]
    refine ⟨rfl, rfl, rfl, rfl, rfl, rfl, rfl, ⟨_, rfl, rfl, rfl, rfl, rfl⟩, fun m hm => ?_⟩
    simp only [hm, Option.getD_some, TestMark.cutResult]
    cases m.shape <;> rfl
end

section
namespace Sys2Proof.Machine

/-! ## Sizes and counts, part by part

The two invariants of the sizes and of the counts are carried through each operation together: `sz` says that the sizes
are asked for, `ct` that the counts are. -/

/-- R78, R80, R94: a stressing station with a guard for each point, its counts and windows in their ranges. -/
def Station.Fits (sz ct : Prop) (x : Station) : Prop := (sz → x.nbr.length = Config.pointCount) ∧ (ct → x.countsSound)

/-- R78, R83, R94: the counts and the window of the winch. -/
def Winch.Fits (ct : Prop) (w : Winch) : Prop :=
  ct → -Config.drumEnd ≤ w.drum ∧ w.drum ≤ Config.drumEnd ∧ w.tension.win.length ≤ Config.windowSize ∧ w.jam.sound ∧
    w.slack.sound

/-- R84, R85, R128, R131: the tables, the queue, the counts and the window of the manifold. -/
def Grout.Fits (sz ct : Prop) (g : Grout) : Prop :=
  (sz → g.ports.length = 6 ∧ g.valves.length = 6 ∧ g.queue.length ≤ Config.groutPlaces) ∧
  (ct → g.flow.stray ≤ Config.strayEnd ∧ g.pressure.win.length ≤ Config.windowSize ∧ g.refusal.sound ∧ g.overp.sound ∧
    ((g.pass.map (·.volume)).getD 0) ≤ Config.volumeEnd)

/-- R151, R155: the monitor points and their tilt guards. -/
def Wall.Fits (sz ct : Prop) (w : Wall) : Prop :=
  (sz → w.points.length = Config.pointCount ∧ w.tilt.length = Config.pointCount) ∧ (ct → ∀ g ∈ w.tilt, g.sound)

/-- The tables outside the stations and the Wall Watch, and the input queue. -/
def State.TablesFit (s : State) : Prop :=
  s.plans.length = Config.planSlots ∧ s.fe.cals.length = 20 ∧ s.fe.scan.length = Config.pointCount ∧
  s.rows.length = 8 ∧ s.site.limits.ceilings.length = 8 ∧ s.notices.levels.length = 16 ∧ s.site.tags.length = 4 ∧
  s.faults.records.length = 4 ∧ s.link.queue.length ≤ Config.inputFrames

/-- All that the two invariants ask. -/
def State.Fits (sz ct : Prop) (s : State) : Prop :=
  s.s1.Fits sz ct ∧ s.s2.Fits sz ct ∧ s.winch.Fits ct ∧ s.grout.Fits sz ct ∧ s.wall.Fits sz ct ∧ (sz → s.TablesFit)

theorem State.fits_sizes_iff (s : State) : s.Fits True False ↔ s.sizesSound := by
  simp only [State.Fits, Station.Fits, Winch.Fits, Grout.Fits, Wall.Fits, State.TablesFit, true_imp_iff, false_imp_iff,
    and_true]
  tauto

theorem State.fits_counts_iff (s : State) : s.Fits False True ↔ s.countsSound := by
  simp only [State.Fits, Station.Fits, Winch.Fits, Grout.Fits, Wall.Fits, true_imp_iff, false_imp_iff, and_true, true_and,
    State.countsSound]

section
variable {sz ct : Prop}

/-! ## One part replaced -/

theorem State.Fits.withStn {s : State} {st : Stn} {x : Station} (h : s.Fits sz ct) (hx : x.Fits sz ct) :
    (s.setStn st x).Fits sz ct := by
  obtain ⟨h1, h2, hrest⟩ := h
  cases st
  · exact ⟨hx, h2, hrest⟩
  · exact ⟨h1, hx, hrest⟩

theorem State.Fits.stn {s : State} (h : s.Fits sz ct) (st : Stn) : (s.stn st).Fits sz ct := by
  obtain ⟨h1, h2, -⟩ := h
  cases st
  · exact h1
  · exact h2

theorem State.Fits.onStn {s : State} {st : Stn} {f : Station → Station} (h : s.Fits sz ct)
    (hf : (s.stn st).Fits sz ct → (f (s.stn st)).Fits sz ct) : (s.modStn st f).Fits sz ct :=
  h.withStn (hf (h.stn st))

theorem State.Fits.onCtx {s : State} {st : Stn} {f : TestCtx → TestCtx} (h : s.Fits sz ct) :
    (s.modCtx st f).Fits sz ct := h.onStn id

theorem State.Fits.withWinch {s : State} {w : Winch} (h : s.Fits sz ct) (hw : w.Fits ct) :
    ({ s with winch := w } : State).Fits sz ct := by
  obtain ⟨h1, h2, -, hrest⟩ := h
  exact ⟨h1, h2, hw, hrest⟩

theorem State.Fits.winchFits {s : State} (h : s.Fits sz ct) : s.winch.Fits ct := by
  obtain ⟨-, -, hw, -⟩ := h
  exact hw

theorem State.Fits.withGrout {s : State} {g : Grout} (h : s.Fits sz ct) (hg : g.Fits sz ct) :
    ({ s with grout := g } : State).Fits sz ct := by
  obtain ⟨h1, h2, hw, -, hrest⟩ := h
  exact ⟨h1, h2, hw, hg, hrest⟩

theorem State.Fits.groutFits {s : State} (h : s.Fits sz ct) : s.grout.Fits sz ct := by
  obtain ⟨-, -, -, hg, -⟩ := h
  exact hg

theorem State.Fits.withWall {s : State} {w : Wall} (h : s.Fits sz ct) (hw : w.Fits sz ct) :
    ({ s with wall := w } : State).Fits sz ct := by
  obtain ⟨h1, h2, hwin, hg, -, ht⟩ := h
  exact ⟨h1, h2, hwin, hg, hw, ht⟩

theorem State.Fits.wallFits {s : State} (h : s.Fits sz ct) : s.wall.Fits sz ct := by
  obtain ⟨-, -, -, -, hw, -⟩ := h
  exact hw

/-- The stations, the winch, the manifold and the Wall Watch as they were, the other tables changed. -/
theorem State.Fits.withTables {s t : State} (h : s.Fits sz ct) (ht : s.TablesFit → t.TablesFit)
    (h1 : t.s1 = s.s1 := by rfl) (h2 : t.s2 = s.s2 := by rfl) (hw : t.winch = s.winch := by rfl)
      (hg : t.grout = s.grout := by rfl) (hl : t.wall = s.wall := by rfl) : t.Fits sz ct := by
  obtain ⟨g1, g2, gw, gg, gl, gt⟩ := h
  unfold State.Fits
  rw [h1, h2, hw, hg, hl]
  exact ⟨g1, g2, gw, gg, gl, fun z => ht (gt z)⟩

/-! ## Guards and encoders -/

theorem Guard.zero_sound (g : Guard) : g.zero.sound := Nat.zero_le _

theorem Guard.rest_sound : Guard.rest.sound := Nat.zero_le _

theorem Channel.sample_length (c : Channel) (cal : Cal) (code : Nat) (h : c.win.length ≤ Config.windowSize) :
    (c.sample cal code).win.length ≤ Config.windowSize := by
  unfold Channel.sample
  split
  · exact pushWindow_length _ _ h
  · exact h

theorem zeroAt_length (l : List Guard) (n : Nat) : (zeroAt l n).length = l.length := List.length_modify _ _ _

theorem zeroAt_sound {l : List Guard} (h : ∀ g ∈ l, g.sound) (n : Nat) : ∀ g ∈ zeroAt l n, g.sound := by
  intro g hg
  obtain ⟨i, hi, rfl⟩ := List.getElem_of_mem hg
  simp only [zeroAt, List.getElem_modify]
  split
  · exact Guard.zero_sound _
  · exact h _ (List.getElem_mem _)

theorem scanGuard_sound (g : Guard) (threshold n : Nat) (r : PointReading) (out : Int → Bool) :
    (scanGuard g threshold n r out).1.sound := by
  unfold scanGuard
  split
  · exact Guard.eval_sound _ _ _ _ _
  · exact Guard.zero_sound _

theorem State.tiltAt_sound (s : State) (i : Nat) : (s.tiltAt i).1.sound := by
  unfold State.tiltAt
  dsimp only
  split
  · exact scanGuard_sound _ _ _ _ _
  · exact Guard.zero_sound _

theorem State.riseAt_sound (s : State) (x : Station) (i : Nat) : (s.riseAt x i).1.sound := by
  unfold State.riseAt
  dsimp only
  split
  · exact Guard.zero_sound _
  · split
    · exact Guard.zero_sound _
    · exact scanGuard_sound _ _ _ _ _

/-! ## A stressing station -/

section
variable {x : Station}

/-- R57, R82: the displacement zeroed. -/
theorem Station.Fits.zeroEnc (h : x.Fits sz ct) : ({ x with enc := x.enc.zero } : Station).Fits sz ct := by
  obtain ⟨hn, hc⟩ := h
  refine ⟨hn, fun k => ?_⟩
  obtain ⟨-, -, hload, -, hovl, hnbr⟩ := hc k
  exact ⟨(by decide : (-30000 : Int) ≤ 0), (by decide : (0 : Int) ≤ 30000), hload,
    (by decide : 1 ≤ Config.windowSize), hovl, hnbr⟩

theorem Station.Fits.withOvl {g : Guard} (h : x.Fits sz ct) (hg : g.sound) :
    ({ x with ovl := g } : Station).Fits sz ct := by
  obtain ⟨hn, hc⟩ := h
  refine ⟨hn, fun k => ?_⟩
  obtain ⟨hlo, hhi, hload, henc, -, hnbr⟩ := hc k
  exact ⟨hlo, hhi, hload, henc, hg, hnbr⟩

theorem Station.Fits.withNbr {l : List Guard} (h : x.Fits sz ct)
    (hl : x.nbr.length = Config.pointCount → l.length = Config.pointCount)
      (hg : (∀ g ∈ x.nbr, g.sound) → ∀ g ∈ l, g.sound) : ({ x with nbr := l } : Station).Fits sz ct := by
  obtain ⟨hn, hc⟩ := h
  refine ⟨fun z => hl (hn z), fun k => ?_⟩
  obtain ⟨hlo, hhi, hload, henc, hovl, hnbr⟩ := hc k
  exact ⟨hlo, hhi, hload, henc, hovl, hg hnbr⟩

theorem Station.Fits.zeroNbr (h : x.Fits sz ct) : ({ x with nbr := x.nbr.map Guard.zero } : Station).Fits sz ct :=
  h.withNbr (fun z => by simpa using z) fun _ g hg => by
    obtain ⟨g', -, rfl⟩ := List.mem_map.1 hg
    exact g'.zero_sound

theorem Station.Fits.move {k : MotionKind} (h : x.Fits sz ct) : (x.move k).Fits sz ct := by
  unfold Station.move
  split
  · exact h
  · exact h

theorem Station.Fits.startRelease {t : StnState} (h : x.Fits sz ct) : (x.startRelease t).Fits sz ct := h.move

theorem Station.Fits.startRamp {target : Nat} (h : x.Fits sz ct) : (x.startRamp target).Fits sz ct := h.move

theorem Station.Fits.startSeek (h : x.Fits sz ct) : x.startSeek.Fits sz ct := h.zeroEnc.move

theorem Station.Fits.beginLiftoff (h : x.Fits sz ct) : x.beginLiftoff.Fits sz ct := by
  unfold Station.beginLiftoff
  split
  · exact h
  · split
    · exact h.startSeek
    · exact h.startRelease

theorem Station.Fits.wholeSecond (h : x.Fits sz ct) : x.wholeSecond.Fits sz ct := by
  unfold Station.wholeSecond
  split
  · exact h
  · split
    · exact h
    · dsimp only
      split
      · exact h
      · exact h

theorem Station.Fits.goOn {c : TestCtx} {m : Motion} (h : x.Fits sz ct) : (x.goOn c m).Fits sz ct := by
  unfold Station.goOn
  dsimp only
  split
  · exact Station.Fits.wholeSecond h
  · exact h

theorem Station.Fits.take {d : Decision} (h : x.Fits sz ct) : (x.take d).Fits sz ct := by
  unfold Station.take
  dsimp only
  split
  any_goals exact h
  all_goals exact Station.Fits.startRelease h

theorem Station.Fits.enterStep {again : Bool} (h : x.Fits sz ct) : (x.enterStep again).Fits sz ct := by
  unfold Station.enterStep
  split
  · exact h
  · split
    · exact h
    · split
      any_goals exact h.startRamp
      · exact Station.Fits.startRamp h
      · exact Station.Fits.startRamp h
      · exact Station.Fits.beginLiftoff h

theorem Station.Fits.judgeLift {c : TestCtx} {load : Option Nat} (h : x.Fits sz ct) :
    (x.judgeLift c load).Fits sz ct :=
  Station.Fits.take h

theorem Station.Fits.keepBand (h : x.Fits sz ct) : x.keepBand.Fits sz ct := by
  unfold Station.keepBand
  split
  · exact h
  · next c _ =>
    extract_lets load judge
    have hjudge {y : Station} (hy : y.Fits sz ct) : (judge y).Fits sz ct := by
      simp only [judge]
      split
      · split
        · exact hy.take
        · exact Station.Fits.move hy
      · split
        · exact hy.move
        · exact hy
    split
    · extract_lets ended
      by_cases he : ended = true
      · rw [if_pos he]; exact hjudge (y := x.stop) h
      · rw [if_neg he]; exact h.goOn
    · exact hjudge h

theorem Station.Fits.seekSample {c : TestCtx} {m : Motion} (h : x.Fits sz ct) : (x.seekSample c m).Fits sz ct := by
  unfold Station.seekSample
  split
  · exact h.judgeLift
  · split
    · exact h.judgeLift
    · split
      · exact h.take
      · exact h.goOn

theorem Station.Fits.pulseEnd (h : x.Fits sz ct) : x.pulseEnd.Fits sz ct := by
  unfold Station.pulseEnd
  dsimp only
  split
  · split
    · exact Station.Fits.startRelease h
    · exact h
  · exact h

theorem Station.Fits.overload (h : x.Fits sz ct) : x.overload.Fits sz ct := by
  unfold Station.overload
  split <;> exact h

/-- R78, R80: what a sample publishes. -/
theorem Station.Fits.publish {cal : Cal} {code : Nat} (h : x.Fits sz ct) : (x.publish cal code).Fits sz ct := by
  obtain ⟨hn, hc⟩ := h
  refine ⟨hn, fun k => ?_⟩
  obtain ⟨hlo, hhi, hload, henc, hovl, hnbr⟩ := hc k
  exact ⟨hlo, hhi, Channel.sample_length _ _ _ hload, pushWindow_length _ _ henc, hovl, hnbr⟩

/-- R93: a station disabled. -/
theorem Station.Fits.disable (h : x.Fits sz ct) : x.disable.Fits sz ct := by
  refine ⟨fun z => ?_, fun k => ⟨(by decide : (-30000 : Int) ≤ 0), (by decide : (0 : Int) ≤ 30000),
    Nat.zero_le _, Nat.zero_le _, Nat.zero_le _, ?_⟩⟩
  · obtain ⟨hn, -⟩ := h.zeroNbr
    exact hn z
  · obtain ⟨-, hc⟩ := h.zeroNbr
    obtain ⟨-, -, -, -, -, hnbr⟩ := hc k
    exact hnbr

/-- R157: the neighbour-rise guards after a completed scan. -/
theorem Station.Fits.riseScan {s : State} {y : Station} (h : x.Fits sz ct) :
    ({ x with nbr := ((List.range Config.pointCount).map (s.riseAt y)).map (·.1) } : Station).Fits sz ct :=
  h.withNbr (fun _ => by simp) fun _ g hg => by
    simp only [List.map_map, List.mem_map, Function.comp] at hg
    obtain ⟨i, -, rfl⟩ := hg
    exact s.riseAt_sound y i

end

theorem Station.cut_fits (x : Station) : x.cut.Fits sz ct := by
  refine ⟨fun _ => rfl, fun _ => ⟨(by decide : (-30000 : Int) ≤ 0), (by decide : (0 : Int) ≤ 30000),
    Nat.zero_le _, Nat.zero_le _, Nat.zero_le _, ?_⟩⟩
  intro g hg
  rw [List.eq_of_mem_replicate hg]
  exact Guard.rest_sound

end
end Sys2Proof.Machine
end

section
namespace Sys2Proof.Machine

/-! ## The manifold -/

section
variable {sz ct : Prop}

section
variable {g : Grout}

theorem Grout.Fits.judgeFlow (h : g.Fits sz ct) : g.judgeFlow.Fits sz ct := by
  unfold Grout.judgeFlow
  split
  · exact h
  · exact h

theorem Grout.Fits.modValve {port : Nat} {f : Valve → Valve} (h : g.Fits sz ct) : (g.modValve port f).Fits sz ct := by
  obtain ⟨hs, hc⟩ := h
  refine ⟨fun z => ?_, hc⟩
  obtain ⟨hports, hvalves, hqueue⟩ := hs z
  exact ⟨hports, by simpa [Grout.modValve] using hvalves, hqueue⟩

theorem Grout.Fits.closeValves (h : g.Fits sz ct) :
    ({ g with valves := g.valves.map Valve.closeCmd } : Grout).Fits sz ct := by
  obtain ⟨hs, hc⟩ := h
  refine ⟨fun z => ?_, hc⟩
  obtain ⟨hports, hvalves, hqueue⟩ := hs z
  exact ⟨hports, by simpa using hvalves, hqueue⟩

theorem Grout.Fits.withPorts {l : List (Option Nat)} (h : g.Fits sz ct) (hl : l.length = g.ports.length) :
    ({ g with ports := l } : Grout).Fits sz ct := by
  obtain ⟨hs, hc⟩ := h
  refine ⟨fun z => ?_, hc⟩
  obtain ⟨hports, hvalves, hqueue⟩ := hs z
  exact ⟨hl.trans hports, hvalves, hqueue⟩

theorem Grout.Fits.withQueue {l : List GroutReq} (h : g.Fits sz ct)
    (hl : g.queue.length ≤ Config.groutPlaces → l.length ≤ Config.groutPlaces) :
    ({ g with queue := l } : Grout).Fits sz ct := by
  obtain ⟨hs, hc⟩ := h
  refine ⟨fun z => ?_, hc⟩
  obtain ⟨hports, hvalves, hqueue⟩ := hs z
  exact ⟨hports, hvalves, hl hqueue⟩

theorem Grout.Fits.erased {p : GroutReq → Bool} (h : g.Fits sz ct) :
    ({ g with queue := g.queue.eraseP p } : Grout).Fits sz ct :=
  h.withQueue List.eraseP_sublist.length_le.trans

/-- R84: a pass replaced by one whose volume stays in its range. -/
theorem Grout.Fits.withPass {p : Option Pass} (h : g.Fits sz ct)
    (hp : (g.pass.map (·.volume)).getD 0 ≤ Config.volumeEnd → (p.map (·.volume)).getD 0 ≤ Config.volumeEnd) :
    ({ g with pass := p } : Grout).Fits sz ct := by
  obtain ⟨hs, hc⟩ := h
  refine ⟨hs, fun k => ?_⟩
  obtain ⟨hstray, hwin, hrefusal, hoverp, hvol⟩ := hc k
  exact ⟨hstray, hwin, hrefusal, hoverp, hp hvol⟩

/-- A change of the pass that leaves its volume. -/
theorem Grout.Fits.mapPass {f : Pass → Pass} (h : g.Fits sz ct) (hf : ∀ p, (f p).volume = p.volume) :
    ({ g with pass := g.pass.map f } : Grout).Fits sz ct :=
  h.withPass fun hv => by simpa [Option.map_map, Function.comp_def, hf] using hv

theorem Grout.Fits.samePass {p q : Pass} (h : g.Fits sz ct) (hp : g.pass = some p)
    (hq : q.volume = p.volume := by rfl) :
    ({ g with pass := some q } : Grout).Fits sz ct :=
  h.withPass fun hv => by simpa [hp, hq] using hv

theorem Grout.Fits.withRefusal {u : Guard} (h : g.Fits sz ct) (hu : u.sound) :
    ({ g with refusal := u } : Grout).Fits sz ct := by
  obtain ⟨hs, hc⟩ := h
  refine ⟨hs, fun k => ?_⟩
  obtain ⟨hstray, hwin, -, hoverp, hvol⟩ := hc k
  exact ⟨hstray, hwin, hu, hoverp, hvol⟩

theorem Grout.Fits.withOverp {u : Guard} (h : g.Fits sz ct) (hu : u.sound) :
    ({ g with overp := u } : Grout).Fits sz ct := by
  obtain ⟨hs, hc⟩ := h
  refine ⟨hs, fun k => ?_⟩
  obtain ⟨hstray, hwin, hrefusal, -, hvol⟩ := hc k
  exact ⟨hstray, hwin, hrefusal, hu, hvol⟩

theorem Grout.Fits.withFlow {f : Flow} (h : g.Fits sz ct)
    (hf : g.flow.stray ≤ Config.strayEnd → f.stray ≤ Config.strayEnd) :
    ({ g with flow := f } : Grout).Fits sz ct := by
  obtain ⟨hs, hc⟩ := h
  refine ⟨hs, fun k => ?_⟩
  obtain ⟨hstray, hrest⟩ := hc k
  exact ⟨hf hstray, hrest⟩

theorem Grout.Fits.withPressure {c : Channel} (h : g.Fits sz ct)
    (hc : g.pressure.win.length ≤ Config.windowSize → c.win.length ≤ Config.windowSize) :
    ({ g with pressure := c } : Grout).Fits sz ct := by
  obtain ⟨hs, hcount⟩ := h
  refine ⟨hs, fun k => ?_⟩
  obtain ⟨hstray, hwin, hrest⟩ := hcount k
  exact ⟨hstray, hc hwin, hrest⟩

theorem Grout.Fits.raisePeak (h : g.Fits sz ct) : g.raisePeak.Fits sz ct := h.mapPass fun _ => rfl

theorem Grout.Fits.note (h : g.Fits sz ct) : g.note.Fits sz ct := h.raisePeak.mapPass fun _ => rfl

theorem Grout.Fits.windowPulse {quantum period : Nat} (h : g.Fits sz ct) :
    (g.windowPulse quantum period).Fits sz ct := by
  obtain ⟨hs, hc⟩ := h
  refine ⟨hs, fun k => ?_⟩
  obtain ⟨hstray, hwin, hrefusal, hoverp, -⟩ := hc k
  refine ⟨hstray, hwin, hrefusal, hoverp, ?_⟩
  unfold Grout.windowPulse
  cases g.pass
  · exact Nat.zero_le _
  · exact Nat.min_le_left _ _

theorem Grout.Fits.disable (h : g.Fits sz ct) : g.disable.Fits sz ct :=
  ((((h.withPressure (c := .empty) fun _ => Nat.zero_le _).withFlow (f := .rest) fun _ => Nat.zero_le _).withRefusal
    g.refusal.zero_sound).withOverp g.overp.zero_sound).closeValves

/-- R135: the manifold of a served request. -/
theorem Grout.Fits.serve {r : GroutReq} {port start : Nat} {e : Entry} (h : g.Fits sz ct) :
    ({ g with
        queue := g.queue.eraseP fun q => q.anchor == r.anchor
        pass := some (.ofRequest r port start e)
        state := .starting
        refusal := g.refusal.zero
        overp := g.overp.zero } : Grout).Fits sz ct := by
  obtain ⟨hs, hc⟩ := h.erased (p := fun q => q.anchor == r.anchor)
  refine ⟨hs, fun k => ?_⟩
  obtain ⟨hstray, hwin, -⟩ := hc k
  exact ⟨hstray, hwin, Guard.zero_sound _, Guard.zero_sound _, Nat.zero_le _⟩

/-- R138, R141: the manifold of a pass that ends or pauses, its volume kept. -/
theorem Grout.Fits.halted {p q : Pass} {t : GroutState} {n : Nat} (h : g.Fits sz ct) (hp : g.pass = some p)
    (hq : q.volume = p.volume := by rfl) :
    ({ g with state := t, pass := some q, refusal := g.refusal.zero, pump := { g.pump with cmd := n } } : Grout).Fits
      sz ct :=
  (h.samePass hp hq).withRefusal g.refusal.zero_sound

end

theorem Grout.cut_fits {g : Grout} (h : g.Fits sz ct) :
    ({ Grout.rest with ports := g.ports, cure := g.cure } : Grout).Fits sz ct := by
  obtain ⟨hs, -⟩ := h
  refine ⟨fun z => ?_, fun _ => ⟨Nat.zero_le _, Nat.zero_le _, Guard.rest_sound, Guard.rest_sound, Nat.zero_le _⟩⟩
  obtain ⟨hports, -, -⟩ := hs z
  exact ⟨hports, rfl, Nat.zero_le _⟩

/-! ## The winch and the Wall Watch -/

section
variable {w : Winch}

theorem Winch.Fits.withGuards {a b : Guard} (h : w.Fits ct) (ha : a.sound) (hb : b.sound) :
    ({ w with jam := a, slack := b } : Winch).Fits ct := fun k => by
  obtain ⟨hlo, hhi, hwin, -, -⟩ := h k
  exact ⟨hlo, hhi, hwin, ha, hb⟩

theorem Winch.Fits.withJam {a : Guard} (h : w.Fits ct) (ha : a.sound) : ({ w with jam := a } : Winch).Fits ct :=
  fun k => by
  obtain ⟨hlo, hhi, hwin, -, hslack⟩ := h k
  exact ⟨hlo, hhi, hwin, ha, hslack⟩

theorem Winch.Fits.withDrum {d : Int} (h : w.Fits ct) (hd : -Config.drumEnd ≤ w.drum → w.drum ≤ Config.drumEnd →
    -Config.drumEnd ≤ d ∧ d ≤ Config.drumEnd) : ({ w with drum := d } : Winch).Fits ct := fun k => by
  obtain ⟨hlo, hhi, hrest⟩ := h k
  obtain ⟨hlo', hhi'⟩ := hd hlo hhi
  exact ⟨hlo', hhi', hrest⟩

theorem Winch.Fits.withTension {c : Channel} (h : w.Fits ct)
    (hc : w.tension.win.length ≤ Config.windowSize → c.win.length ≤ Config.windowSize) :
    ({ w with tension := c } : Winch).Fits ct := fun k => by
  obtain ⟨hlo, hhi, hwin, hrest⟩ := h k
  exact ⟨hlo, hhi, hc hwin, hrest⟩

theorem Winch.Fits.guards {t : Settings} (h : w.Fits ct) : (w.guards t).1.Fits ct := by
  refine h.withGuards (Guard.eval_sound _ _ _ _ _) ?_
  split
  · exact Guard.eval_sound _ _ _ _ _
  · exact Guard.zero_sound _

theorem Winch.Fits.disable (h : w.Fits ct) : w.disable.Fits ct :=
  ((h.withTension (c := .empty) fun _ => Nat.zero_le _).withDrum (d := 0) fun _ _ => by decide).withGuards
    w.jam.zero_sound w.slack.zero_sound

end

theorem clamp_bounds {lo hi : Int} (h : lo ≤ hi) (z : Int) : lo ≤ clamp lo hi z ∧ clamp lo hi z ≤ hi := by
  unfold clamp
  split
  · omega
  · split <;> omega

theorem Winch.rest_fits : Winch.rest.Fits ct :=
  fun _ => ⟨by decide, by decide, Nat.zero_le _, Guard.rest_sound, Guard.rest_sound⟩

section
variable {w : Wall}

theorem Wall.Fits.withTilt {l : List Guard} (h : w.Fits sz ct)
    (hl : w.tilt.length = Config.pointCount → l.length = Config.pointCount)
      (hg : (∀ g ∈ w.tilt, g.sound) → ∀ g ∈ l, g.sound) : ({ w with tilt := l } : Wall).Fits sz ct := by
  obtain ⟨hs, hc⟩ := h
  refine ⟨fun z => ?_, fun k => hg (hc k)⟩
  obtain ⟨hpoints, htilt⟩ := hs z
  exact ⟨hpoints, hl htilt⟩

theorem Wall.Fits.withPoints {l : List Point} (h : w.Fits sz ct) (hl : l.length = w.points.length) :
    ({ w with points := l } : Wall).Fits sz ct := by
  obtain ⟨hs, hc⟩ := h
  refine ⟨fun z => ?_, hc⟩
  obtain ⟨hpoints, htilt⟩ := hs z
  exact ⟨hl.trans hpoints, htilt⟩

theorem Wall.Fits.zeroTilt {n : Nat} (h : w.Fits sz ct) : ({ w with tilt := zeroAt w.tilt n } : Wall).Fits sz ct :=
  h.withTilt (fun hl => (zeroAt_length _ _).trans hl) fun hg => zeroAt_sound hg n

theorem Wall.Fits.cut (h : w.Fits sz ct) : ({ w with tilt := List.replicate 16 .rest } : Wall).Fits sz ct :=
  h.withTilt (fun _ => rfl) fun _ g hg => by
    rw [List.eq_of_mem_replicate hg]
    exact Guard.rest_sound

end

end
end Sys2Proof.Machine
end

section
namespace Sys2Proof.Machine

/-! ## The shared operations of the state -/

section
variable {sz ct : Prop}

section
variable {s : State} {st : Stn}

@[simp] theorem State.Fits.notice {k : NoticeKind} {o : Origin} {a : Option Nat} {d : Nat} (h : s.Fits sz ct) :
    (s.notice k o a d).Fits sz ct :=
  h.withTables fun ⟨hp, hc, hs, hr, hl, hn, ht⟩ => ⟨hp, hc, hs, hr, hl, (s.notices.raise_levels ..).1 ▸ hn, ht⟩

@[simp] theorem State.Fits.endCondition {k : NoticeKind} {o : Origin} (h : s.Fits sz ct) :
    (s.endCondition k o).Fits sz ct := h

@[simp] theorem State.Fits.modEntry {id : Nat} {f : Entry → Entry} (h : s.Fits sz ct) :
    (s.modEntry id f).Fits sz ct := h

@[simp] theorem State.Fits.modRow {r : Nat} {f : Row → Row} (h : s.Fits sz ct) : (s.modRow r f).Fits sz ct :=
  h.withTables fun ⟨hp, hc, hs, hr, hrest⟩ => ⟨hp, hc, hs, by simpa using hr, hrest⟩

theorem State.Fits.modGrout {f : Grout → Grout} (h : s.Fits sz ct) (hf : (f s.grout).judgeFlow.Fits sz ct) :
    (s.modGrout f).Fits sz ct :=
  h.withGrout hf

@[simp] theorem State.Fits.hold (h : s.Fits sz ct) : (s.hold st).Fits sz ct := by
  unfold State.hold
  dsimp only
  split
  · exact h.withStn (h.stn st)
  · exact State.Fits.notice (h.withStn (h.stn st))

@[simp] theorem State.Fits.addCause {c : Cause} (h : s.Fits sz ct) : (s.addCause c st).Fits sz ct := by
  have hj : (s.modCtx st fun x => { x with causes := x.causes.add c }).Fits sz ct := h.onCtx
  unfold State.addCause
  dsimp only
  split
  all_goals first
    | exact h
    | exact hj
    | exact hj.hold

@[simp] theorem State.Fits.removeCauseAt {c : Cause} (h : s.Fits sz ct) : (s.removeCauseAt c st).Fits sz ct := by
  unfold State.removeCauseAt
  split
  · exact h
  · exact h.onCtx

@[simp] theorem State.Fits.thawCauses (h : s.Fits sz ct) : (s.thawCauses st).Fits sz ct := h.onCtx

@[simp] theorem State.Fits.takeDecision {d : Decision} (h : s.Fits sz ct) : (s.takeDecision st d).Fits sz ct :=
  h.onStn fun hx => hx.take

@[simp] theorem State.Fits.endRun {r : RunEnd} {c : Option HaltCause} (h : s.Fits sz ct) :
    (s.endRun r c).Fits sz ct := by
  unfold State.endRun
  split
  · exact h.withWinch (Winch.Fits.withGuards h.winchFits s.winch.jam.zero_sound s.winch.slack.zero_sound)
  · exact h

@[simp] theorem State.Fits.addPassCause {c : Cause} (h : s.Fits sz ct) : (s.addPassCause c).Fits sz ct := by
  unfold State.addPassCause
  split
  · exact h
  · next p hp =>
    dsimp only
    split
    · exact h.withGrout (h.groutFits.halted hp).modValve.judgeFlow
    · exact h.withGrout (h.groutFits.halted hp).modValve.judgeFlow
    · exact h.withGrout (h.groutFits.samePass hp)
    · exact h

@[simp] theorem State.Fits.handCause {c : Cause} {k : HaltCause} (h : s.Fits sz ct) : (s.handCause c k).Fits sz ct :=
  h.addCause.addCause.endRun.addPassCause

@[simp] theorem State.Fits.dropCause {c : Cause} (h : s.Fits sz ct) : (s.dropCause c).Fits sz ct := by
  have hu : ((s.removeCauseAt c .s1).removeCauseAt c .s2).Fits sz ct := h.removeCauseAt.removeCauseAt
  exact hu.withGrout (hu.groutFits.mapPass fun _ => rfl)

@[simp] theorem State.Fits.arbiter (h : s.Fits sz ct) : s.arbiter.Fits sz ct := by
  unfold State.arbiter
  split
  · split
    · exact h
    · split
      · exact State.Fits.notice (State.Fits.modEntry (h.withGrout (h.groutFits.serve.modValve.judgeFlow)))
      · exact h
  · exact h

@[simp] theorem State.Fits.completePass (h : s.Fits sz ct) : s.completePass.Fits sz ct := by
  unfold State.completePass
  split
  · exact h
  · split
    · exact h
    · refine State.Fits.arbiter (State.Fits.notice (State.Fits.withGrout (State.Fits.modEntry h) ?_))
      exact ((h.groutFits.withPass
        (p := none) fun _ => Nat.zero_le _).withRefusal s.grout.refusal.zero_sound).withOverp
        s.grout.overp.zero_sound

@[simp] theorem State.Fits.endPass {r : PassEnd} (h : s.Fits sz ct) : (s.endPass r).Fits sz ct := by
  unfold State.endPass
  split
  · exact h
  · next p hp =>
    split
    · have hended := h.modGrout (f := fun g => Grout.modValve
        { g with
          state := .ending
          pass := some { p with reason := some r, endTime := s.now, noFlow := none }
          refusal := g.refusal.zero
          pump := { g.pump with cmd := 0 } } p.port Valve.closeCmd) (h.groutFits.halted hp).modValve.judgeFlow
      dsimp only
      split
      · exact hended.completePass
      · exact hended
    · exact h

/-! ## TRIP, flags and the emergency state -/

@[simp] theorem State.Fits.applyForces (h : s.Fits sz ct) : s.applyForces.Fits sz ct := by
  have hoff : ({ s with
        s1 := { s.s1 with pump := { s.s1.pump with applied := 0 } }
        s2 := { s.s2 with pump := { s.s2.pump with applied := 0 } }
        grout := { s.grout with pump := { s.grout.pump with applied := 0 } } } : State).Fits sz ct := h
  have closed {u : State} (hu : u.Fits sz ct) :
      ({ u with grout := { u.grout with valves := u.grout.valves.map Valve.closeCmd } } : State).Fits sz ct :=
    hu.withGrout hu.groutFits.closeValves
  have judged {u : State} (hu : u.Fits sz ct) : ({ u with grout := u.grout.judgeFlow } : State).Fits sz ct :=
    hu.withGrout hu.groutFits.judgeFlow
  unfold State.applyForces
  dsimp only
  split <;> split
  · exact judged (closed hoff)
  · exact judged hoff
  · exact judged (closed h)
  · exact judged h

@[simp] theorem State.Fits.judgeTrip (h : s.Fits sz ct) : s.judgeTrip.Fits sz ct := by
  unfold State.judgeTrip
  split
  · exact h
  · split
    · exact h
    · split
      · exact State.Fits.handCause (State.Fits.applyForces h)
      · exact State.Fits.arbiter (State.Fits.dropCause h)

@[simp] theorem State.Fits.raise {f : Flag} (h : s.Fits sz ct) : (s.raise f).Fits sz ct := by
  unfold State.raise
  split
  · dsimp only
    split
    · exact State.Fits.judgeTrip (State.Fits.notice h)
    · exact State.Fits.judgeTrip h
  · exact h

@[simp] theorem State.Fits.clearFlag {f : Flag} (h : s.Fits sz ct) : (s.clearFlag f).Fits sz ct := h

@[simp] theorem State.Fits.clearCombined {group : Nat} (h : s.Fits sz ct) : (s.clearCombined group).Fits sz ct :=
  State.Fits.judgeTrip h

@[simp] theorem State.Fits.applyMasks (h : s.Fits sz ct) : s.applyMasks.Fits sz ct := State.Fits.judgeTrip h

@[simp] theorem State.Fits.setEmergency {line : EmLine} (h : s.Fits sz ct) : (s.setEmergency line).Fits sz ct := by
  unfold State.setEmergency
  dsimp only
  split
  · exact State.Fits.handCause (State.Fits.applyForces (State.Fits.notice h))
  · exact State.Fits.notice h

@[simp] theorem State.Fits.clearEmergency (h : s.Fits sz ct) : s.clearEmergency.Fits sz ct :=
  State.Fits.arbiter (State.Fits.endCondition (State.Fits.dropCause h))

/-! ## The steps and the end of a test -/

@[simp] theorem State.Fits.beginStep (h : s.Fits sz ct) : (s.beginStep st).Fits sz ct := by
  unfold State.beginStep
  split
  · exact h
  · dsimp only
    split
    · exact h.onStn fun hx => Station.Fits.enterStep hx
    · exact h.modEntry.onStn fun hx => Station.Fits.enterStep hx

@[simp] theorem State.Fits.restartStep (h : s.Fits sz ct) : (s.restartStep st).Fits sz ct := by
  unfold State.restartStep
  split
  · exact h
  · split
    · exact h.onStn fun hx => hx.enterStep
    · exact h.beginStep

@[simp] theorem State.Fits.completeStep (h : s.Fits sz ct) : (s.completeStep st).Fits sz ct := by
  unfold State.completeStep
  split
  · exact h
  · dsimp only
    split
    · exact State.Fits.beginStep (h.notice.onStn id)
    · exact State.Fits.hold (h.notice.onStn id)

@[simp] theorem State.Fits.stopped (h : s.Fits sz ct) : (s.modStn st Station.stop).Fits sz ct := h.onStn id

@[simp] theorem State.Fits.releaseDone (h : s.Fits sz ct) : (s.releaseDone st).Fits sz ct := by
  have hs := h.stopped (st := st)
  unfold State.releaseDone
  dsimp only
  split
  · exact hs
  · split
    · split
      · exact hs.onStn fun hx => hx.startSeek
      · exact hs.hold
    · exact hs.completeStep

@[simp] theorem State.Fits.endTest (h : s.Fits sz ct) : (s.endTest st).Fits sz ct := by
  unfold State.endTest
  dsimp only
  split
  · exact h
  · next c _ =>
    have hx := ((h.stn st).withOvl (s.stn st).ovl.zero_sound).zeroNbr
    split
    · exact State.Fits.notice ((h.modEntry.modRow).withStn hx)
    · exact State.Fits.notice (h.modEntry.withStn hx)

@[simp] theorem State.Fits.seatEvent (h : s.Fits sz ct) : (s.seatEvent st).Fits sz ct := by
  unfold State.seatEvent
  split
  · exact h
  · next c _ =>
    dsimp only
    split
    · exact h.onStn id
    · split
      · exact h.onStn id
      · exact State.Fits.modEntry (State.Fits.modRow (h.onStn id))

@[simp] theorem State.Fits.holdEnd (h : s.Fits sz ct) : (s.holdEnd st).Fits sz ct := by
  have hs := h.stopped (st := st)
  unfold State.holdEnd
  dsimp only
  split
  · exact hs
  · split
    · exact State.Fits.completeStep (hs.onStn fun hx => Station.Fits.zeroEnc hx)
    · exact State.Fits.completeStep (hs.onStn id)
    · split
      · exact State.Fits.completeStep (hs.onStn id)
      · exact State.Fits.takeDecision (hs.onStn id)
    · exact hs.seatEvent
    all_goals exact hs

@[simp] theorem State.Fits.creepReading (h : s.Fits sz ct) : (s.creepReading st).Fits sz ct := by
  unfold State.creepReading
  dsimp only
  split
  · exact h
  · split
    · exact State.Fits.completeStep (State.Fits.stopped (h.onStn id))
    · exact h.onStn id

/-! ## A sample of a stressing station -/

@[simp] theorem State.Fits.keptBand (h : s.Fits sz ct) : (s.modStn st Station.keepBand).Fits sz ct :=
  h.onStn fun hx => hx.keepBand

@[simp] theorem State.Fits.holdSample (h : s.Fits sz ct) : (s.holdSample st).Fits sz ct := by
  unfold State.holdSample
  split
  · exact h
  · dsimp only
    split
    · split <;> split <;> simp [h]
    · split <;> simp [h]
    · split <;> simp [h]
    · exact h

@[simp] theorem State.Fits.targetReached (h : s.Fits sz ct) : (s.targetReached st).Fits sz ct :=
  State.Fits.holdSample (h.onStn id)

@[simp] theorem State.Fits.goingOn {c : TestCtx} {m : Motion} (h : s.Fits sz ct) :
    (s.setStn st ((s.stn st).goOn c m)).Fits sz ct :=
  h.withStn (h.stn st).goOn

@[simp] theorem State.Fits.moved {k : MotionKind} (h : s.Fits sz ct) : (s.modStn st (·.move k)).Fits sz ct :=
  h.onStn fun hx => hx.move

@[simp] theorem State.Fits.rampSample {c : TestCtx} {m : Motion} (h : s.Fits sz ct) :
    (s.rampSample st c m).Fits sz ct := by
  unfold State.rampSample
  dsimp only
  split <;> split
  any_goals split
  all_goals simp [h]

@[simp] theorem State.Fits.releaseSample {c : TestCtx} (h : s.Fits sz ct) : (s.releaseSample st c).Fits sz ct := by
  unfold State.releaseSample
  dsimp only
  split
  · split <;> simp [h]
  · split <;> simp [h]

@[simp] theorem State.Fits.endStroke (h : s.Fits sz ct) : (s.endStroke st).Fits sz ct := by
  unfold State.endStroke
  dsimp only
  split <;> simp [h]

@[simp] theorem State.Fits.stationSample (h : s.Fits sz ct) : (s.stationSample st).Fits sz ct := by
  unfold State.stationSample
  dsimp only
  split
  · exact h
  · next c _ =>
    split
    · exact h.endStroke
    · split
      · exact h.rampSample
      · exact State.Fits.holdSample (h.onStn id)
      · exact h.withStn (h.stn st).seekSample
      · exact h.releaseSample
      · exact h.releaseSample
      · exact h

@[simp] theorem State.Fits.startTest {e : Entry} {slot : Nat} {p : Plan} (h : s.Fits sz ct) :
    (s.startTest st e slot p).Fits sz ct := by
  unfold State.startTest
  dsimp only
  have hx {x : Station} (hx : x.Fits sz ct) :
    ({ x with ovl := x.ovl.zero, nbr := x.nbr.map Guard.zero } : Station).Fits sz ct :=
    (hx.withOvl x.ovl.zero_sound).zeroNbr
  split
  · exact State.Fits.beginStep ((h.modEntry.modRow).onStn hx)
  · exact State.Fits.beginStep (h.modEntry.onStn hx)

/-- R50, R156. -/
@[simp] theorem State.Fits.rebase (h : s.Fits sz ct) : (s.rebase st).Fits sz ct := by
  unfold State.rebase
  split
  · exact h
  · exact h.onStn fun hx => Station.Fits.zeroNbr hx

/-! ## Guards at a sample, and self-tests -/

theorem State.Fits.withRecords {l : List (Option SelfRecord)} (h : s.Fits sz ct)
    (hl : l.length = s.faults.records.length) :
    ({ s with faults := { s.faults with records := l } } : State).Fits sz ct :=
  h.withTables fun ⟨hp, hc, hs, hr, hce, hn, ht, hrec, hq⟩ => ⟨hp, hc, hs, hr, hce, hn, ht, hl.trans hrec, hq⟩

@[simp] theorem State.Fits.startSelftest {g : TestedGuard} (h : s.Fits sz ct) : (s.startSelftest g).Fits sz ct := by
  cases g with
  | overload st => exact h.onStn fun hx => Station.Fits.withOvl hx (Guard.zero_sound _)
  | overpressure => exact h.withGrout (Grout.Fits.withOverp h.groutFits (Guard.zero_sound _))
  | jam => exact h.withWinch (Winch.Fits.withJam h.winchFits (Guard.zero_sound _))

@[simp] theorem State.Fits.leaveSelftest {passed : Bool} {g : TestedGuard} (h : s.Fits sz ct) :
    (s.leaveSelftest passed g).Fits sz ct := by
  cases g with
  | overload st => exact h.onStn fun hx => Station.Fits.withOvl hx (Guard.zero_sound _)
  | overpressure => exact h.withGrout (Grout.Fits.withOverp h.groutFits (Guard.zero_sound _))
  | jam => exact h.withWinch (Winch.Fits.withJam h.winchFits (Guard.zero_sound _))

@[simp] theorem State.Fits.endSelftest {g : TestedGuard} {tripAt : Option Nat} (h : s.Fits sz ct) :
    (s.endSelftest g tripAt).Fits sz ct := by
  have hr := h.withRecords (l := s.faults.records.set (g.code - 1)
    (some { passed := tripAt.isSome, tripAt := tripAt, time := s.now })) (List.length_set ..)
  unfold State.endSelftest
  extract_lets passed record faults recorded left told judged
  have htold : told.Fits sz ct := State.Fits.notice (State.Fits.leaveSelftest hr)
  have hjudged : judged.Fits sz ct := by
    simp only [judged]
    split
    · exact htold
    · exact htold.raise
  split
  · exact hjudged.arbiter
  · exact hjudged

@[simp] theorem State.Fits.selfNext {g : TestedGuard} {self : SelfTest} {r : Option Bool} (h : s.Fits sz ct) :
    (s.selfNext g self r).Fits sz ct := by
  cases r with
  | none => exact h
  | some _ => exact h.endSelftest

end

theorem selfSample_sound (self : SelfTest) (g : Guard) (threshold n : Nat) :
    (selfSample self g threshold n).2.1.sound := by
  unfold selfSample
  dsimp only
  split <;> exact Guard.eval_sound _ _ _ _ _

section
variable {s : State} {st : Stn}

@[simp] theorem State.Fits.selfLoad (h : s.Fits sz ct) : (s.selfLoad st).Fits sz ct := by
  unfold State.selfLoad
  split
  · exact h
  · exact State.Fits.selfNext (h.onStn fun hx => Station.Fits.withOvl hx (selfSample_sound _ _ _ _))

@[simp] theorem State.Fits.selfPressure (h : s.Fits sz ct) : s.selfPressure.Fits sz ct := by
  unfold State.selfPressure
  split
  · exact h
  · exact State.Fits.selfNext (h.withGrout (Grout.Fits.withOverp h.groutFits (selfSample_sound _ _ _ _)))

@[simp] theorem State.Fits.selfTension (h : s.Fits sz ct) : s.selfTension.Fits sz ct := by
  unfold State.selfTension
  split
  · exact h
  · exact State.Fits.selfNext (h.withWinch (Winch.Fits.withJam h.winchFits (selfSample_sound _ _ _ _)))

@[simp] theorem State.Fits.overloadTrip (h : s.Fits sz ct) : (s.overloadTrip st).Fits sz ct :=
  State.Fits.raise (h.onStn fun hx => hx.overload)

@[simp] theorem State.Fits.overloadSample (h : s.Fits sz ct) : (s.overloadSample st).Fits sz ct := by
  unfold State.overloadSample
  dsimp only
  split
  · exact h
  · split
    · exact State.Fits.overloadTrip (h.withStn (Station.Fits.withOvl (h.stn st) (Guard.eval_sound _ _ _ _ _)))
    · exact h.withStn (Station.Fits.withOvl (h.stn st) (Guard.eval_sound _ _ _ _ _))

@[simp] theorem State.Fits.overpressureTrip (h : s.Fits sz ct) : s.overpressureTrip.Fits sz ct := h.raise.endPass

@[simp] theorem State.Fits.refusalSample (h : s.Fits sz ct) : s.refusalSample.Fits sz ct := by
  unfold State.refusalSample
  split
  · dsimp only
    split
    · exact State.Fits.endPass (h.withGrout (h.groutFits.withRefusal (Guard.eval_sound _ _ _ _ _)))
    · exact h.withGrout (h.groutFits.withRefusal (Guard.eval_sound _ _ _ _ _))
  · exact h

@[simp] theorem State.Fits.overpressureSample (h : s.Fits sz ct) : s.overpressureSample.Fits sz ct := by
  unfold State.overpressureSample
  dsimp only
  split
  · split
    · exact State.Fits.overpressureTrip (h.withGrout (h.groutFits.withOverp (Guard.eval_sound _ _ _ _ _)))
    · exact h.withGrout (h.groutFits.withOverp (Guard.eval_sound _ _ _ _ _))
  · exact h

@[simp] theorem State.Fits.groutSample {guardFirst : Bool} (h : s.Fits sz ct) :
    (s.groutSample guardFirst).Fits sz ct := by
  have hn := h.withGrout h.groutFits.note
  unfold State.groutSample
  dsimp only
  split
  · exact h.selfPressure
  · split
    · exact hn.overpressureSample.refusalSample
    · exact hn.refusalSample.overpressureSample

end

end
end Sys2Proof.Machine
end

section
namespace Sys2Proof.Machine

/-! ## Samples, pulses and scans -/

section
variable {sz ct : Prop}

section
variable {s : State} {st : Stn}

@[simp] theorem State.Fits.judgeMark {code : Nat} {isOpen isOver : Flag} (h : s.Fits sz ct) :
    (s.judgeMark code isOpen isOver).Fits sz ct := by
  unfold State.judgeMark
  split <;> simp [h]

@[simp] theorem State.Fits.loadSample {code : Nat} {guardFirst : Bool} (h : s.Fits sz ct) :
    (s.loadSample st code guardFirst).Fits sz ct := by
  have hp : ((s.modStn st (·.publish (s.cal st.code) code)).judgeMark code (.loadOpen st)
    (.loadOver st)).Fits sz ct :=
    State.Fits.judgeMark (h.onStn fun hx => hx.publish)
  unfold State.loadSample
  split
  · dsimp only
    split
    · exact hp.selfLoad
    · split
      · exact hp.overloadSample.stationSample
      · exact hp.stationSample.overloadSample
  · exact h

@[simp] theorem State.Fits.noteWinch (h : s.Fits sz ct) : s.noteWinch.Fits sz ct := h.withWinch h.winchFits

@[simp] theorem State.Fits.winchTrip {r : RunEnd} (h : s.Fits sz ct) : (s.winchTrip r).Fits sz ct :=
  h.noteWinch.endRun

@[simp] theorem State.Fits.paySample (h : s.Fits sz ct) : s.paySample.Fits sz ct := by
  have hg := h.withWinch (h.winchFits.guards (t := s.site.settings))
  unfold State.paySample
  dsimp only
  split
  · exact hg.endRun
  · split
    · exact hg.endRun
    · split
      · exact hg.endRun
      · exact hg

@[simp] theorem State.Fits.winchSample (h : s.Fits sz ct) : s.winchSample.Fits sz ct := by
  have hn : ({ s with winch := s.winch.note } : State).Fits sz ct := h.withWinch h.winchFits
  unfold State.winchSample
  dsimp only
  split
  · exact hn.paySample
  · exact hn.selfTension
  · exact hn
  · exact hn

@[simp] theorem State.Fits.tensionSample {code : Nat} (h : s.Fits sz ct) : (s.tensionSample code).Fits sz ct := by
  have ht : ({ s with winch :=
    { s.winch with tension := s.winch.tension.sample (s.cal 3) code } } : State).Fits sz ct :=
    h.withWinch (h.winchFits.withTension (Channel.sample_length _ _ _))
  unfold State.tensionSample
  split
  · exact State.Fits.winchSample (State.Fits.judgeMark (ht.withWinch ht.winchFits))
  · exact h

@[simp] theorem State.Fits.pressureSample {code : Nat} {guardFirst : Bool} (h : s.Fits sz ct) :
    (s.pressureSample code guardFirst).Fits sz ct := by
  unfold State.pressureSample
  split
  · exact State.Fits.groutSample (State.Fits.judgeMark
      (h.withGrout (h.groutFits.withPressure (Channel.sample_length _ _ _))))
  · exact h

@[simp] theorem State.Fits.encoderMoves {line : EncLine} (h : s.Fits sz ct) : (s.encoderMoves st line).Fits sz ct :=
  h.onStn fun hx => by cases line <;> exact hx

/-- R80: the count is held at its ends. -/
@[simp] theorem State.Fits.encoderEdge {line : EncLine} (h : s.Fits sz ct) : (s.encoderEdge st line).Fits sz ct := by
  have hm : (s.encoderMoves st line).Fits sz ct := h.encoderMoves
  unfold State.encoderEdge
  extract_lets flipped moved invert n
  split
  · split
    · exact hm.raise
    · next hn =>
      refine hm.onStn fun ⟨hsize, hcount⟩ => ⟨hsize, fun k => ?_⟩
      obtain ⟨-, -, hload, henc, hovl, hnbr⟩ := hcount k
      obtain ⟨-, hcount'⟩ := h.stn st
      obtain ⟨-, -, -, henc', -, -⟩ := hcount' k
      push Not at hn
      obtain ⟨hlo, hhi⟩ := hn
      exact ⟨hlo, hhi, hload, by cases line <;> exact henc', hovl, hnbr⟩
  · exact hm

/-- R85: the stray count stops at its end. -/
@[simp] theorem State.Fits.strayPulse (h : s.Fits sz ct) : s.strayPulse.Fits sz ct := by
  unfold State.strayPulse
  dsimp only
  split
  · exact State.Fits.raise (h.withGrout (h.groutFits.withFlow fun _ => Nat.min_le_left _ _))
  · exact h.withGrout (h.groutFits.withFlow fun _ => Nat.min_le_left _ _)

@[simp] theorem State.Fits.publishScan {codes : List Nat} (h : s.Fits sz ct) : (s.publishScan codes).Fits sz ct :=
  h.withTables fun ⟨hp, hc, _, hrest⟩ => ⟨hp, hc, by simp [State.publishScan], hrest⟩

@[simp] theorem State.Fits.wallScan (h : s.Fits sz ct) : s.wallScan.Fits sz ct := by
  unfold State.wallScan
  extract_lets told r judged
  have ht : told.Fits sz ct := by
    simp only [told]
    split
    · exact h.raise
    · exact h
  have hj : judged.Fits sz ct := by
    refine ht.withWall (Wall.Fits.withTilt (Wall.Fits.withPoints ht.wallFits (List.length_map _)) ?_ ?_)
    · exact fun _ => by simp [r]
    · intro _ g hg
      simp only [r, List.map_map, List.mem_map, Function.comp] at hg
      obtain ⟨i, -, rfl⟩ := hg
      exact told.tiltAt_sound i
  split
  · exact hj.raise
  · exact hj

@[simp] theorem State.Fits.riseScan (h : s.Fits sz ct) : (s.riseScan st).Fits sz ct := by
  have hr : (s.modStn st fun x =>
      { x with nbr := ((List.range Config.pointCount).map (s.riseAt (s.stn st))).map (·.1) }).Fits sz ct :=
    h.onStn fun hx => hx.riseScan
  unfold State.riseScan
  dsimp only
  split
  · exact hr.addCause
  · exact hr

/-! ## The winch, the manifold and the Archive -/

@[simp] theorem State.Fits.startRun {e : Entry} (h : s.Fits sz ct) : (s.startRun e).Fits sz ct :=
  State.Fits.withWinch (h.modEntry (id := e.decl.id) (f := fun e => { e with interrupted := none }))
    ((h.winchFits.withDrum (d := 0) fun _ _ => by decide).withGuards s.winch.jam.zero_sound s.winch.slack.zero_sound)

@[simp] theorem State.Fits.completeRun (h : s.Fits sz ct) : s.completeRun.Fits sz ct := by
  unfold State.completeRun
  split
  · exact h
  · exact State.Fits.notice (State.Fits.withWinch h.modEntry h.winchFits)

@[simp] theorem State.Fits.setPort {port : Nat} {a : Option Nat} (h : s.Fits sz ct) : (s.setPort port a).Fits sz ct :=
  h.withGrout (h.groutFits.withPorts (List.length_set ..))

theorem State.Fits.joinQueue {anchor : Nat} {k : PassKind} (h : s.Fits sz ct)
    (hroom : s.grout.queue.length < Config.groutPlaces) :
    (s.joinQueue anchor k).Fits sz ct :=
  h.withGrout (h.groutFits.withQueue fun _ => by simpa using hroom)

@[simp] theorem State.Fits.resumePass {p : Pass} (h : s.Fits sz ct) (hp : s.grout.pass = some p) :
    (s.resumePass p).Fits sz ct :=
  h.modGrout
    (Grout.Fits.judgeFlow (Grout.Fits.modValve (Grout.Fits.samePass (q := { p with causes := p.causes.remove .host })
    h.groutFits hp)))

theorem State.Fits.enterPumping {p : Pass} (h : s.Fits sz ct) (hp : s.grout.pass = some p) :
    (s.enterPumping p).Fits sz ct :=
  h.withGrout (h.groutFits.samePass hp)

@[simp] theorem State.Fits.closeAnchor {e : Entry} (h : s.Fits sz ct) : (s.closeAnchor e).Fits sz ct := by
  unfold State.closeAnchor
  dsimp only
  split
  · exact State.Fits.notice h
  · exact h

@[simp] theorem State.Fits.removeEntry {id : Nat} (h : s.Fits sz ct) : (s.removeEntry id).Fits sz ct :=
  State.Fits.withGrout (s := { s with reg := s.reg.filter fun e => e.decl.id != id }) h
    (h.groutFits.withPorts (List.length_map _))

@[simp] theorem State.Fits.appendDone {anchor slot : Nat} {r : Record} (h : s.Fits sz ct) :
    (s.appendDone anchor slot r).Fits sz ct :=
  State.Fits.notice (State.Fits.removeEntry h)

@[simp] theorem State.Fits.appendTorn {anchor number slot : Nat} (h : s.Fits sz ct) :
    (s.appendTorn anchor number slot).Fits sz ct :=
  State.Fits.notice (State.Fits.raise h)

@[simp] theorem State.Fits.setStations {e : Enables} (h : s.Fits sz ct) : (s.setStations e).Fits sz ct := by
  unfold State.setStations
  extract_lets was site written s1Off s2Off wOff gOff judged
  have h0 : written.Fits sz ct := h
  have h1 : s1Off.Fits sz ct := by
    simp only [s1Off]
    split
    · exact h0.withStn (st := .s1) (Station.Fits.disable (h0.stn .s1))
    · exact h0
  have h2 : s2Off.Fits sz ct := by
    simp only [s2Off]
    split
    · exact h1.withStn (st := .s2) (Station.Fits.disable (h1.stn .s2))
    · exact h1
  have h3 : wOff.Fits sz ct := by
    simp only [wOff]
    split
    · exact h2.withWinch h2.winchFits.disable
    · exact h2
  have h4 : gOff.Fits sz ct := by
    simp only [gOff]
    split
    · exact h3.withGrout h3.groutFits.disable
    · exact h3
  have h5 : judged.Fits sz ct := h4.judgeTrip
  split
  · exact h5.arbiter
  · exact h5

/-! ## The site minute -/

theorem visitPost_fits {acc : State × List Nat} (ha : acc.1.Fits sz ct) (id : Nat) :
    (visitPost acc id).1.Fits sz ct := by
  unfold visitPost
  dsimp only
  split
  · exact ha
  · split
    · exact ha
    · split
      · exact ha
      · split
        · exact ha
        · next hroom =>
          exact State.Fits.arbiter (State.Fits.modEntry (ha.joinQueue (Nat.lt_of_not_le hroom)))

theorem foldl_visitPost_fits (ids : List Nat) {acc : State × List Nat} (ha : acc.1.Fits sz ct) :
    (ids.foldl visitPost acc).1.Fits sz ct := by
  induction ids generalizing acc with
  | nil => exact ha
  | cons id rest ih => exact ih (visitPost_fits ha id)

theorem State.Fits.visitCure {id : Nat} (h : s.Fits sz ct) : (visitCure s id).Fits sz ct := by
  unfold Machine.visitCure
  split
  · exact h
  · split
    · exact State.Fits.notice (h.withGrout h.groutFits)
    · exact h

theorem foldl_visitCure_fits (ids : List Nat) {u : State} (hu : u.Fits sz ct) :
    (ids.foldl visitCure u).Fits sz ct := by
  induction ids generalizing u with
  | nil => exact hu
  | cons id rest ih => exact ih hu.visitCure

@[simp] theorem State.Fits.judgeWaiting {w : List Nat} (h : s.Fits sz ct) : (s.judgeWaiting w).Fits sz ct := by
  have hw : ({ s with grout :=
    { s.grout with waiting := w.length, lastRun := some s.site.clock } } : State).Fits sz ct :=
    h.withGrout h.groutFits
  unfold State.judgeWaiting
  dsimp only
  split
  · exact hw.endCondition
  · split
    · exact hw.notice
    · exact hw

theorem State.Fits.noStray (h : s.Fits sz ct) :
    ({ s with grout := { s.grout with flow := { s.grout.flow with stray := 0, lowered := false } } } :
    State).Fits sz ct := h.withGrout (h.groutFits.withFlow fun _ => Nat.zero_le _)

@[simp] theorem State.Fits.siteMinute (h : s.Fits sz ct) : s.siteMinute.Fits sz ct := by
  unfold State.siteMinute
  dsimp only
  split
  · exact State.Fits.judgeWaiting (foldl_visitCure_fits _ (foldl_visitPost_fits _ (acc := (_, [])) h.noStray))
  · exact h.noStray

@[simp] theorem State.Fits.setTime {time : Nat} (h : s.Fits sz ct) : (s.setTime time).Fits sz ct := by
  unfold State.setTime
  dsimp only
  split
  · exact State.Fits.siteMinute (State.Fits.endCondition h.noStray)
  · exact State.Fits.endCondition h.noStray

/-! ## Calibrations, limits, settings, and the link watch -/

/-- R75, R79: an average emptied. -/
@[simp] theorem State.Fits.drainSelector {sel : Nat} (h : s.Fits sz ct) : (s.drainSelector sel).Fits sz ct := by
  have load (st : Stn) : ({ s.stn st with load := (s.stn st).load.drain } : Station).Fits sz ct := by
    obtain ⟨hsize, hcount⟩ := h.stn st
    refine ⟨hsize, fun k => ?_⟩
    obtain ⟨hlo, hhi, -, hrest⟩ := hcount k
    exact ⟨hlo, hhi, Nat.zero_le _, hrest⟩
  have enc (st : Stn) : ({ s.stn st with enc := { (s.stn st).enc with win := [] } } : Station).Fits sz ct := by
    obtain ⟨hsize, hcount⟩ := h.stn st
    refine ⟨hsize, fun k => ?_⟩
    obtain ⟨hlo, hhi, hload, -, hrest⟩ := hcount k
    exact ⟨hlo, hhi, hload, Nat.zero_le _, hrest⟩
  unfold State.drainSelector
  split
  · exact h.withStn (st := .s1) (load .s1)
  · exact h.withStn (st := .s2) (load .s2)
  · exact h.withWinch (h.winchFits.withTension fun _ => Nat.zero_le _)
  · exact h.withGrout (h.groutFits.withPressure fun _ => Nat.zero_le _)
  · exact h.withStn (st := .s1) (enc .s1)
  · exact h.withStn (st := .s2) (enc .s2)
  · exact h

@[simp] theorem State.Fits.writeSettings {t : Settings} (h : s.Fits sz ct) : (s.writeSettings t).Fits sz ct := by
  unfold State.writeSettings
  dsimp only
  split
  · exact h
  · exact h

/-- R194: the row ceilings keep their number. -/
theorem State.Fits.withLimits {l : Limits} (h : s.Fits sz ct)
    (hl : l.ceilings.length = s.site.limits.ceilings.length) :
    ({ s with site := { s.site with limits := l } } : State).Fits sz ct :=
  h.withTables fun ⟨hp, hc, hs, hr, hce, hrest⟩ => ⟨hp, hc, hs, hr, hl.trans hce, hrest⟩

/-- R178: the levels keep their number. -/
theorem State.Fits.withNotices {u : NoticeUnit} (h : s.Fits sz ct) (hu : u.levels.length = s.notices.levels.length) :
    ({ s with notices := u } : State).Fits sz ct :=
  h.withTables fun ⟨hp, hc, hs, hr, hce, hn, hrest⟩ => ⟨hp, hc, hs, hr, hce, hu.trans hn, hrest⟩

theorem State.Fits.withTags {l : List Nat} (h : s.Fits sz ct) (hl : s.site.tags.length = 4 → l.length = 4) :
    ({ s with site := { s.site with tags := l } } : State).Fits sz ct :=
  h.withTables fun ⟨hp, hc, hs, hr, hce, hn, ht, hrest⟩ => ⟨hp, hc, hs, hr, hce, hn, hl ht, hrest⟩

theorem State.Fits.withCals {f : FrontEnd} (h : s.Fits sz ct) (hc' : f.cals.length = s.fe.cals.length)
    (hs' : f.scan.length = s.fe.scan.length) :
    ({ s with fe := f } : State).Fits sz ct :=
  h.withTables fun ⟨hp, hc, hs, hrest⟩ => ⟨hp, hc'.trans hc, hs'.trans hs, hrest⟩

theorem State.Fits.withPlans {l : List (Option Plan)} (h : s.Fits sz ct) (hl : l.length = s.plans.length) :
    ({ s with plans := l } : State).Fits sz ct :=
  h.withTables fun ⟨hp, hrest⟩ => ⟨hl.trans hp, hrest⟩

theorem State.Fits.withLink {l : Link} (h : s.Fits sz ct)
    (hl : s.link.queue.length ≤ Config.inputFrames → l.queue.length ≤ Config.inputFrames) :
    ({ s with link := l } : State).Fits sz ct :=
  h.withTables fun ⟨hp, hc, hs, hr, hce, hn, ht, hrec, hq⟩ => ⟨hp, hc, hs, hr, hce, hn, ht, hrec, hl hq⟩

@[simp] theorem State.Fits.setPlan {slot : Nat} {p : Option Plan} (h : s.Fits sz ct) :
    (s.setPlan slot p).Fits sz ct :=
  h.withPlans (List.length_set ..)

@[simp] theorem State.Fits.setWallPoint {n : Nat} {p : Point} (h : s.Fits sz ct) : (s.setWallPoint n p).Fits sz ct :=
  h.withWall (h.wallFits.withPoints (List.length_set ..))

@[simp] theorem State.Fits.zeroTilt {n : Nat} (h : s.Fits sz ct) : (s.zeroTilt n).Fits sz ct :=
  h.withWall h.wallFits.zeroTilt

@[simp] theorem State.Fits.setBaseline {n : Nat} {b : Option Int} (h : s.Fits sz ct) :
    (s.setBaseline n b).Fits sz ct :=
  h.setWallPoint.zeroTilt

@[simp] theorem State.Fits.resumeLink (h : s.Fits sz ct) : s.resumeLink.Fits sz ct :=
  State.Fits.arbiter (State.Fits.dropCause h)

@[simp] theorem State.Fits.watchExpires {window : Nat} (h : s.Fits sz ct) : (s.watchExpires window).Fits sz ct :=
  State.Fits.handCause (State.Fits.notice (State.Fits.raise h))

/-! ## Resets and start-up -/

@[simp] theorem State.Fits.cut (h : s.Fits sz ct) : s.cut.Fits sz ct := by
  obtain ⟨-, -, -, hg, hw, ht⟩ := h
  refine ⟨s.s1.cut_fits, s.s2.cut_fits, Winch.rest_fits, Grout.cut_fits hg, hw.cut, fun z => ?_⟩
  obtain ⟨hp, hc, -, hr, hce, hn, htags, hrec, -⟩ := ht z
  exact ⟨hp, hc, rfl, by simpa [State.cut] using hr, hce, hn, htags, hrec, Nat.zero_le _⟩

@[simp] theorem State.Fits.clearByCause (h : s.Fits sz ct) : s.clearByCause.Fits sz ct := by
  unfold State.clearByCause
  extract_lets a b c d cleared
  have hcleared : cleared.Fits sz ct := by
    simp only [cleared]
    split
    · have hp :
      ({ s with s1 := { s.s1 with passed := false }, s2 := { s.s2 with passed := false } } : State).Fits sz ct := h
      exact hp.withTables fun ⟨hp, hc, hs, hr, hce, hn, ht, _, hq⟩ => ⟨hp, hc, hs, hr, hce, hn, ht, rfl, hq⟩
    · exact h
  split
  · exact hcleared.withTags fun _ => rfl
  · exact hcleared

@[simp] theorem State.Fits.loseClock (h : s.Fits sz ct) : s.loseClock.Fits sz ct :=
  State.Fits.notice (State.Fits.raise h)

@[simp] theorem State.Fits.beginStartUp (h : s.Fits sz ct) : s.beginStartUp.Fits sz ct := by
  unfold State.beginStartUp
  extract_lets gathered started cleared cut emptied told clocked
  have hstarted : started.Fits sz ct := h
  have htold : told.Fits sz ct := State.Fits.notice hstarted.clearByCause
  have hclocked : clocked.Fits sz ct := by
    simp only [clocked]
    split
    · exact htold.loseClock
    · exact htold
  exact hclocked

@[simp] theorem State.Fits.leaveReset (h : s.Fits sz ct) : s.leaveReset.Fits sz ct := by
  unfold State.leaveReset
  split
  · exact h
  · exact h.beginStartUp

@[simp] theorem State.Fits.commandReset (h : s.Fits sz ct) : s.commandReset.Fits sz ct := State.Fits.leaveReset h.cut

@[simp] theorem State.Fits.readLines (h : s.Fits sz ct) : s.readLines.Fits sz ct := by
  unfold State.readLines
  split
  · exact h
  · exact State.Fits.notice h

@[simp] theorem State.Fits.finishErase {ok : Bool} (h : s.Fits sz ct) : (s.finishErase ok).Fits sz ct := by
  unfold State.finishErase
  split
  · exact h
  · dsimp only
    split
    · exact h
    · exact State.Fits.raise h

@[simp] theorem State.Fits.endStartUp {ok : Bool} (h : s.Fits sz ct) : (s.endStartUp ok).Fits sz ct := by
  have hread := h.finishErase (ok := ok) |>.readLines
  unfold State.endStartUp
  dsimp only
  split
  · exact State.Fits.withLink (l := { Link.rest with watch := _ }) (State.Fits.notice hread) fun _ => Nat.zero_le _
  · exact hread.withLink (l := { Link.rest with watch := _ }) fun _ => Nat.zero_le _

end

theorem Limits.write_ceilings_length (l : Limits) (index v : Nat) :
    (l.write index v).ceilings.length = l.ceilings.length := by
  unfold Limits.write
  split <;> simp

theorem Limits.writeAll_ceilings_length (items : List (Nat × Nat)) (l : Limits) :
    (l.writeAll items).ceilings.length = l.ceilings.length := by
  unfold Limits.writeAll
  induction items generalizing l with
  | nil => rfl
  | cons i rest ih => rw [List.foldl_cons, ih, Limits.write_ceilings_length]

end
end Sys2Proof.Machine
end

section
namespace Sys2Proof.Machine

/-! ## The blocks of the requests -/

section
variable {sz ct : Prop}

theorem withStation_fits {s : State} (h : s.Fits sz ct) (station : Nat) {act : Stn → State × Answer}
    (hact : ∀ st, (act st).1.Fits sz ct) : (withStation station s act).1.Fits sz ct := by
  unfold withStation
  split
  · exact h
  · split
    · exact hact _
    · exact h

section
variable {s : State}

theorem actTakeNotice_fits (h : s.Fits sz ct) : (actTakeNotice s).1.Fits sz ct := by
  unfold actTakeNotice
  split
  · exact h
  · exact h

theorem actSetNoticeLevel_fits (h : s.Fits sz ct) (selector level : Nat) :
    (actSetNoticeLevel selector level s).1.Fits sz ct := by
  unfold actSetNoticeLevel
  split
  · exact h
  · split
    · exact h
    · split
      · exact h
      · split
        · exact h
        · exact h.withNotices (List.length_set ..)

theorem actDeclare_fits (h : s.Fits sz ct) (d : DeclareBody) : (actDeclare d s).1.Fits sz ct := by
  unfold actDeclare
  (repeat' split) <;> exact h

theorem actAmend_fits (h : s.Fits sz ct) (id : Nat) (items : List AmendItem) :
    (actAmend id items s).1.Fits sz ct := by
  unfold actAmend
  (repeat' split) <;> exact h

theorem actVoid_fits (h : s.Fits sz ct) (id : Nat) : (actVoid id s).1.Fits sz ct := by
  unfold actVoid
  split
  · exact h
  · split
    · exact h
    · split
      · exact State.Fits.withGrout h.modEntry h.groutFits.erased
      · exact h

theorem actLoadPlan_fits (h : s.Fits sz ct) (slot : Nat) (steps : List RawStep) :
    (actLoadPlan slot steps s).1.Fits sz ct := by
  unfold actLoadPlan
  (repeat' split) <;> simp [h]

theorem actStartTest_fits (h : s.Fits sz ct) (station anchor slot : Nat) :
    (actStartTest station anchor slot s).1.Fits sz ct := by
  unfold actStartTest
  (repeat' split) <;> simp [h]

theorem actHoldTest_fits (h : s.Fits sz ct) (station : Nat) : (actHoldTest station s).1.Fits sz ct := by
  refine withStation_fits h station fun st => ?_
  split <;> simp [h]

theorem actResumeTest_fits (h : s.Fits sz ct) (station rebase : Nat) :
    (actResumeTest station rebase s).1.Fits sz ct := by
  unfold actResumeTest
  split
  · exact h
  · refine withStation_fits h station fun st => ?_
    have hc := h.onCtx (st := st) (f := fun c => { c with causes := (c.causes.remove .host).remove .neighbour })
    dsimp only
    (repeat' split) <;> simp [h, hc]

theorem actAbortTest_fits (h : s.Fits sz ct) (station : Nat) : (actAbortTest station s).1.Fits sz ct := by
  refine withStation_fits h station fun st => ?_
  have hf :=
    (h.thawCauses (st := st)).onStn (st := st) (f := fun x => x.startRelease .unloading) fun hx => hx.startRelease
  (repeat' split) <;> simp [h, hf]

theorem actAdjustTest_fits (h : s.Fits sz ct) (station : Nat) (plo ext : RawOption) :
    (actAdjustTest station plo ext s).1.Fits sz ct := by
  unfold actAdjustTest
  split
  · exact h
  · split
    · exact h
    · refine withStation_fits h station fun st => ?_
      dsimp only
      split
      · exact h
      · (iterate 5 (split; · exact h))
        exact h.onCtx

theorem actSetCalibration_fits (h : s.Fits sz ct) (sel : Nat) (zero : Int) (span signed invert : Nat) :
    (actSetCalibration sel zero span signed invert s).1.Fits sz ct := by
  have hr : ({ s with fe := s.fe.setRecord sel zero span signed invert } : State).Fits sz ct := by
    refine h.withCals ?_ ?_ <;> (unfold FrontEnd.setRecord; (repeat' split) <;> simp)
  unfold actSetCalibration
  dsimp only
  (iterate 6 (split; · exact h))
  exact hr.drainSelector

theorem actSetStations_fits (h : s.Fits sz ct) (a b c d : Nat) : (actSetStations a b c d s).1.Fits sz ct := by
  unfold actSetStations
  split <;> simp [h]

theorem actClearFault_fits (h : s.Fits sz ct) (group code : Nat) : (actClearFault group code s).1.Fits sz ct := by
  unfold actClearFault
  (repeat' split) <;> simp [h]

theorem actClearGroup_fits (h : s.Fits sz ct) (group : Nat) : (actClearGroup group s).1.Fits sz ct := by
  unfold actClearGroup
  (repeat' split) <;> simp [h]

theorem actRunSelftest_fits (h : s.Fits sz ct) (guard : Nat) : (actRunSelftest guard s).1.Fits sz ct := by
  unfold actRunSelftest
  (repeat' split) <;> simp [h]

theorem actClearEmergency_fits (h : s.Fits sz ct) : (actClearEmergency s).1.Fits sz ct := by
  unfold actClearEmergency
  dsimp only
  (repeat' split) <;> simp [h]

theorem actWinchRun_fits (h : s.Fits sz ct) (anchor : Nat) : (actWinchRun anchor s).1.Fits sz ct := by
  unfold actWinchRun
  (repeat' split) <;> simp [h]

theorem actWinchStop_fits (h : s.Fits sz ct) : (actWinchStop s).1.Fits sz ct := by
  unfold actWinchStop
  (repeat' split) <;> simp [h]

theorem actAssignPort_fits (h : s.Fits sz ct) (port anchor : Nat) : (actAssignPort port anchor s).1.Fits sz ct := by
  unfold actAssignPort
  (repeat' split) <;> simp [h]

theorem actReleasePort_fits (h : s.Fits sz ct) (port : Nat) : (actReleasePort port s).1.Fits sz ct := by
  unfold actReleasePort
  (repeat' split) <;> simp [h]

/-- R132 check 2: a request joins the queue only where there is room. -/
theorem actGroutRequest_fits (h : s.Fits sz ct) (anchor : Nat) : (actGroutRequest anchor s).1.Fits sz ct := by
  unfold actGroutRequest
  split
  · exact h
  · next hroom =>
    have hroom : s.grout.queue.length < Config.groutPlaces := by
      by_contra hfull
      simp only [firstRefusal, List.find?_cons] at hroom
      cases hg : s.site.enables.g <;> simp [hg, hfull] at hroom
    split
    · exact h
    · split
      · exact h
      · exact (h.joinQueue hroom).arbiter

theorem actGroutCancel_fits (h : s.Fits sz ct) (anchor : Nat) : (actGroutCancel anchor s).1.Fits sz ct := by
  unfold actGroutCancel
  split
  · exact h
  · split
    · exact h
    · exact h.withGrout h.groutFits.erased

theorem actGroutStop_fits (h : s.Fits sz ct) : (actGroutStop s).1.Fits sz ct := by
  unfold actGroutStop
  (repeat' split) <;> simp [h]

theorem actGroutPause_fits (h : s.Fits sz ct) : (actGroutPause s).1.Fits sz ct := by
  unfold actGroutPause
  (repeat' split) <;> simp [h]

theorem actGroutResume_fits (h : s.Fits sz ct) : (actGroutResume s).1.Fits sz ct := by
  unfold actGroutResume
  (iterate 2 (split; · exact h))
  split
  · exact h
  · next p hp =>
    (iterate 2 (split; · exact h))
    exact h.resumePass hp

theorem actSetPoint_fits (h : s.Fits sz ct) (point kind linked limit : Nat) :
    (actSetPoint point kind linked limit s).1.Fits sz ct := by
  unfold actSetPoint
  dsimp only
  (repeat' split) <;> simp [h]

theorem actBaseline_fits (h : s.Fits sz ct) (point action : Nat) : (actBaseline point action s).1.Fits sz ct := by
  unfold actBaseline
  (repeat' split) <;> simp [h]

theorem actCloseAnchor_fits (h : s.Fits sz ct) (anchor : Nat) : (actCloseAnchor anchor s).1.Fits sz ct := by
  unfold actCloseAnchor
  dsimp only
  (repeat' split) <;> simp [h]

theorem actMarkExported_fits (h : s.Fits sz ct) (block : Nat) : (actMarkExported block s).1.Fits sz ct := by
  unfold actMarkExported
  (repeat' split) <;> exact h

theorem actEraseOldest_fits (h : s.Fits sz ct) : (actEraseOldest s).1.Fits sz ct := by
  unfold actEraseOldest
  (repeat' split) <;> exact h

theorem actSetLimits_fits (h : s.Fits sz ct) (items : List (Nat × Nat)) : (actSetLimits items s).1.Fits sz ct := by
  unfold actSetLimits
  dsimp only
  (repeat' split)
  · exact h
  · exact h
  · exact h
  · exact h
  · exact State.Fits.applyMasks (h.withLimits (Limits.writeAll_ceilings_length _ _))

theorem actSetSettings_fits (h : s.Fits sz ct) (items : List (Nat × Nat)) :
    (actSetSettings items s).1.Fits sz ct := by
  unfold actSetSettings
  dsimp only
  (repeat' split) <;> simp [h]

theorem actSetTime_fits (h : s.Fits sz ct) (time : Nat) : (actSetTime time s).1.Fits sz ct := by
  unfold actSetTime
  split <;> simp [h]

theorem actSetTag_fits (h : s.Fits sz ct) (word val : Nat) : (actSetTag word val s).1.Fits sz ct := by
  unfold actSetTag
  split
  · exact h
  · exact h.withTags fun hl => (List.length_set ..).trans hl

theorem actResumeLink_fits (h : s.Fits sz ct) : (actResumeLink s).1.Fits sz ct := by
  unfold actResumeLink
  split <;> simp [h]

theorem actOf_query_fits (h : s.Fits sz ct) {i : Instr} (hi : isQuery i = true) : (actOf i s).1.Fits sz ct := by
  rw [actOf_query hi]
  exact h

/-- The block of every request keeps the sizes and the counts. -/
theorem actOf_fits (h : s.Fits sz ct) (i : Instr) : (actOf i s).1.Fits sz ct := by
  cases i with
  | declare _ d => exact actDeclare_fits h d
  | resumeLink => exact actResumeLink_fits h
  | takeNotice => exact actTakeNotice_fits h
  | setNoticeLevel _ k l => exact actSetNoticeLevel_fits h k l
  | amend _ id items => exact actAmend_fits h id items
  | void _ id => exact actVoid_fits h id
  | loadPlan _ slot steps => exact actLoadPlan_fits h slot steps
  | startTest _ station anchor slot => exact actStartTest_fits h station anchor slot
  | holdTest _ station => exact actHoldTest_fits h station
  | resumeTest _ station rebase => exact actResumeTest_fits h station rebase
  | abortTest _ station => exact actAbortTest_fits h station
  | adjustTest _ station plo ext => exact actAdjustTest_fits h station plo ext
  | setCalibration _ sel zero span signed invert => exact actSetCalibration_fits h sel zero span signed invert
  | setStations _ a b c d => exact actSetStations_fits h a b c d
  | clearFault _ group code => exact actClearFault_fits h group code
  | clearGroup _ group => exact actClearGroup_fits h group
  | runSelftest _ guard => exact actRunSelftest_fits h guard
  | clearEmergency => exact actClearEmergency_fits h
  | winchRun _ anchor => exact actWinchRun_fits h anchor
  | winchStop => exact actWinchStop_fits h
  | assignPort _ port anchor => exact actAssignPort_fits h port anchor
  | releasePort _ port => exact actReleasePort_fits h port
  | groutRequest _ anchor => exact actGroutRequest_fits h anchor
  | groutCancel _ anchor => exact actGroutCancel_fits h anchor
  | groutStop => exact actGroutStop_fits h
  | groutPause => exact actGroutPause_fits h
  | groutResume => exact actGroutResume_fits h
  | setPoint _ point kind linked limit => exact actSetPoint_fits h point kind linked limit
  | baseline _ point action => exact actBaseline_fits h point action
  | closeAnchor _ anchor => exact actCloseAnchor_fits h anchor
  | markExported _ block => exact actMarkExported_fits h block
  | eraseOldest => exact actEraseOldest_fits h
  | setLimits _ items => exact actSetLimits_fits h items
  | setSettings _ items => exact actSetSettings_fits h items
  | setTime _ time => exact actSetTime_fits h time
  | setTag _ word val => exact actSetTag_fits h word val
  | reset | lockLimits | unknownKind | byteReceived | receiverGap | replySent | linkWatchExpiry | powerReset
    | pinReset | startUpEnd | emergencyFallingEdge | sample | holdEnd | creepReading | rampTimeout
    | wholeSecond | releaseDutyEnd | seatPulseEnd | encoderEdge | drumPulse | flowPulse | noFlowTime | noFlow
    | siteMinute | scanComplete | jackOverloadTrip | groutRefusalTrip | groutOverpressureTrip | winchJamTrip
    | winchSlackTrip | neighbourRiseTrip | wallTiltTrip | selftestFail | brakeIntervalExpiry | arbiterServe
    | valveTravelEnd | pauseExpired | appendEnd | eraseEnd | emergencyLineRise | pwmPeriodStart
    | siteClockSecond | resetPinRelease => exact h
  | _ => exact actOf_query_fits h rfl

/-! ## The link -/

@[simp] theorem State.Fits.formReply {k t : Nat} {a : Answer} (h : s.Fits sz ct) : (s.formReply k t a).Fits sz ct := h

theorem State.Fits.answer {kind tag : Nat} {i : Instr} (h : s.Fits sz ct) :
    (s.answer kind tag (actOf i)).Fits sz ct := by
  unfold State.answer
  split
  · exact h
  · exact State.Fits.formReply (actOf_fits h i)

theorem takeFrame_fits (h : s.Fits sz ct) (f : Frame) : (takeFrame f s).Fits sz ct := by
  unfold takeFrame
  split
  · exact h
  · split
    · exact h.answer
    · exact h

/-- R185: the input queue never holds more than its two frames. -/
theorem State.Fits.frameArrives {f : Frame} {take : State → State} (h : s.Fits sz ct)
    (ht : ∀ u : State, u.Fits sz ct → (take u).Fits sz ct) : (s.frameArrives f take).Fits sz ct := by
  unfold State.frameArrives
  split
  · exact h
  · extract_lets watched link joined
    have hw : watched.Fits sz ct := by
      simp only [watched]
      split
      · rw [s.restartWatch_eq]; exact h
      · exact h
    split
    · exact hw
    · next hroom =>
      have hj : joined.Fits sz ct := hw.withLink fun _ => by simpa using hroom
      split
      · exact ht joined hj
      · exact hj

theorem State.Fits.nextFrame (h : s.Fits sz ct) : s.nextFrame.Fits sz ct := by
  have hq : ({ s with link := { s.link with queue := s.link.queue.tail, reply := none } } : State).Fits sz ct :=
    h.withLink fun hl => (List.tail_sublist _).length_le.trans hl
  unfold State.nextFrame
  dsimp only
  split
  · exact hq
  · exact takeFrame_fits hq _

end

/-! ## Every command -/

theorem State.event_fits {s t : State} {f : State → State} (h : s.Fits sz ct) (ht : s.event f = .next t)
    (hf : (f s).Fits sz ct) : t.Fits sz ct := by
  unfold State.event at ht
  injection ht with ht
  subst ht
  split
  · exact hf
  · exact h

theorem State.fits_of_next {t u : State} (ht : (.next u : Host.Outcome State Fault Refusal) = .next t)
    (hu : u.Fits sz ct) : t.Fits sz ct := by
  injection ht with ht
  exact ht ▸ hu

/-- Every command keeps the sizes and the counts. -/
theorem exec_fits (i : Instr) {s t : State} (h : s.Fits sz ct) (ht : exec i s = .next t) : t.Fits sz ct := by
  by_cases hi : i.isRequest = true
  · rw [exec_request hi] at ht
    exact State.fits_of_next ht (h.frameArrives fun _ hu => hu.answer)
  cases i with
  | unknownKind kind tag body => exact State.fits_of_next ht (h.frameArrives fun _ hu => takeFrame_fits hu _)
  | byteReceived b stopError =>
    unfold exec execByteReceived at ht
    refine State.event_fits h ht ?_
    split
    · exact h
    · dsimp only
      split
      · exact h
      · exact State.Fits.frameArrives h fun _ hu => takeFrame_fits hu _
  | receiverGap =>
    unfold exec execReceiverGap at ht
    exact State.event_fits h ht h
  | replySent =>
    unfold exec execReplySent at ht
    refine State.event_fits h ht ?_
    split
    · exact h
    · split
      · exact h.commandReset
      · exact h.nextFrame
  | linkWatchExpiry =>
    unfold exec execLinkWatchExpiry at ht
    refine State.event_fits h ht ?_
    split <;> simp [h]
  | powerReset up lost => exact State.fits_of_next ht (State.Fits.leaveReset h.cut)
  | pinReset => exact State.fits_of_next ht (State.Fits.leaveReset h.cut)
  | resetPinRelease =>
    refine State.fits_of_next ht ?_
    split
    · exact State.Fits.leaveReset h
    · exact h
  | startUpEnd ok =>
    refine State.fits_of_next ht ?_
    split <;> simp [h]
  | emergencyFallingEdge line =>
    have hl : (s.setLine line false).Fits sz ct := by cases line <;> exact h
    refine State.fits_of_next ht ?_
    split
    · dsimp only
      split
      · exact hl.setEmergency
      · exact hl
    · exact h
  | emergencyLineRise line => exact State.fits_of_next ht (by cases line <;> exact h)
  | sample chan code guardFirst =>
    unfold exec execSample at ht
    refine State.event_fits h ht ?_
    cases chan <;> simp [h]
  | holdEnd st =>
    unfold exec execHoldEnd at ht
    refine State.event_fits h ht ?_
    split <;> simp [h]
  | creepReading st =>
    unfold exec execCreepReading at ht
    refine State.event_fits h ht ?_
    split <;> simp [h]
  | rampTimeout st =>
    unfold exec execRampTimeout at ht
    refine State.event_fits h ht ?_
    split <;> simp [h]
  | wholeSecond st =>
    unfold exec execWholeSecond at ht
    exact State.event_fits h ht (h.onStn fun hx => hx.wholeSecond)
  | releaseDutyEnd st =>
    unfold exec execReleaseDutyEnd at ht
    exact State.event_fits h ht (h.onStn id)
  | seatPulseEnd st =>
    unfold exec execSeatPulseEnd at ht
    refine State.event_fits h ht ?_
    split
    · exact h.onStn fun hx => hx.pulseEnd
    · exact h
  | encoderEdge st line =>
    refine State.fits_of_next ht ?_
    split <;> simp [h]
  | drumPulse dirHigh =>
    unfold exec execDrumPulse at ht
    refine State.event_fits h ht (h.withWinch (h.winchFits.withDrum fun hlo hhi => ?_))
    split
    · exact clamp_bounds (by decide) _
    · exact ⟨hlo, hhi⟩
  | flowPulse period =>
    have hp := h.withGrout (h.groutFits.windowPulse (quantum := s.site.settings.quantum) (period := period))
    unfold exec execFlowPulse at ht
    refine State.event_fits h ht ?_
    dsimp only
    split
    · exact h
    · split
      · split
        · exact hp.endPass
        · exact hp
      · exact h.strayPulse
  | noFlowTime =>
    unfold exec execNoFlowTime at ht
    refine State.event_fits h ht ?_
    dsimp only
    split
    · exact h.withGrout (h.groutFits.withFlow id)
    · exact h
  | noFlow =>
    unfold exec execNoFlow at ht
    refine State.event_fits h ht ?_
    split <;> simp [h]
  | siteMinute =>
    unfold exec execSiteMinute at ht
    refine State.event_fits h ht ?_
    split <;> simp [h]
  | scanComplete codes wallFirst =>
    unfold exec execScanComplete at ht
    refine State.event_fits h ht ?_
    have hp : (s.publishScan codes).Fits sz ct := h.publishScan
    dsimp only
    split
    · exact hp.wallScan.riseScan.riseScan
    · exact hp.riseScan.riseScan.wallScan
  | jackOverloadTrip st =>
    unfold exec execJackOverloadTrip at ht
    refine State.event_fits h ht ?_
    split
    · exact h.endSelftest
    · exact State.Fits.overloadTrip (h.onStn fun hx => hx.withOvl (Guard.zero_sound _))
    · exact h
  | groutRefusalTrip =>
    unfold exec execGroutRefusalTrip at ht
    refine State.event_fits h ht ?_
    split
    · exact State.Fits.endPass (h.withGrout h.groutFits.raisePeak)
    · exact h
  | groutOverpressureTrip =>
    unfold exec execGroutOverpressureTrip at ht
    refine State.event_fits h ht ?_
    dsimp only
    split
    · exact h.endSelftest
    · exact State.Fits.overpressureTrip (h.withGrout (h.groutFits.raisePeak.withOverp (Guard.zero_sound _)))
    · exact h
  | winchJamTrip =>
    unfold exec execWinchJamTrip at ht
    refine State.event_fits h ht ?_
    split
    · exact h.endSelftest
    · split <;> simp [h]
  | winchSlackTrip =>
    unfold exec execWinchSlackTrip at ht
    refine State.event_fits h ht ?_
    split <;> simp [h]
  | neighbourRiseTrip st point =>
    unfold exec execNeighbourRiseTrip at ht
    refine State.event_fits h ht ?_
    split
    · exact State.Fits.addCause (h.onStn fun hx =>
        hx.withNbr (fun hl => (zeroAt_length _ _).trans hl) fun hg => zeroAt_sound hg point)
    · exact h
  | wallTiltTrip point =>
    unfold exec execWallTiltTrip at ht
    refine State.event_fits h ht ?_
    dsimp only
    split
    · exact State.Fits.raise (h.withWall (h.wallFits.zeroTilt))
    · exact h
  | selftestFail guard =>
    unfold exec execSelftestFail at ht
    refine State.event_fits h ht ?_
    split
    · exact h
    · split <;> simp [h]
  | brakeIntervalExpiry =>
    unfold exec execBrakeIntervalExpiry at ht
    refine State.event_fits h ht ?_
    split <;> simp [h]
  | arbiterServe =>
    unfold exec execArbiterServe at ht
    exact State.event_fits h ht h.arbiter
  | valveTravelEnd port =>
    have hv := h.modGrout (f := fun g => g.modValve port Valve.travelEnd) h.groutFits.modValve.judgeFlow
    unfold exec execValveTravelEnd at ht
    refine State.event_fits h ht ?_
    dsimp only
    split
    · exact hv
    · next p hp =>
      split
      · exact hv
      · split
        · exact hv.enterPumping hp
        · split
          · exact hv.completePass
          · exact hv
  | pauseExpired =>
    unfold exec execPauseExpired at ht
    refine State.event_fits h ht ?_
    split <;> simp [h]
  | appendEnd ok =>
    unfold exec execAppendEnd at ht
    refine State.event_fits h ht ?_
    split
    · split <;> simp [h]
    all_goals exact h
  | eraseEnd ok =>
    unfold exec execEraseEnd at ht
    refine State.event_fits h ht ?_
    split
    · dsimp only
      split
      · exact State.Fits.raise h
      · split
        · exact State.Fits.endCondition h
        · exact h
    all_goals exact h
  | pwmPeriodStart =>
    unfold exec execPwmPeriodStart at ht
    exact State.event_fits h ht (State.Fits.withGrout (s := { s with
      s1 := { s.s1 with pump := s.s1.pump.apply (s.pumpForce || !s.site.enables.s1) }
      s2 := { s.s2 with pump := s.s2.pump.apply (s.pumpForce || !s.site.enables.s2) } }) h
      (Grout.Fits.judgeFlow h.groutFits))
  | siteClockSecond =>
    refine State.fits_of_next ht ?_
    split
    · exact h
    · dsimp only
      split
      · exact State.Fits.siteMinute h
      · exact h
  | _ => exact absurd rfl hi

/-- A step runs one command, and every command keeps the sizes and the counts. -/
theorem step_fits {s t : State} (h : s.Fits sz ct) (ht : step s = .next t) : t.Fits sz ct := by
  unfold step at ht
  split at ht
  · exact State.fits_of_next ht h
  · next c rest _ => exact exec_fits c (s := { s with pending := rest }) h ht

end
end Sys2Proof.Machine

open Sys2Proof.Machine in
/-- Settles O10: the sizes alone, and the counts alone, are kept by every step. -/
theorem stepKeepsSizesAndCounters : Obligations.StepKeepsSizesAndCounters := by
  unfold Obligations.StepKeepsSizesAndCounters
  refine ⟨fun s t hs ht => ?_, fun s t hs ht => ?_⟩
  · exact t.fits_sizes_iff.1 (step_fits (s.fits_sizes_iff.2 hs) ht)
  · exact t.fits_counts_iff.1 (step_fits (s.fits_counts_iff.2 hs) ht)
end

section
namespace Sys2Proof.Machine

/-! ## Checks that requests share -/

theorem inRange_iff {lo hi n : Nat} : inRange lo hi n = true ↔ lo ≤ n ∧ n ≤ hi := by simp [inRange]

theorem inRange_false {lo hi n : Nat} (h : n < lo ∨ hi < n) : inRange lo hi n = false := by
  rw [← Bool.not_eq_true, inRange_iff]
  omega

/-- R23: the plan slots are 1 to 4. -/
theorem slot_inRange {slot : Nat} (h1 : 1 ≤ slot) (h4 : slot ≤ 4) : inRange 1 Config.planSlots slot = true :=
  inRange_iff.2 ⟨h1, h4⟩

theorem slot_outOfRange {slot : Nat} (h : slot = 0 ∨ 4 < slot) : inRange 1 Config.planSlots slot = false :=
  inRange_false (h.imp_left fun h0 => by omega)

theorem badFlag_false {n : Nat} (h : n ≤ 1) : badFlag n = false := by simp [badFlag, h]

theorem badFlag_true {n : Nat} (h : 1 < n) : badFlag n = true := by simp [badFlag, h]

section
variable {s : State} {n : Nat} {act : Stn → State × Answer}

/-- R47: a station's number is 1 or 2. -/
theorem withStation_none (h1 : n ≠ 1) (h2 : n ≠ 2) : withStation n s act = (s, .plain .outOfRange 1) := by
  simp [withStation, ofCode_none h1 h2]

theorem withStation_disabled {st : Stn} (h : s.enabled st = false) :
    withStation st.code s act = (s, .plain .disabled) := by
  simp [withStation, h]

theorem withStation_enabled {st : Stn} (h : s.enabled st = true) : withStation st.code s act = act st := by
  simp [withStation, h]

end

end Sys2Proof.Machine

open Sys2Proof Sys2Proof.Machine in
/-- Settles O3: every value is that of the constant, and log 4's new part comes back to itself. -/
theorem resetLeavesThePartAtRest : Obligations.ResetLeavesThePartAtRest := by
  unfold Obligations.ResetLeavesThePartAtRest
  refine ⟨rfl, rfl, fun st => ?_, ⟨rfl, rfl, rfl⟩, ⟨rfl, rfl, rfl, rfl, rfl⟩, ⟨rfl, rfl, rfl, by decide⟩, rfl,
    ⟨rfl, rfl⟩,
    ⟨rfl, rfl, rfl, rfl, rfl⟩, ⟨rfl, rfl, rfl⟩, ⟨rfl, rfl, rfl, rfl⟩, rfl, _, rfl, rfl, rfl⟩
  cases st <;> exact ⟨rfl, rfl, rfl, rfl, rfl, rfl, rfl, rfl⟩

open Sys2Proof Sys2Proof.Machine in
/-- Settles O23: GET_PLAN reads the slot; it is a query, and LOAD_PLAN is none. -/
theorem getPlanReturnsTheSlot : Obligations.GetPlanReturnsTheSlot := by
  unfold Obligations.GetPlanReturnsTheSlot
  refine ⟨fun tag slot s hs => ?_, fun tag slot steps s hp hr hq hl => ⟨⟨hp, hr, hq, fun _ => rfl⟩, ?_⟩⟩
  · refine ⟨fun h => ?_, fun h1 h4 he => ?_, fun p h1 h4 he => ?_⟩
    · exact Refuses.of_actOf rfl hs (by simp [actOf, actGetPlan, slot_outOfRange h])
    · exact Serves.of_actOf rfl hs (by simp [actOf, actGetPlan, slot_inRange h1 h4, he])
    · refine Serves.of_actOf rfl hs ?_
      simp only [actOf, actGetPlan, slot_inRange h1 h4, State.taken_plan, he, accept_eq, WField.list_eq, List.length_map,
        ← List.flatMap_def]
      rfl
  · exact State.request_lost hp hr hq hl rfl rfl _
end

section
namespace Sys2Proof.Machine

/-! ## A stressing station with a test -/

section
variable {x : Station} {c : TestCtx}

theorem Station.stop_of_ctx (h : x.ctx = some c) :
    x.stop = { x with pump := { x.pump with cmd := 0 }, relCmd := false, ctx := some { c with motion := none } } := by
  simp [Station.stop, h]

theorem Station.move_of_ctx (h : x.ctx = some c) (k : MotionKind) :
    x.move k =
      { x with
        pump := { x.pump with cmd := if k.rising then c.cap.rampDemand else 0 }
        relCmd := k.lowering
        ctx := some { c with motion := some (.start k x.runLoad) } } := by
  simp [Station.move, h]

theorem Station.startRelease_of_ctx (h : x.ctx = some c) (t : StnState) :
    x.startRelease t =
      { x with
        state := t
        pump := { x.pump with cmd := 0 }
        relCmd := true
        ctx := some { c with motion := some (.start .release x.runLoad), phase := .release } } := by
  simp [Station.startRelease, Station.move_of_ctx h, MotionKind.rising, MotionKind.lowering]

/-- R45: in a state whose movement the decision cancels, the release to zero begins. -/
theorem Station.take_moving (h : x.ctx = some c) (d : Decision)
    (hx : x.state = .ramping ∨ x.state = .holding ∨ x.state = .seeking ∨ x.state = .held) :
    x.take d =
      { x with
        state := .unloading
        pump := { x.pump with cmd := 0 }
        relCmd := true
        ctx := some
          { c with
            decision := some (c.decision.getD d)
            motion := some (.start .release x.runLoad)
            phase := .release } } := by
  have hr :=
    Station.startRelease_of_ctx (x := { x with ctx := some { c with decision := some (c.decision.getD d) } }) rfl
    .unloading
  unfold Station.take
  rcases hx with hx | hx | hx | hx <;> rw [h, hx] <;> exact hr

/-- R45: a running release continues, in UNLOADING. -/
theorem Station.take_releasing (h : x.ctx = some c) (d : Decision) (hx : x.state = .releasing) :
    x.take d = { x with state := .unloading, ctx := some { c with decision := some (c.decision.getD d) } } := by
  simp [Station.take, h, hx]

/-- R45: a seat pulse runs on, and so does a release in UNLOADING; FAULT stays. -/
theorem Station.take_staying (h : x.ctx = some c) (d : Decision)
    (hx : x.state = .seating ∨ x.state = .unloading ∨ x.state = .fault) :
    x.take d = { x with ctx := some { c with decision := some (c.decision.getD d) } } := by
  rcases hx with hx | hx | hx <;> simp [Station.take, h, hx]

end

/-! ## A condition handed to a station -/

section
variable {s : State} {st : Stn} {c : TestCtx}

theorem State.setStn_self (s : State) (st : Stn) : s.setStn st (s.stn st) = s := by cases st <;> rfl

theorem State.modCtx_of_ctx (h : (s.stn st).ctx = some c) (f : TestCtx → TestCtx) :
    s.modCtx st f = s.setStn st { s.stn st with ctx := some (f c) } := by
  simp [State.modCtx, State.modStn, h]

theorem State.modCtx_idle (h : (s.stn st).ctx = none) (f : TestCtx → TestCtx) : s.modCtx st f = s := by
  have hx : { s.stn st with ctx := none } = s.stn st := by rw [← h]
  simp [State.modCtx, State.modStn, h, hx, State.setStn_self]

/-- R49: a test enters HELD. -/
theorem State.hold_of_ctx (h : (s.stn st).ctx = some c) :
    s.hold st =
      (s.setStn st
        { s.stn st with
          state := .held
          pump := { (s.stn st).pump with cmd := 0 }
          relCmd := false
          ctx := some { c with motion := none, holdSamples := 0, topUps := 0 } }).notice
        .testHeld st.origin (some c.anchor) c.causes.bits := by
  simp [State.hold, h]

/-- R48: without a test there is no cause set. -/
theorem State.addCause_idle (h : (s.stn st).ctx = none) (k : Cause) : s.addCause k st = s := by
  simp [State.addCause, h]

/-- R48, R49: a cause holds a test that moves or holds its load. -/
theorem State.addCause_moving (h : (s.stn st).ctx = some c) (k : Cause)
    (hx : (s.stn st).state = .ramping ∨ (s.stn st).state = .holding ∨ (s.stn st).state = .seeking) :
    s.addCause k st =
      (s.setStn st
        { s.stn st with
          state := .held
          pump := { (s.stn st).pump with cmd := 0 }
          relCmd := false
          ctx := some { c with causes := c.causes.add k, motion := none, holdSamples := 0, topUps := 0 } }).notice
        .testHeld st.origin (some c.anchor) (c.causes.add k).bits := by
  have hh := State.hold_of_ctx (s := s.setStn st { s.stn st with ctx := some { c with causes := c.causes.add k } })
    (st := st) (by rw [State.stn_setStn_same])
  rw [State.stn_setStn_same, State.setStn_setStn] at hh
  unfold State.addCause
  rw [State.modCtx_of_ctx h]
  rcases hx with hx | hx | hx <;> rw [h, hx] <;> exact hh

/-- R48: a cause joins the set of a test that is held, seats or releases. -/
theorem State.addCause_joins (h : (s.stn st).ctx = some c) (k : Cause)
    (hx : (s.stn st).state = .held ∨ (s.stn st).state = .seating ∨ (s.stn st).state = .releasing) :
    s.addCause k st = s.setStn st { s.stn st with ctx := some { c with causes := c.causes.add k } } := by
  unfold State.addCause
  rcases hx with hx | hx | hx <;> simp [h, hx, State.modCtx, State.modStn]

/-- R48, R52: no cause joins in UNLOADING or in FAULT. -/
theorem State.addCause_frozen (h : (s.stn st).ctx = some c) (k : Cause)
    (hx : (s.stn st).state = .fault ∨ (s.stn st).state = .unloading ∨ (s.stn st).state = .idle ∨
      (s.stn st).state = .selftest) : s.addCause k st = s := by
  unfold State.addCause
  rcases hx with hx | hx | hx | hx <;> simp [h, hx]

end

/-- R141: a pass that starts or pumps is paused. -/
theorem State.addPassCause_running {s : State} {p : Pass} (hp : s.grout.pass = some p) (k : Cause)
    (hg : s.grout.state = .starting ∨ s.grout.state = .pumping) :
    s.addPassCause k =
      s.modGrout fun g =>
        { g with
          state := .paused
          pass := some
            { p with
              causes := p.causes.add k, noFlow := none, pauseSamples := 0, pauseLimit := s.site.settings.pauseLimit }
          refusal := g.refusal.zero
          pump := { g.pump with cmd := 0 } }.modValve p.port Valve.closeCmd := by
  unfold State.addPassCause
  rcases hg with hg | hg <;> simp [hp, hg]

end Sys2Proof.Machine

open Sys2Proof Sys2Proof.Machine in
/-- Settles O51: what a condition and its end do at each station, by the station's state. -/
theorem conditionsReachEveryStation : Obligations.ConditionsReachEveryStation := by
  unfold Obligations.ConditionsReachEveryStation
  refine ⟨fun s c h => rfl, fun s c st => ?_, fun s r h => ?_, fun s c p hp => ?_, fun s c hp => ?_, fun d => ?_,
    fun s c => rfl⟩
  · refine ⟨fun hx => State.addCause_idle hx c, fun d hd => ?_, fun hx => ?_⟩
    · refine ⟨State.addCause_moving hd c, State.addCause_joins hd c, State.addCause_frozen hd c,
        State.removeCauseAt_fault c, fun hx => ?_⟩
      rw [State.removeCauseAt_not_fault c hx, State.modCtx_of_ctx hd]
    · unfold State.removeCauseAt
      split
      · rfl
      · exact State.modCtx_idle hx _
  · refine ⟨fun hw => by simp [State.endRun, hw], fun run hw hr => ?_⟩
    simp [State.endRun, hw, hr, Guard.zero]
  · refine ⟨fun hg => State.addPassCause_running hp c hg, fun hg => ?_, fun hg => ?_⟩ <;>
      simp [State.addPassCause, hp, hg]
  · simp [State.addPassCause, hp]
  · exact ⟨rfl, rfl, rfl, rfl, rfl, rfl, rfl, rfl, rfl, rfl, d.bits_eq⟩
end

section
namespace Sys2Proof.Machine

/-! ## HOLD_TEST and ABORT_TEST -/

section
variable {s : State} {st : Stn}

/-- R47: a test that moves, holds or is held takes the cause HOST. -/
theorem actHoldTest_moving (he : s.enabled st = true)
    (hx : (s.stn st).state = .ramping ∨ (s.stn st).state = .holding ∨ (s.stn st).state = .seeking ∨
      (s.stn st).state = .held) : actHoldTest st.code s = (s.addCause .host st, .plain .ok) := by
  rw [actHoldTest, withStation_enabled he]
  rcases hx with hx | hx | hx | hx <;> simp [hx]

/-- R51: an abort takes the decision ABORTED, HOST. -/
theorem actAbortTest_decides (he : s.enabled st = true) (hem : s.faults.emergency.set = false)
    (hi : (s.stn st).state ≠ .idle) (ht : (s.stn st).state ≠ .selftest) (hu : (s.stn st).state ≠ .unloading)
    (hf : (s.stn st).state ≠ .fault) : actAbortTest st.code s = (s.takeDecision st (.aborted .host), .plain .ok) := by
  rw [actAbortTest, withStation_enabled he]
  cases hx : (s.stn st).state <;> simp_all

/-- R51: from FAULT the release begins, and the freeze of the cause set ends. -/
theorem actAbortTest_fault (he : s.enabled st = true) (hem : s.faults.emergency.set = false)
    (hx : (s.stn st).state = .fault) :
    actAbortTest st.code s = ((s.thawCauses st).modStn st fun x => x.startRelease .unloading, .plain .ok) := by
  rw [actAbortTest, withStation_enabled he]
  simp [hx, hem]

/-- R190: a request that LINK_LOST holds back is accepted only without it. -/
theorem State.lost_of_accepts {i : Instr} (hs : s.accepts i) (hi : servedWhenLost (frameOf i).kind = false) :
    s.link.lost = false := by
  obtain ⟨-, -, -, hl⟩ := hs
  cases h : s.link.lost
  · rfl
  · exact absurd (hi.symm.trans (hl h)) (by decide)

end

end Sys2Proof.Machine

open Sys2Proof Sys2Proof.Machine in
/-- Settles O31: HOLD_TEST and ABORT_TEST, by the station's state. -/
theorem holdAndAbortTheTest : Obligations.HoldAndAbortTheTest := by
  unfold Obligations.HoldAndAbortTheTest
  intro tag n s hold abort
  refine ⟨fun h1 h2 => ⟨fun hs => ?_, fun hs => ?_⟩, ?_⟩
  · exact Refuses.of_actOf rfl hs (withStation_none h1 h2)
  · exact Refuses.of_actOf rfl hs (withStation_none h1 h2)
  rintro st rfl x
  refine ⟨fun he => ⟨fun hs => ?_, fun hs => ?_⟩, fun he => ⟨fun hs => ?_, fun hs => ?_⟩⟩
  · exact Refuses.of_actOf rfl hs (withStation_disabled (by simpa using he))
  · exact Refuses.of_actOf rfl hs (withStation_disabled (by simpa using he))
  · have he' : (s.taken hold).enabled st = true := by simpa using he
    refine ⟨fun hx => ?_, fun hx => ?_, fun c hc hx => ?_, fun c hc hx => ?_⟩
    · refine Refuses.of_actOf rfl hs ((withStation_enabled he').trans ?_)
      simp [show (s.stn st).state = .fault from hx]
    · refine Refuses.of_actOf rfl hs ((withStation_enabled he').trans ?_)
      rw [State.taken_stn]
      rcases hx with hx | hx | hx | hx | hx <;> simp [show (s.stn st).state = _ from hx]
    · have hc' : ((s.taken hold).stn st).ctx = some c := by simpa using hc
      have hx' : ((s.taken hold).stn st).state = .ramping ∨ ((s.taken hold).stn st).state = .holding ∨
          ((s.taken hold).stn st).state = .seeking := by simpa using hx
      refine Serves.of_actOf rfl hs ((actHoldTest_moving he' ?_).trans ?_)
      · exact hx'.imp_right fun h => h.imp_right .inl
      · rw [State.addCause_moving hc' .host hx', State.taken_stn]
        rfl
    · have hc' : ((s.taken hold).stn st).ctx = some c := by simpa using hc
      have hx' : ((s.taken hold).stn st).state = .held := by simpa using hx
      refine Serves.of_actOf rfl hs ((actHoldTest_moving he' (.inr (.inr (.inr hx')))).trans ?_)
      rw [State.addCause_joins hc' .host (.inl hx'), State.taken_stn]
      rfl
  · have he' : (s.taken abort).enabled st = true := by simpa using he
    refine ⟨fun hx => ?_, fun hx => ?_, fun hi ht hu hem => ?_, fun c hc hem => ?_⟩
    · refine Refuses.of_actOf rfl hs ((withStation_enabled he').trans ?_)
      rw [State.taken_stn]
      rcases hx with hx | hx <;> simp [show (s.stn st).state = _ from hx]
    · refine Refuses.of_actOf rfl hs ((withStation_enabled he').trans ?_)
      simp [show (s.stn st).state = .unloading from hx]
    · refine Refuses.of_actOf rfl hs ((withStation_enabled he').trans ?_)
      have hstate : ((s.taken abort).stn st).state = x.state := by simp [x]
      cases hx : x.state <;> simp_all
    intro decided releasing
    have hlost : s.link.lost = false := State.lost_of_accepts hs rfl
    have hdecides (y : Station) (hy : x.take (.aborted .host) = y) (hi : x.state ≠ .idle) (ht : x.state ≠ .selftest)
        (hu : x.state ≠ .unloading) (hf : x.state ≠ .fault) :
          Serves abort s (fun u => u.setStn st y) (.plain .ok) := by
      refine Serves.of_actOf rfl hs ((actAbortTest_decides he' hem ?_ ?_ ?_ ?_).trans ?_) <;> try rwa
        [State.taken_stn]
      rw [State.takeDecision, State.modStn, State.taken_stn, ← hy]
    refine ⟨fun hx => ?_, fun hx => ?_, fun hx => ?_, fun hx => ?_⟩
    · have hc' : ((s.taken abort).stn st).ctx = some c := by rwa [State.taken_stn]
      refine Serves.of_actOf rfl hs ((actAbortTest_fault he' hem (by rwa [State.taken_stn])).trans ?_)
      rw [State.thawCauses_of_ctx hc', State.modStn, State.stn_setStn_same, State.setStn_setStn,
        Station.startRelease_of_ctx rfl, State.taken_stn]
      simp only [State.taken_faults, hem, State.taken_lost, hlost, Bool.and_false]
      rfl
    · refine hdecides _ (Station.take_moving hc _ hx) ?_ ?_ ?_ ?_ <;> rcases hx with hx | hx | hx | hx <;> simp [hx]
    · exact hdecides _ (Station.take_staying hc _ (.inl hx)) (by simp [hx]) (by simp [hx]) (by simp [hx])
        (by simp [hx])
    · exact hdecides _ (Station.take_releasing hc _ hx) (by simp [hx]) (by simp [hx]) (by simp [hx]) (by simp [hx])
end

section
namespace Sys2Proof.Machine

/-! ## RESUME_TEST -/

section
variable {s : State} {st : Stn} {c : TestCtx}

/-- R50: without a condition cause, nothing is left once HOST and NEIGHBOUR_RISE have gone. -/
theorem CauseSet.remove_host_neighbour {cs : CauseSet} (ht : cs.trip = false) (he : cs.emergency = false)
    (hl : cs.linkLost = false) : (cs.remove .host).remove .neighbour = .none := by
  simp [CauseSet.remove, CauseSet.none, ht, he, hl]

theorem CauseSet.hasCondition_iff (cs : CauseSet) :
    cs.hasCondition = true ↔ cs.trip = true ∨ cs.emergency = true ∨ cs.linkLost = true := by
  simp [CauseSet.hasCondition, or_assoc]

theorem State.restartStep_of_ctx (h : (s.stn st).ctx = some c) :
    s.restartStep st = if c.begun then s.modStn st (·.enterStep true) else s.beginStep st := by
  simp [State.restartStep, h]

/-- R156: a station's context has no part in a capture. -/
theorem State.baselinesOf_setStn (x : Station) (ids : List Nat) (rebase : Bool) (old : List (Option Int)) :
    (s.setStn st x).baselinesOf ids rebase old = s.baselinesOf ids rebase old := by cases st <;> rfl

theorem State.rebase_of_ctx (h : (s.stn st).ctx = some c) :
    s.rebase st =
      s.setStn st
        { s.stn st with
          nbr := (s.stn st).nbr.map Guard.zero
          ctx := some
            { c with
              baselines :=
                s.baselinesOf (((s.entry c.anchor).map (·.decl.neighbours)).getD []) true c.baselines } } := by
  simp [State.rebase, State.modStn, h]

/-- R50: the checks of RESUME_TEST in order. -/
theorem actResumeTest_disabled {n rebase : Nat} (hr : rebase ≤ 1) (hn : n = st.code) (he : s.enabled st = false) :
    actResumeTest n rebase s = (s, .plain .disabled) := by
  simp [actResumeTest, badFlag_false hr, hn, withStation_disabled he]

theorem actResumeTest_fault {n rebase : Nat} (hr : rebase ≤ 1) (hn : n = st.code) (he : s.enabled st = true)
    (hx : (s.stn st).state = .fault) : actResumeTest n rebase s = (s, .plain .faulted) := by
  simp [actResumeTest, badFlag_false hr, hn, withStation_enabled he, hx]

theorem actResumeTest_not_held {n rebase : Nat} (hr : rebase ≤ 1) (hn : n = st.code) (he : s.enabled st = true)
    (hf : (s.stn st).state ≠ .fault) (hx : (s.stn st).state ≠ .held) :
    actResumeTest n rebase s = (s, .plain .wrongStage) := by
  simp [actResumeTest, badFlag_false hr, hn, withStation_enabled he, hf, hx]

theorem actResumeTest_condition {n rebase : Nat} (hr : rebase ≤ 1) (hn : n = st.code) (he : s.enabled st = true)
    (hx : (s.stn st).state = .held) (hc : (s.stn st).ctx = some c) (hcond : c.causes.hasCondition = true) :
    actResumeTest n rebase s = (s, .plain .conditionPresent c.causes.bits) := by
  simp [actResumeTest, badFlag_false hr, hn, withStation_enabled he, hx, hc, hcond]

/-- R50, R156: the station of an accepted RESUME_TEST, before its step starts. -/
def Station.resumed (x : Station) (c : TestCtx) (rebase : Nat) (baselines : List (Option Int)) : Station :=
  { x with
    ctx := some { c with causes := .none, baselines := if rebase = 1 then baselines else c.baselines }
    nbr := if rebase = 1 then x.nbr.map Guard.zero else x.nbr }

theorem actResumeTest_resumes {n rebase : Nat} (hr : rebase ≤ 1) (hn : n = st.code) (he : s.enabled st = true)
    (hx : (s.stn st).state = .held) (hc : (s.stn st).ctx = some c) (hcond : c.causes.hasCondition = false) :
    actResumeTest n rebase s =
      let ids := ((s.entry c.anchor).map (·.decl.neighbours)).getD []
      let v := s.setStn st ((s.stn st).resumed c rebase (s.baselinesOf ids true c.baselines))
      (if c.begun then v.modStn st (·.enterStep true) else v.beginStep st, .plain .ok) := by
  have hnone : ¬(c.causes.trip = true ∨ c.causes.emergency = true ∨ c.causes.linkLost = true) := by
    rw [← CauseSet.hasCondition_iff, hcond]
    decide
  push Not at hnone
  simp only [ne_eq, Bool.not_eq_true] at hnone
  obtain ⟨ht, hem, hl⟩ := hnone
  have hcauses := CauseSet.remove_host_neighbour ht hem hl
  simp only [actResumeTest, badFlag_false hr, hn, withStation_enabled he, hx, hc, hcond, accept_eq,
    State.modCtx_of_ctx hc, hcauses]
  by_cases h1 : rebase = 1
  · rw [if_pos h1, State.rebase_of_ctx (by rw [State.stn_setStn_same])]
    simp only [State.stn_setStn_same, State.setStn_setStn, State.baselinesOf_setStn, State.entry_setStn]
    rw [State.restartStep_of_ctx (by rw [State.stn_setStn_same])]
    simp [Station.resumed, h1, hx]
  · rw [if_neg h1, State.restartStep_of_ctx (by rw [State.stn_setStn_same])]
    simp [Station.resumed, h1, hx]

end

end Sys2Proof.Machine

open Sys2Proof Sys2Proof.Machine in
/-- Settles O32: the checks of RESUME_TEST, and the step it starts afresh. -/
theorem resumeTestRestartsTheStep : Obligations.ResumeTestRestartsTheStep := by
  unfold Obligations.ResumeTestRestartsTheStep
  intro tag n rebase s hs i
  refine ⟨fun hr => ?_, fun hr h1 h2 => ?_, fun st hn hr =>
    ⟨fun he => ?_, fun he => ⟨fun hx => ?_, fun hf hx => ?_, ?_⟩⟩⟩
  · exact Refuses.of_actOf rfl hs (by simp [actOf, i, actResumeTest, badFlag_true hr])
  · exact Refuses.of_actOf rfl hs (by simp [actOf, i, actResumeTest, badFlag_false hr, withStation_none h1 h2])
  · exact Refuses.of_actOf rfl hs (actResumeTest_disabled hr hn (by simpa using he))
  · exact Refuses.of_actOf rfl hs (actResumeTest_fault hr hn (by simpa using he) (by simpa using hx))
  · exact Refuses.of_actOf rfl hs
      (actResumeTest_not_held hr hn (by simpa using he) (by simpa using hf) (by simpa using hx))
  · intro c hx hc
    have hc' : ((s.taken i).stn st).ctx = some c := by simpa using hc
    refine ⟨fun hcond => ?_, fun ht hem hl => ?_⟩
    · exact Refuses.of_actOf rfl hs
        (actResumeTest_condition hr hn (by simpa using he) (by simpa using hx) hc'
          (c.causes.hasCondition_iff.2 hcond))
    · have hcond : c.causes.hasCondition = false := by simp [CauseSet.hasCondition, ht, hem, hl]
      refine Serves.of_actOf rfl hs
        ((actResumeTest_resumes hr hn (by simpa using he) (by simpa using hx) hc' hcond).trans ?_)
      simp only [State.taken_stn, State.taken_entry]
      rfl
end

section
namespace Sys2Proof.Machine

/-! ## ADJUST_TEST -/

/-- The place, from 1, of the first step of a kind. -/
def TestCtx.isPlace (c : TestCtx) (kind : StepKind) (j : Nat) : Prop :=
  1 ≤ j ∧ (c.steps[j - 1]?).map (·.kind) = some kind ∧ ∀ t ∈ c.steps.take (j - 1), t.kind ≠ kind

theorem TestCtx.placeOf_eq_some {c : TestCtx} {kind : StepKind} {j : Nat} :
    c.placeOf kind = some j ↔ c.isPlace kind j := by
  simp only [TestCtx.placeOf, TestCtx.isPlace, Option.map_eq_some_iff, List.findIdx?_eq_some_iff_getElem,
    List.mem_take_iff_getElem, beq_iff_eq]
  constructor
  · rintro ⟨i, ⟨hi, hk, hbefore⟩, rfl⟩
    refine ⟨Nat.le_add_left 1 i, by simp [hi, hk], ?_⟩
    rintro t ⟨n, hn, rfl⟩
    exact hbefore n (by omega)
  · rintro ⟨h1, hk, hbefore⟩
    obtain ⟨t, ht, hk⟩ := hk
    obtain ⟨hi, rfl⟩ := List.getElem?_eq_some_iff.1 ht
    exact ⟨j - 1, ⟨hi, hk, fun n hn => hbefore _ ⟨n, by omega, rfl⟩⟩, by omega⟩

theorem TestCtx.placeOf_eq_none {c : TestCtx} {kind : StepKind} (h : ∀ t ∈ c.steps, t.kind ≠ kind) :
    c.placeOf kind = none := by
  simpa [TestCtx.placeOf] using h

/-- R53: when a step of a kind has begun. -/
theorem TestCtx.hasBegun_iff (c : TestCtx) (kind : StepKind) :
    c.hasBegun kind = true ↔ ∃ j, c.isPlace kind j ∧ (j < c.step ∨ j = c.step ∧ c.begun = true) := by
  simp only [TestCtx.hasBegun, Option.any_eq_true, TestCtx.placeOf_eq_some, Bool.or_eq_true, Bool.and_eq_true,
    decide_eq_true_eq, beq_iff_eq]

/-- R53 check 6: the new P_lo keeps the relations of the declaration, and its lock-off target and lift-off cap stay
within the proof load. -/
theorem TestCtx.ploOk_iff (c : TestCtx) (p : Nat) :
    c.ploOk p = true ↔ 1 ≤ p ∧ p ≤ 30000 ∧ c.pa < p ∧ (2 * (p * (1000 + c.cap.overdrive)) + 1000) / 2000 ≤ c.pp ∧
      p + (2 * (p * c.cap.liftTol) + 1000) / 2000 + c.cap.loadTol ≤ c.pp := by
  simp only [TestCtx.ploOk, Bool.and_eq_true, decide_eq_true_eq, inRange_iff, and_assoc]
  rfl

section
variable {s : State} {st : Stn} {n : Nat} {plo ext : RawOption}

/-- R53, R193: ADJUST_TEST once its codes are found good. -/
theorem actAdjustTest_coded (hp : plo.present ≤ 1) (he : ext.present ≤ 1) (hv : ext.present = 1 → ext.val ≤ 1) :
    badFlag plo.present = false ∧ (badFlag ext.present || (ext.present == 1 && badFlag ext.val)) = false := by
  refine ⟨badFlag_false hp, ?_⟩
  rw [badFlag_false he, Bool.false_or, Bool.and_eq_false_imp, beq_iff_eq]
  exact fun h1 => badFlag_false (hv h1)

/-- R53: the checks of ADJUST_TEST that need a test which can still be adjusted, and what it stages. -/
theorem actAdjustTest_testing {c : TestCtx} (hp : plo.present ≤ 1) (he : ext.present ≤ 1)
    (hv : ext.present = 1 → ext.val ≤ 1) (hn : n = st.code) (hon : s.enabled st = true)
    (hc : (s.stn st).ctx = some c) (hf : (s.stn st).state ≠ .fault) (hu : (s.stn st).state ≠ .unloading) :
    actAdjustTest n plo ext s =
      if plo.present = 1 ∧ (c.shape = .relock ∨ c.hasBegun .lockoff = true) then (s, .plain .wrongStage 10)
      else if plo.present = 1 ∧ (!c.ploOk plo.val) = true then (s, .plain .outOfRange 10)
      else if ext.present = 1 ∧ (c.shape = .relock ∨ c.hasBegun .creep = true) then
        (s, .plain .wrongStage ((c.placeOf .creep).getD Config.noCreepDetail.toNat))
      else
        (s.setStn st
          { s.stn st with
            ctx := some
              { c with
                stagedPlo := if plo.present = 1 then some plo.val else c.stagedPlo
                stagedExt := if ext.present = 1 then some (ext.val == 1) else c.stagedExt } }, .plain .ok) := by
  obtain ⟨h2, h3⟩ := actAdjustTest_coded hp he hv
  subst hn
  simp only [actAdjustTest, h2, h3, withStation_enabled hon, hc, hf, hu, State.modCtx_of_ctx hc]
  rfl

end
end Sys2Proof.Machine

open Sys2Proof Sys2Proof.Machine in
/-- Settles O33: the checks of ADJUST_TEST in their order, with what it is for a step to have begun. -/
theorem adjustTestStagesTheValues : Obligations.AdjustTestStagesTheValues := by
  unfold Obligations.AdjustTestStagesTheValues
  intro tag n plo ext s hs i
  refine ⟨fun hp => ?_, fun hp he => ?_, fun hp he hv =>
    ⟨fun h1 h2 => ?_, fun st hn => ⟨fun hoff => ?_, fun hon => ?_⟩⟩⟩
  · exact Refuses.of_actOf rfl hs (by simp [actOf, i, actAdjustTest, badFlag_true hp])
  · have hbad : (badFlag ext.present || (ext.present == 1 && badFlag ext.val)) = true := by
      rcases he with he | ⟨he, hv⟩
      · simp [badFlag_true he]
      · simp [he, badFlag_true hv]
    exact Refuses.of_actOf rfl hs (by simp only [actOf, i, actAdjustTest, badFlag_false hp, hbad]; rfl)
  all_goals obtain ⟨hgood, hgood'⟩ := actAdjustTest_coded hp he hv
  · exact Refuses.of_actOf rfl hs
      (by simp only [actOf, i, actAdjustTest, hgood, hgood', withStation_none h1 h2]; rfl)
  · subst hn
    have hoff' : (s.taken i).enabled st = false := by rwa [State.taken_enabled]
    exact Refuses.of_actOf rfl hs
      (by simp only [actOf, i, actAdjustTest, hgood, hgood', withStation_disabled hoff']; rfl)
  have hon' : (s.taken i).enabled st = true := by rwa [State.taken_enabled]
  refine ⟨fun hf => ?_, fun hc hf => ?_, fun hu => ?_, fun c hc hf hu => ?_⟩
  · subst hn
    refine Refuses.of_actOf rfl hs ?_
    simp only [actOf, i, actAdjustTest, hgood, hgood', withStation_enabled hon', State.taken_stn, hf]
    cases (s.stn st).ctx <;> rfl
  · subst hn
    refine Refuses.of_actOf rfl hs ?_
    simp only [actOf, i, actAdjustTest, hgood, hgood', withStation_enabled hon', State.taken_stn, hf, hc]
    rfl
  · subst hn
    refine Refuses.of_actOf rfl hs ?_
    simp only [actOf, i, actAdjustTest, hgood, hgood', withStation_enabled hon', State.taken_stn, hu]
    cases (s.stn st).ctx <;> rfl
  intro place begun new tol target fits
  have hbegun (kind : StepKind) : c.hasBegun kind = true ↔ begun kind := c.hasBegun_iff kind
  have hfits : c.ploOk plo.val = true ↔ fits := c.ploOk_iff plo.val
  have hact :=
    actAdjustTest_testing (s := s.taken i) hp he hv hn hon' (by rwa [State.taken_stn]) (by rwa [State.taken_stn])
    (by rwa [State.taken_stn])
  have hnbegun {kind : StepKind} (hfull : c.shape = .full) (hnb : ¬begun kind) :
      ¬(c.shape = .relock ∨ c.hasBegun kind = true) := by
    rw [hbegun, hfull]
    exact fun hb => hb.elim (by decide) hnb
  refine ⟨fun h1 hb => Refuses.of_actOf rfl hs (hact.trans (if_pos ⟨h1, hb.imp_right (hbegun _).2⟩)), fun hplo => ?_⟩
  have hfirst : ¬(plo.present = 1 ∧ (c.shape = .relock ∨ c.hasBegun .lockoff = true)) := by
    rintro ⟨h1, hb⟩
    rcases hplo with h0 | ⟨hfull, hnb⟩
    · omega
    · exact hnbegun hfull hnb hb
  rw [if_neg hfirst] at hact
  have hnfits : (!c.ploOk plo.val) = true ↔ ¬fits := by rw [Bool.not_eq_true', ← Bool.not_eq_true, hfits]
  refine ⟨fun h1 hnf => Refuses.of_actOf rfl hs (hact.trans (if_pos ⟨h1, hnfits.2 hnf⟩)), fun hok => ?_⟩
  have hsecond : ¬(plo.present = 1 ∧ (!c.ploOk plo.val) = true) := by
    rw [hnfits]
    rintro ⟨h1, hnf⟩
    rcases hok with h0 | hok
    · omega
    · exact hnf hok
  rw [if_neg hsecond] at hact
  refine ⟨fun h1 hb => ?_, fun hext => ?_⟩
  · rw [if_pos ⟨h1, hb.imp_right (hbegun _).2⟩] at hact
    refine ⟨fun j hj => ?_, fun hnone => ?_⟩
    · rw [TestCtx.placeOf_eq_some.2 hj] at hact
      exact Refuses.of_actOf rfl hs hact
    · rw [TestCtx.placeOf_eq_none hnone] at hact
      exact Refuses.of_actOf rfl hs hact
  · have hthird : ¬(ext.present = 1 ∧ (c.shape = .relock ∨ c.hasBegun .creep = true)) := by
      rintro ⟨h1, hb⟩
      rcases hext with h0 | ⟨hfull, hnb⟩
      · omega
      · exact hnbegun hfull hnb hb
    rw [if_neg hthird, State.taken_stn] at hact
    exact Serves.of_actOf rfl hs hact
end

section
namespace Sys2Proof.Machine

/-! ## The timed events of a movement -/

section
variable {s : State} {st : Stn}

theorem exec_rampTimeout (h : s.phase = .running) :
    exec (.rampTimeout st) s =
      .next (if (s.stn st).timed then s.takeDecision st (.aborted .rampTimeout) else s) := State.event_running h _

theorem exec_wholeSecond (h : s.phase = .running) :
    exec (.wholeSecond st) s = .next (s.setStn st (s.stn st).wholeSecond) :=
  State.event_running h fun s => s.modStn st Station.wholeSecond

theorem exec_releaseDutyEnd (h : s.phase = .running) :
    exec (.releaseDutyEnd st) s = .next (s.setStn st { s.stn st with relCmd := false }) :=
  State.event_running h fun s => s.modStn st fun x => { x with relCmd := false }

theorem exec_seatPulseEnd (h : s.phase = .running) :
    exec (.seatPulseEnd st) s =
      .next (if (s.stn st).seat.isSome then s.setStn st (s.stn st).pulseEnd else s) := State.event_running h _

end

section
variable {x : Station} {c : TestCtx} {m : Motion}

/-- R35: the ramp or seek that runs against a time. -/
theorem Station.timed_iff (hc : x.ctx = some c) (hm : c.motion = some m) :
    x.timed = true ↔
      (x.state = .ramping ∨ x.state = .seeking) ∧ (m.kind = .rampUp ∨ m.kind = .rampDown ∨ m.kind = .seek) := by
  simp [Station.timed, hc, hm, or_assoc]

theorem Station.timed_state (h : x.timed = true) : x.state = .ramping ∨ x.state = .seeking := by
  simp only [Station.timed, Bool.and_eq_true, Bool.or_eq_true, beq_iff_eq] at h
  exact h.1

theorem Station.timed_motion (h : x.timed = true) : ∃ c m, x.ctx = some c ∧ c.motion = some m := by
  simp only [Station.timed, Bool.and_eq_true, Option.any_eq_true, Option.bind_eq_some_iff] at h
  obtain ⟨-, m, ⟨c, hc, hm⟩, -⟩ := h
  exact ⟨c, m, hc, hm⟩

/-- Without a movement a whole second changes nothing. -/
theorem Station.wholeSecond_still (h : x.ctx = none ∨ ∃ c, x.ctx = some c ∧ c.motion = none) : x.wholeSecond = x := by
  rcases h with hc | ⟨c, hc, hm⟩
  · simp [Station.wholeSecond, hc]
  · simp [Station.wholeSecond, hc, hm]

/-- R33: a ramp that has not fixed its direction has no gate. -/
theorem Station.wholeSecond_ramp (hc : x.ctx = some c) (hm : c.motion = some m) (hk : m.kind = .ramp) :
    x.wholeSecond = x := by
  simp [Station.wholeSecond, hc, hm, hk]

/-- R33: the gate of a rising load throttles the pump. -/
theorem Station.wholeSecond_rising (hc : x.ctx = some c) (hm : c.motion = some m)
    (hk : m.kind = .rampUp ∨ m.kind = .topUp ∨ m.kind = .seek) :
    x.wholeSecond =
      { x with
        pump := { x.pump with cmd := if m.secLoad + c.rate m < x.runLoad then 0 else c.cap.rampDemand }
        relCmd := false
        ctx := some { c with motion := some { m with second := 0, secLoad := x.runLoad } } } := by
  by_cases hfast : m.secLoad + c.rate m < x.runLoad <;> rcases hk with hk | hk | hk <;>
    simp [Station.wholeSecond, hc, hm, hk, hfast, MotionKind.rising, MotionKind.lowering]

/-- R33: the gate of a falling load throttles the release valve. -/
theorem Station.wholeSecond_lowering (hc : x.ctx = some c) (hm : c.motion = some m)
    (hk : m.kind = .rampDown ∨ m.kind = .correction ∨ m.kind = .release) :
    x.wholeSecond =
      { x with
        pump := { x.pump with cmd := 0 }
        relCmd := decide (m.secLoad ≤ x.runLoad + c.rate m)
        ctx := some { c with motion := some { m with second := 0, secLoad := x.runLoad } } } := by
  by_cases hslow : m.secLoad ≤ x.runLoad + c.rate m <;> rcases hk with hk | hk | hk <;>
    simp [Station.wholeSecond, hc, hm, hk, hslow, not_le.1, MotionKind.rising, MotionKind.lowering]

/-- R43, R52: the end of the seat pulse of a test that seats starts the release. -/
theorem Station.pulseEnd_seating (hc : x.ctx = some c) (hx : x.state = .seating) :
    x.pulseEnd =
      { x with
        seat := none
        pump := { x.pump with cmd := 0 }
        relCmd := true
        state := if c.decision.isSome then .unloading else .releasing
        ctx := some { c with motion := some (.start .release x.runLoad), phase := .release } } := by
  unfold Station.pulseEnd
  split
  · next d hd =>
    obtain rfl : d = c := Option.some.inj (hd.symm.trans hc)
    rw [if_pos hx]
    exact Station.startRelease_of_ctx (x := { x with seat := none }) hc _
  · next hd => exact absurd (hd.symm.trans hc) (by simp)

theorem Station.pulseEnd_other (hx : x.state ≠ .seating) : x.pulseEnd = { x with seat := none } := by
  unfold Station.pulseEnd
  cases x.ctx
  · rfl
  · simp [hx]

end

end Sys2Proof.Machine

open Sys2Proof Sys2Proof.Machine in
/-- Settles O37: each event by the kind of the movement and the state of the station. -/
theorem timedEventsOfAMovement : Obligations.TimedEventsOfAMovement := by
  unfold Obligations.TimedEventsOfAMovement
  intro st s hp x
  refine ⟨fun c m hc hm => ?_, fun hx => ?_, fun hx => ?_, exec_releaseDutyEnd hp, fun hseat => ?_, fun p hseat =>
    ⟨fun hx => ?_, fun c hx hc => ?_⟩⟩
  · intro rate gated
    have hrate : c.rate m = rate := rfl
    refine ⟨fun hx => ?_, fun hk => ?_, fun hk => ?_, fun hk => ⟨?_, ?_⟩⟩
    · have ht : x.timed = true := by
        rw [Station.timed_iff hc hm]
        rcases hx with ⟨hx, hk | hk⟩ | ⟨hx, hk⟩ <;> simp [hx, hk]
      rw [exec_rampTimeout hp, if_pos ht, State.takeDecision, State.modStn, Station.take_moving hc]
      rcases Station.timed_state ht with h | h
      · exact .inl h
      · exact .inr (.inr (.inl h))
    · rw [exec_wholeSecond hp, Station.wholeSecond_rising hc hm hk]
      rfl
    · rw [exec_wholeSecond hp, Station.wholeSecond_lowering hc hm hk]
      rfl
    · rw [exec_rampTimeout hp, if_neg]
      rw [Station.timed_iff hc hm, hk]
      simp
    · rw [exec_wholeSecond hp, Station.wholeSecond_ramp hc hm hk, State.setStn_self]
  · rw [exec_rampTimeout hp, if_neg]
    intro ht
    obtain ⟨c, m, hc, -⟩ := Station.timed_motion ht
    rcases hx with ⟨h1, h2⟩ | hnone
    · exact (Station.timed_state ht).elim h1 h2
    · exact absurd (hnone.symm.trans hc) (by simp)
  · refine ⟨?_, ?_⟩
    · rw [exec_rampTimeout hp, if_neg]
      intro ht
      obtain ⟨c, m, hc, hm⟩ := Station.timed_motion ht
      rcases hx with hnone | ⟨d, hd, hnone⟩
      · exact absurd (hnone.symm.trans hc) (by simp)
      · obtain rfl : d = c := Option.some.inj (hd.symm.trans hc)
        exact absurd (hnone.symm.trans hm) (by simp)
    · rw [exec_wholeSecond hp, Station.wholeSecond_still hx, State.setStn_self]
  · rw [exec_seatPulseEnd hp, show (s.stn st).seat = none from hseat]
    rfl
  · rw [exec_seatPulseEnd hp, if_pos (by simp [show (s.stn st).seat = some p from hseat]), Station.pulseEnd_other hx]
  · rw [exec_seatPulseEnd hp, if_pos (by simp [show (s.stn st).seat = some p from hseat]),
      Station.pulseEnd_seating hc hx]
end

section
namespace Sys2Proof.Machine

/-! ## A trip of the jack overload guard -/

section
variable {s : State} {st : Stn} {c : TestCtx}

/-- R52: during a test, but not in UNLOADING, the station goes to FAULT. -/
theorem Station.overload_of_ctx {x : Station} (hc : x.ctx = some c) (hx : x.state ≠ .unloading) :
    x.overload =
      { x with
        state := .fault
        pump := { x.pump with cmd := 0 }
        relCmd := false
        ctx := some { c with motion := none, decision := some (c.decision.getD (.aborted .overload)) } } := by
  have hstop := Station.stop_of_ctx hc
  cases hs : x.state
  case unloading => exact absurd hs hx
  all_goals simp [Station.overload, hc, hs, hstop]

theorem Station.overload_unloading {x : Station} (hx : x.state = .unloading) : x.overload = x := by
  cases hc : x.ctx <;> simp [Station.overload, hx, hc]

/-- R95, R96: the trip resets the guard's count and acts on the test. -/
theorem exec_jackOverloadTrip_testing {y : Station} (h : s.phase = .running) (hc : (s.stn st).ctx = some c)
    (hx : (s.stn st).state ≠ .selftest)
    (hy : ({ s.stn st with ovl := (s.stn st).ovl.zero } : Station).overload = y) :
    exec (.jackOverloadTrip st) s = .next ((s.setStn st y).raise (.overload st)) := by
  have hself : s.selfOf (.overload st) = none := if_neg hx
  change execJackOverloadTrip st s = _
  unfold execJackOverloadTrip
  rw [State.event_running h]
  rw [hself, hc, ← hy]
  simp only [State.overloadTrip, State.modStn, State.stn_setStn_same, State.setStn_setStn]

end

end Sys2Proof.Machine

open Sys2Proof Sys2Proof.Machine in
/-- Settles O38: the trip by the state of the station. -/
theorem jackOverloadTripStopsTheTest : Obligations.JackOverloadTripStopsTheTest := by
  unfold Obligations.JackOverloadTripStopsTheTest
  intro st s hp x quiet
  refine ⟨fun c hc hx => ⟨fun hu => ?_, fun hu => ?_⟩, fun self hx hself => ?_, fun hc hx => ?_⟩
  · exact exec_jackOverloadTrip_testing hp hc hx (Station.overload_of_ctx (x := { x with ovl := quiet }) hc hu)
  · exact exec_jackOverloadTrip_testing hp hc hx (Station.overload_unloading hu)
  · have hs : s.selfOf (.overload st) = some self := (if_pos hx).trans hself
    change execJackOverloadTrip st s = _
    unfold execJackOverloadTrip
    rw [State.event_running hp, hs]
  · have hs : s.selfOf (.overload st) = none := if_neg hx
    change execJackOverloadTrip st s = _
    unfold execJackOverloadTrip
    rw [State.event_running hp, hs, show (s.stn st).ctx = none from hc]
end

section
namespace Sys2Proof.Machine

/-! ## Readings -/

section
variable (c : TestCtx) (k : ReadingKind) (due load : Nat) (disp : Int) (time : Nat)

@[simp] theorem TestCtx.read_dispAt_last : (c.read k due load disp time).dispAt c.readings.length = disp := by
  simp [TestCtx.read, TestCtx.dispAt]

theorem TestCtx.read_dispAt_before {i : Nat} (h : i < c.readings.length) :
    (c.read k due load disp time).dispAt i = c.dispAt i := by
  simp [TestCtx.read, TestCtx.dispAt, List.getElem?_append_left h]

end

/-! ## The creep judgement -/

section
variable {d : TestCtx}

/-- R59: the first two readings are not judged. -/
theorem TestCtx.judgeCreep_early (h3 : d.creepTaken ≠ 3) (h4 : d.creepTaken ≠ 4) : d.judgeCreep = (d, false) := by
  unfold TestCtx.judgeCreep
  split
  · contradiction
  · contradiction
  · rfl

variable {last : Nat} {ks : Int} (hl : d.readings.length - 1 = last) (hks : d.dispAt last - d.dispAt (last - 2) = ks)

include hl hks

/-- R59, R61: the third reading is judged against the cap; where it fails, an extended hold goes on. -/
theorem TestCtx.judgeCreep_third (h : d.creepTaken = 3) :
    d.judgeCreep =
      if ks ≤ d.cap.creepLimit then ({ d with creep := ⟨some ks, none, some last, false⟩ }, true)
      else if d.extInForce then ({ d with creep := { d.creep with ksPrimary := some ks } }, false)
      else ({ d with creep := ⟨some ks, none, some last, true⟩ }, true) := by
  subst hl hks
  simp only [TestCtx.judgeCreep, h]

/-- R60: the fourth reading ends the extended hold. -/
theorem TestCtx.judgeCreep_fourth (h : d.creepTaken = 4) :
    d.judgeCreep =
      ({ d with creep :=
        ⟨d.creep.ksPrimary, some ks, some last, decide ((d.cap.creepLimit : Int) < ks)⟩ }, true) := by
  subst hl hks
  simp only [TestCtx.judgeCreep, h]

end

section
variable {s : State} {st : Stn} {c : TestCtx}

/-- The drives stop, on a state whose station holds a test. -/
theorem State.modStn_stop (h : (s.stn st).ctx = some c) :
    s.modStn st Station.stop =
      s.setStn st
        { s.stn st with
          pump := { (s.stn st).pump with cmd := 0 }, relCmd := false, ctx := some { c with motion := none } } := by
  rw [State.modStn, Station.stop_of_ctx h]

/-- R40: the context after the next creep reading, before it is judged. -/
def Station.creepRead (x : Station) (c : TestCtx) (clock : Nat) : TestCtx :=
  { c.read .creep (creepDue c.creepTaken) x.runLoad x.runDisp clock with creepTaken := c.creepTaken + 1 }

/-- R40: the context as the reading leaves it; where the hold ends, the step completes. -/
theorem State.creepReading_of_ctx (hc : (s.stn st).ctx = some c) :
    s.creepReading st =
      let j := ((s.stn st).creepRead c s.site.clock).judgeCreep
      let u := s.setStn st { s.stn st with ctx := some j.1 }
      if j.2 then (u.modStn st Station.stop).completeStep st else u := by
  simp only [State.creepReading, hc]
  rfl

/-- R40: a reading that leaves the hold running. -/
theorem State.creepReading_goes {d : TestCtx} (hc : (s.stn st).ctx = some c)
    (hj : ((s.stn st).creepRead c s.site.clock).judgeCreep = (d, false)) :
    s.creepReading st = s.setStn st { s.stn st with ctx := some d } := by
  rw [State.creepReading_of_ctx hc, hj]
  rfl

/-- R40: a reading that ends the hold, and with it the step. -/
theorem State.creepReading_ends {d : TestCtx} (hc : (s.stn st).ctx = some c)
    (hj : ((s.stn st).creepRead c s.site.clock).judgeCreep = (d, true)) :
    s.creepReading st =
      (s.setStn st
        { s.stn st with
          pump := { (s.stn st).pump with cmd := 0 }, relCmd := false
          ctx := some { d with motion := none } }).completeStep st := by
  rw [State.creepReading_of_ctx hc, hj]
  dsimp only
  rw [if_pos rfl, State.modStn_stop (c := d)
    (by rw [State.stn_setStn_same]), State.stn_setStn_same, State.setStn_setStn]

/-- R59, R60: the difference that a third or fourth creep reading forms. -/
theorem Station.creepRead_difference (x : Station) (h : 2 ≤ c.readings.length) (clock : Nat) :
    let d := x.creepRead c clock
    d.readings.length - 1 = c.readings.length ∧
      d.dispAt c.readings.length - d.dispAt (c.readings.length - 2) =
        x.runDisp - c.dispAt (c.readings.length - 2) := by
  have hbefore := c.read_dispAt_before .creep (creepDue c.creepTaken) x.runLoad x.runDisp clock
    (i := c.readings.length - 2) (by omega)
  have hlast := c.read_dispAt_last .creep (creepDue c.creepTaken) x.runLoad x.runDisp clock
  exact ⟨by simp [Station.creepRead, TestCtx.read], congr (congrArg _ hlast) hbefore⟩

theorem exec_creepReading {t : PlanStep} (h : s.phase = .running) (hx : (s.stn st).state = .holding)
    (hc : (s.stn st).ctx = some c) (ht : c.current = some t) (hk : t.kind = .creep) :
    exec (.creepReading st) s = .next (s.creepReading st) := by
  change execCreepReading st s = _
  unfold execCreepReading
  rw [State.event_running h, if_pos ⟨hx, by simp [hc, TestCtx.kind, ht, hk]⟩]

end

end Sys2Proof.Machine

open Sys2Proof Sys2Proof.Machine in
/-- Settles O36: each of the four creep readings. -/
theorem creepReadingsAreTakenAndJudged : Obligations.CreepReadingsAreTakenAndJudged := by
  unfold Obligations.CreepReadingsAreTakenAndJudged
  intro st s c t hp hc ht hk x read ks last done
  refine ⟨fun hx => ?_, fun hx => ?_⟩
  · change execCreepReading st s = _
    unfold execCreepReading
    rw [State.event_running hp, if_neg fun h => hx h.1]
  rw [exec_creepReading hp hx hc ht hk]
  have hread {n : Nat} (hn : creepDue c.creepTaken = n) : x.creepRead c s.site.clock = read n := by subst hn; rfl
  have hjudged (n : Nat) (hn : creepDue c.creepTaken = n) (hlen : 2 ≤ c.readings.length) :
      (read n).readings.length - 1 = last ∧ (read n).dispAt last - (read n).dispAt (last - 2) = ks :=
    hread hn ▸ x.creepRead_difference hlen s.site.clock
  refine ⟨fun h0 => ?_, fun h1 => ?_, fun h2 hlen => ?_, fun h3 hlen => ?_⟩
  · have hn : creepDue c.creepTaken = 60 := by rw [h0]; rfl
    have hj := TestCtx.judgeCreep_early (d := read 60) (by simp [read, h0]) (by simp [read, h0])
    exact congrArg _ (State.creepReading_goes hc ((congrArg _ (hread hn)).trans hj))
  · have hn : creepDue c.creepTaken = 300 := by rw [h1]; rfl
    have hj := TestCtx.judgeCreep_early (d := read 300) (by simp [read, h1]) (by simp [read, h1])
    exact congrArg _ (State.creepReading_goes hc ((congrArg _ (hread hn)).trans hj))
  · have hn : creepDue c.creepTaken = 600 := by rw [h2]; rfl
    obtain ⟨hlast, hks⟩ := hjudged 600 hn hlen
    have hj := (congrArg _ (hread hn)).trans (TestCtx.judgeCreep_third hlast hks (by simp [read, h2]))
    split
    · next hok => exact congrArg _ (State.creepReading_ends hc (hj.trans (if_pos hok)))
    · next hbad =>
      have hj := hj.trans (if_neg hbad)
      split
      · next hext => exact congrArg _ (State.creepReading_goes hc (hj.trans (if_pos hext)))
      · next hext => exact congrArg _ (State.creepReading_ends hc (hj.trans (if_neg hext)))
  · have hn : creepDue c.creepTaken = 3000 := by rw [h3]; rfl
    obtain ⟨hlast, hks⟩ := hjudged 3000 hn hlen
    have hj := TestCtx.judgeCreep_fourth hlast hks (by simp [read, h3])
    exact congrArg _ (State.creepReading_ends hc ((congrArg _ (hread hn)).trans hj))
end

section
namespace Sys2Proof.Machine

/-! ## The end of a hold -/

section
variable {s : State} {st : Stn} {c : TestCtx} {t : PlanStep}

theorem TestCtx.kind_of_current (ht : c.current = some t) : c.kind = some t.kind := by
  rw [TestCtx.kind, ht, Option.map_some]

/-- The station at the end of its hold, with its drives off and its context as the hold leaves it. -/
def Station.held (x : Station) (e : Encoder) (c : TestCtx) : Station :=
  { x with pump := { x.pump with cmd := 0 }, relCmd := false, enc := e, ctx := some { c with motion := none } }

section
variable (hc : (s.stn st).ctx = some c) (ht : c.current = some t)

include hc ht

/-- R38. -/
theorem State.holdEnd_datum (hk : t.kind = .datum) :
    s.holdEnd st =
      (s.setStn st
        ((s.stn st).held (s.stn st).enc.zero
          (c.read .step t.hold (s.stn st).runLoad 0 s.site.clock))).completeStep st := by
  have hkind : ({ c with motion := none } : TestCtx).kind = some .datum :=
    (c.kind_of_current ht).trans (congrArg _ hk)
  have hcur : ({ c with motion := none } : TestCtx).current = some t := ht
  simp only [State.holdEnd, State.modStn_stop hc, State.stn_setStn_same, hkind, hcur]
  simp only [State.modStn, State.stn_setStn_same, State.setStn_setStn, State.setStn_site]
  rfl

/-- R39. -/
theorem State.holdEnd_load (hk : t.kind = .load) :
    s.holdEnd st =
      (s.setStn st
        ((s.stn st).held (s.stn st).enc
          (c.read .step t.hold (s.stn st).runLoad (s.stn st).runDisp s.site.clock))).completeStep st := by
  have hkind : ({ c with motion := none } : TestCtx).kind = some .load := (c.kind_of_current ht).trans (congrArg _ hk)
  have hcur : ({ c with motion := none } : TestCtx).current = some t := ht
  simp only [State.holdEnd, State.modStn_stop hc, State.stn_setStn_same, hkind, hcur]
  simp only [State.modStn, State.stn_setStn_same, State.setStn_setStn, State.setStn_site]
  rfl

/-- R42. -/
theorem State.holdEnd_lockoff (hk : t.kind = .lockoff) :
    s.holdEnd st = (s.setStn st ((s.stn st).held (s.stn st).enc c)).seatEvent st := by
  have hkind : ({ c with motion := none } : TestCtx).kind = some .lockoff :=
    (c.kind_of_current ht).trans (congrArg _ hk)
  simp only [State.holdEnd, State.modStn_stop hc, State.stn_setStn_same, hkind]
  rfl

/-- R41: the permanent reading is taken, and L_app and creep are judged. -/
theorem State.holdEnd_unload {e : Entry} (he : s.entry c.anchor = some e) (hk : t.kind = .unload) :
    let d := c.read .step t.hold (s.stn st).runLoad (s.stn st).runDisp s.site.clock
    let j := d.judgeUnload e.decl
    let judged := s.setStn st ((s.stn st).held (s.stn st).enc { d with figures := some j.1 })
    s.holdEnd st = if j.2 = [] then judged.completeStep st else judged.takeDecision st (.failed j.2) := by
  have hkind : ({ c with motion := none } : TestCtx).kind = some .unload :=
    (c.kind_of_current ht).trans (congrArg _ hk)
  have hcur : ({ c with motion := none } : TestCtx).current = some t := ht
  simp only [State.holdEnd, State.modStn_stop hc, State.stn_setStn_same, hkind, hcur]
  simp only [State.modStn, State.stn_setStn_same, State.setStn_setStn, State.setStn_site, State.entry_setStn,
    TestCtx.read, he]
  rfl

end

theorem exec_holdEnd (h : s.phase = .running) (hx : (s.stn st).state = .holding) (hc : (s.stn st).ctx = some c)
    (ht : c.current = some t) (hk : t.kind ≠ .creep) : exec (.holdEnd st) s = .next (s.holdEnd st) := by
  have hkind : (s.stn st).ctx.bind (·.kind) ≠ some .creep := by
    rw [hc, Option.bind_some, c.kind_of_current ht]
    exact fun he => hk (Option.some.inj he)
  change execHoldEnd st s = _
  unfold execHoldEnd
  rw [State.event_running h, if_pos ⟨hx, hkind⟩]

/-- R62: the permanent reading is the last one. -/
theorem TestCtx.judgeUnload_read (d : Decl) (due load : Nat) (disp : Int) (time : Nat) :
    let f := unloadFigures d c.pp c.pa c.cap.loPct c.cap.hiPct
      ((c.read .step due load disp time).dispAt (c.creep.peak.getD 0) - disp)
    (c.read .step due load disp time).judgeUnload d =
      (f.1, (if c.creep.failed then [.creepExceeded] else []) ++ f.2) := by
  have hlast : (c.read .step due load disp time).readings.length - 1 = c.readings.length := by simp [TestCtx.read]
  simp only [TestCtx.judgeUnload, hlast, TestCtx.read_dispAt_last]
  rfl

end

/-- R63, R64: the figures of an UNLOAD judgement, written out. -/
theorem unloadFigures_eq (d : Decl) (pp pa lo hi : Nat) (ds : Int) :
    let divisor := (pp - pa) * 100000
    let exact := (2 * (d.area * d.modulus * ds.toNat) + divisor) / (2 * divisor)
    let f : LAppFigures :=
      { lApp := if ds ≤ 0 then 0 else min 65535 exact
        lower := (d.lFree * lo + 99) / 100
        upper := d.lFree + d.lBond * hi / 100 }
    unloadFigures d pp pa lo hi ds =
      (f,
        (if ds ≤ 0 then [.elasticNonpositive] else if 65535 < exact then [.lappClamped] else []) ++ boundReasons f) := by
  intro divisor exact
  have happ : lAppOf d.area d.modulus pp pa ds =
      (if ds ≤ 0 then 0 else min 65535 exact,
        if ds ≤ 0 then [.elasticNonpositive] else if 65535 < exact then [.lappClamped] else []) := by
    unfold lAppOf
    split
    · rfl
    · change (if 65535 < exact then (65535, [Reason.lappClamped]) else (exact, [])) = _
      split
      · next h => rw [min_eq_left h.le]
      · next h => rw [min_eq_right (not_lt.1 h)]
  simp only [unloadFigures, happ]
  rfl

end Sys2Proof.Machine

open Sys2Proof Sys2Proof.Machine in
/-- Settles O34: the end of a hold by the kind of its step, and the figures of L_app. -/
theorem holdEndCompletesTheStep : Obligations.HoldEndCompletesTheStep := by
  unfold Obligations.HoldEndCompletesTheStep
  refine ⟨fun st s hp => ⟨fun hx => ?_, fun c t hx hc ht => ?_⟩, fun d pp pa lo hi ds _ => ?_⟩
  · change execHoldEnd st s = _
    unfold execHoldEnd
    rw [State.event_running hp, if_neg fun h => hx h.1]
  · intro stopped reading
    have hends (hk : t.kind ≠ .creep) : exec (.holdEnd st) s = .next (s.holdEnd st) := exec_holdEnd hp hx hc ht hk
    refine ⟨fun hk => ?_, fun hk => ?_, fun hk => ?_, fun hk => ?_, fun e hk he => ?_⟩
    · have hkind : (s.stn st).ctx.bind (·.kind) = some .creep := by
        rw [hc, Option.bind_some, c.kind_of_current ht, hk]
      change execHoldEnd st s = _
      unfold execHoldEnd
      rw [State.event_running hp, if_neg fun h => h.2 hkind]
    · rw [hends (by simp [hk]), State.holdEnd_datum hc ht hk]
      rfl
    · rw [hends (by simp [hk]), State.holdEnd_load hc ht hk]
      rfl
    · rw [hends (by simp [hk]), State.holdEnd_lockoff hc ht hk]
      rfl
    · rw [hends (by simp [hk]), State.holdEnd_unload hc ht he hk, TestCtx.judgeUnload_read]
      rfl
  · exact unloadFigures_eq d pp pa lo hi ds
end

section
namespace Sys2Proof.Machine

/-! ## The movements that begin a step -/

section
variable {x : Station} {c : TestCtx}

theorem Station.startRamp_of_ctx (h : x.ctx = some c) (target : Nat) :
    x.startRamp target =
      { x with
        state := .ramping
        pump := { x.pump with cmd := 0 }
        relCmd := false
        ctx := some
          { c with
            motion := some (.start .ramp x.runLoad)
            phase := .ramp
            target := target
            holdSamples := 0
            topUps := 0 } } := by
  simp [Station.startRamp, Station.move_of_ctx h, MotionKind.rising, MotionKind.lowering]

theorem Station.startSeek_of_ctx (h : x.ctx = some c) :
    x.startSeek =
      { x with
        state := .seeking
        pump := { x.pump with cmd := c.cap.rampDemand }
        relCmd := false
        enc := x.enc.zero
        ctx := some
          { c with
            motion := some (.start .seek x.runLoad)
            phase := .seek
            target := liftCapOf c.plo c.cap.liftTol c.cap.loadTol } } := by
  have hm := Station.move_of_ctx (x := { x with enc := x.enc.zero }) h .seek
  simp only [Station.startSeek, hm, Option.map_some]
  rfl

theorem Station.beginLiftoff_of_ctx (h : x.ctx = some c) :
    x.beginLiftoff = if x.runLoad ≤ c.cap.loadTol then x.startSeek else x.startRelease .releasing := by
  simp [Station.beginLiftoff, h]

/-! ## The first movement of each kind of step -/

/-- R61: the context with which a CREEP step begins. -/
def TestCtx.enterCreep (c : TestCtx) (t : PlanStep) (again : Bool) : TestCtx :=
  { c with
    extInForce := if again then c.extInForce else t.ext == 1
    readings := if again then c.readings.filter fun r => !(r.kind == .creep && r.step == c.step) else c.readings
    creep := .none }

/-- R42: the target of a LOCKOFF step, formed when it first begins. -/
def TestCtx.lockTargetAt (c : TestCtx) (again : Bool) : Nat :=
  if again then c.lockTarget.getD (lockTargetOf c.plo c.cap.overdrive) else lockTargetOf c.plo c.cap.overdrive

section
variable {t : PlanStep} (hc : x.ctx = some c) (ht : c.current = some t) (again : Bool)

include hc ht

theorem Station.enterStep_datum_unload (hk : t.kind = .datum ∨ t.kind = .unload) :
    x.enterStep again = x.startRamp c.pa := by
  rcases hk with hk | hk <;> simp [Station.enterStep, hc, ht, hk]

theorem Station.enterStep_load (hk : t.kind = .load) :
    x.enterStep again = x.startRamp (loadTargetOf c.pp t.target) := by
  simp [Station.enterStep, hc, ht, hk]

theorem Station.enterStep_creep (hk : t.kind = .creep) :
    x.enterStep again = ({ x with ctx := some (c.enterCreep t again) } : Station).startRamp c.pp := by
  simp only [Station.enterStep, hc, ht, hk]
  rfl

theorem Station.enterStep_lockoff (hk : t.kind = .lockoff) :
    x.enterStep again =
      ({ x with ctx := some { c with lockTarget := some (c.lockTargetAt again) } } : Station).startRamp
        (c.lockTargetAt again) := by
  simp only [Station.enterStep, hc, ht, hk]
  rfl

theorem Station.enterStep_liftoff (hk : t.kind = .liftoff) :
    x.enterStep again = ({ x with ctx := some { c with liftLoad := none } } : Station).beginLiftoff := by
  simp only [Station.enterStep, hc, ht, hk]

end
end

/-- What no step's first movement touches. -/
def Station.keeps (x y : Station) : Prop :=
  y.load = x.load ∧ y.seat = x.seat ∧ y.ovl = x.ovl ∧ y.nbr = x.nbr ∧ y.passed = x.passed ∧
    y.pump.applied = x.pump.applied

theorem Station.startRamp_keeps {x : Station} {c : TestCtx} (h : x.ctx = some c) (target : Nat) :
    x.keeps (x.startRamp target) := by
  rw [Station.startRamp_of_ctx h]
  exact ⟨rfl, rfl, rfl, rfl, rfl, rfl⟩

theorem Station.beginLiftoff_keeps {x : Station} {c : TestCtx} (h : x.ctx = some c) : x.keeps x.beginLiftoff := by
  rw [Station.beginLiftoff_of_ctx h]
  split
  · rw [Station.startSeek_of_ctx h]
    exact ⟨rfl, rfl, rfl, rfl, rfl, rfl⟩
  · rw [Station.startRelease_of_ctx h]
    exact ⟨rfl, rfl, rfl, rfl, rfl, rfl⟩

theorem Station.enterStep_keeps {x : Station} {c : TestCtx} {t : PlanStep} (hc : x.ctx = some c)
    (ht : c.current = some t)
    (again : Bool) : x.keeps (x.enterStep again) := by
  cases hk : t.kind with
  | datum =>
    rw [Station.enterStep_datum_unload hc ht again (.inl hk)]
    exact Station.startRamp_keeps hc _
  | unload =>
    rw [Station.enterStep_datum_unload hc ht again (.inr hk)]
    exact Station.startRamp_keeps hc _
  | load =>
    rw [Station.enterStep_load hc ht again hk]
    exact Station.startRamp_keeps hc _
  | creep =>
    rw [Station.enterStep_creep hc ht again hk]
    exact Station.startRamp_keeps (x := { x with ctx := _ }) rfl _
  | lockoff =>
    rw [Station.enterStep_lockoff hc ht again hk]
    exact Station.startRamp_keeps (x := { x with ctx := _ }) rfl _
  | liftoff =>
    rw [Station.enterStep_liftoff hc ht again hk]
    exact Station.beginLiftoff_keeps (x := { x with ctx := _ }) rfl

/-- R37, R53: a step begins with its staged adjustments applied. -/
theorem State.beginStep_of_ctx {s : State} {st : Stn} {c : TestCtx} (hc : (s.stn st).ctx = some c) :
    s.beginStep st =
      (match c.stagedPlo with
        | none => s
        | some p => s.modEntry c.anchor fun e => { e with decl := { e.decl with plo := p } }).setStn st
        (({ s.stn st with ctx := some { c.applyStaged with begun := true } } : Station).enterStep false) := by
  simp only [State.beginStep, hc, State.modStn]
  cases c.stagedPlo <;> cases st <;> rfl

end Sys2Proof.Machine

open Sys2Proof Sys2Proof.Machine in
/-- Settles O30: the staged adjustments, and the first movement by the kind of the step. -/
theorem stepsBeginWithTheirMovement : Obligations.StepsBeginWithTheirMovement := by
  unfold Obligations.StepsBeginWithTheirMovement
  refine ⟨fun s st c hc => ?_, fun x c t again hc ht => ?_⟩
  · intro applied written reg
    have happlied : ({ c.applyStaged with begun := true } : TestCtx) = applied := by
      simp only [TestCtx.applyStaged, applied]
      cases c.stagedExt with
      | none => rfl
      | some b => cases b <;> rfl
    rw [State.beginStep_of_ctx hc, happlied]
    cases hp : c.stagedPlo with
    | none => simp only [reg, hp]
    | some p => simp only [reg, written, applied, hp, State.modEntry, Option.getD_some]
  · intro y ramp
    have hlockoff (hk : t.kind = .lockoff) : ramp (c.lockTargetAt again) := by
      have hy := (Station.enterStep_lockoff hc ht again hk).trans (Station.startRamp_of_ctx rfl _)
      simp only [ramp]
      rw [show y = _ from hy]
      exact ⟨rfl, rfl, rfl, _, rfl, rfl, rfl, rfl, rfl, rfl, rfl, rfl, rfl, by simp [hk], by simp [hk], by simp [hk],
        by simp [hk], rfl, rfl⟩
    refine ⟨fun hk => ?_, fun hk => ?_, fun hk => ?_, fun hk ha => ?_, fun v hk ha hv => ?_, fun hk hl => ?_,
      fun hk hl => ?_,
      Station.enterStep_keeps hc ht again⟩
    · have hy := (Station.enterStep_datum_unload hc ht again hk).trans (Station.startRamp_of_ctx hc _)
      have hcreep : t.kind ≠ .creep := by rcases hk with hk | hk <;> simp [hk]
      have hlock : t.kind ≠ .lockoff := by rcases hk with hk | hk <;> simp [hk]
      simp only [ramp]
      rw [show y = _ from hy]
      exact ⟨rfl, rfl, rfl, _, rfl, rfl, rfl, rfl, rfl, rfl, rfl, rfl, rfl, by simp [hcreep], by simp [hcreep],
        by simp [hlock], by simp [hcreep], rfl, rfl⟩
    · have hy := (Station.enterStep_load hc ht again hk).trans (Station.startRamp_of_ctx hc _)
      simp only [ramp]
      rw [show y = _ from hy]
      exact ⟨rfl, rfl, rfl, _, rfl, rfl, rfl, rfl, rfl, rfl, rfl, rfl, rfl, by simp [hk], by simp [hk], by simp [hk],
        by simp [hk], rfl, rfl⟩
    · have hy := (Station.enterStep_creep hc ht again hk).trans (Station.startRamp_of_ctx rfl _)
      simp only [ramp]
      rw [show y = _ from hy]
      exact ⟨rfl, rfl, rfl, _, rfl, rfl, rfl, rfl, rfl, rfl, rfl, rfl, rfl,
        by cases again <;> simp [hk, TestCtx.enterCreep], by cases again <;> simp [hk, TestCtx.enterCreep], by simp [hk, TestCtx.enterCreep],
        by simp [hk, TestCtx.enterCreep, CreepOutcome.none], rfl, rfl⟩
    · have htarget : c.lockTargetAt again = (2 * (c.plo * (1000 + c.cap.overdrive)) + 1000) / 2000 := by rw [ha]; rfl
      rw [← htarget]
      exact hlockoff hk
    · have htarget : c.lockTargetAt again = v := by rw [ha, TestCtx.lockTargetAt, if_pos rfl, hv, Option.getD_some]
      rw [← htarget]
      exact hlockoff hk
    · have hy :=
        (Station.enterStep_liftoff hc ht again hk).trans
          ((Station.beginLiftoff_of_ctx (c := { c with liftLoad := none }) rfl).trans (if_pos hl))
      rw [show y = _ from hy, Station.startSeek_of_ctx rfl]
      exact ⟨rfl, rfl, rfl, rfl, rfl, _, rfl, rfl, rfl, rfl, rfl⟩
    · have hy := (Station.enterStep_liftoff hc ht again hk).trans
        ((Station.beginLiftoff_of_ctx (c := { c with liftLoad := none }) rfl).trans (if_neg (not_le.2 hl)))
      rw [show y = _ from hy, Station.startRelease_of_ctx rfl]
      exact ⟨rfl, rfl, rfl, rfl, _, rfl, rfl, rfl, rfl⟩
end

section
namespace Sys2Proof.Machine

/-! ## Times and bands at a sample -/

section
variable {x : Station} {c : TestCtx} {m : Motion}

/-- R35: the allowed time of a movement, in samples, has run out at its next sample. -/
theorem TestCtx.timedOut_tick_iff {rate : Nat} (hr : c.rate m = rate) :
    c.timedOut m.tick = true ↔
      50 * (3 * (((c.target - m.startLoad) + (m.startLoad - c.target) + rate - 1) / rate) + 60) ≤ m.samples + 1 := by
  subst hr
  rw [Nat.mul_comm 3]
  exact decide_eq_true_iff

theorem TestCtx.rate_ramp (h : m.kind ≠ .seek) : c.rate m = c.cap.rateLimit := if_neg h

theorem TestCtx.rate_seek (h : m.kind = .seek) : c.rate m = max 1 (c.cap.rateLimit / 4) := if_pos h

/-- R36: in which states the stroke end is looked for. -/
theorem Station.strokeEnd_iff (hc : x.ctx = some c) :
    x.strokeEnd = true ↔
      (x.state ≠ .idle ∧ x.state ≠ .fault ∧ x.state ≠ .unloading ∧ x.state ≠ .selftest) ∧
        (c.cap.stroke : Int) - c.cap.strokeMargin ≤ x.runDisp := by
  unfold Station.strokeEnd
  rw [hc]
  cases x.state <;> simp

/-- R36: no stroke end is found at a sample. -/
def Station.noStroke (x : Station) (c : TestCtx) : Prop := (x.strokeEnd && c.decision.isNone) = false

theorem Station.noStroke_of (hc : x.ctx = some c)
    (h : ¬(c.cap.stroke : Int) - c.cap.strokeMargin ≤ x.runDisp ∨ c.decision ≠ none) : x.noStroke c := by
  unfold Station.noStroke
  rw [Bool.and_eq_false_iff]
  rcases h with h | h
  · left
    rw [← Bool.not_eq_true, Station.strokeEnd_iff hc]
    exact fun hs => h hs.2
  · right
    cases hd : c.decision
    · exact absurd hd h
    · rfl

theorem Station.noStroke_of_state (hc : x.ctx = some c) (h : x.state = .unloading ∨ x.state = .fault) :
    x.noStroke c := by
  unfold Station.noStroke
  rw [Bool.and_eq_false_iff, ← Bool.not_eq_true, Station.strokeEnd_iff hc]
  left
  rcases h with h | h <;> simp [h]

end

/-! ## The parts of a sample -/

section
variable {s : State} {st : Stn} {c : TestCtx} {m : Motion}

section
variable (hc : (s.stn st).ctx = some c) (hq : (s.stn st).noStroke c)

include hc

/-- R36, R45. -/
theorem State.stationSample_stroke (hs : (s.stn st).strokeEnd = true) (hd : c.decision = none) :
    s.stationSample st = s.endStroke st := by
  simp [State.stationSample, hc, hs, hd]

include hq

theorem State.stationSample_ramping (hx : (s.stn st).state = .ramping) (hm : c.motion = some m) :
    s.stationSample st = s.rampSample st c m := by
  unfold Station.noStroke at hq
  simp [State.stationSample, hc, hq, hx, hm]

theorem State.stationSample_holding (hx : (s.stn st).state = .holding) :
    s.stationSample st =
      (s.setStn st { s.stn st with ctx := some { c with holdSamples := c.holdSamples + 1 } }).holdSample st := by
  unfold Station.noStroke at hq
  simp [State.stationSample, hc, hq, hx, State.modStn]

theorem State.stationSample_seeking (hx : (s.stn st).state = .seeking) (hm : c.motion = some m) :
    s.stationSample st = s.setStn st ((s.stn st).seekSample c m) := by
  unfold Station.noStroke at hq
  simp [State.stationSample, hc, hq, hx, hm]

theorem State.stationSample_releasing (hx : (s.stn st).state = .releasing ∨ (s.stn st).state = .unloading) :
    s.stationSample st = s.releaseSample st c := by
  unfold Station.noStroke at hq
  rcases hx with hx | hx <;> simp [State.stationSample, hc, hq, hx]

theorem State.stationSample_waiting
    (hx : (s.stn st).state = .seating ∨ (s.stn st).state = .held ∨ (s.stn st).state = .fault) :
    s.stationSample st = s := by
  unfold Station.noStroke at hq
  rcases hx with hx | hx | hx <;> simp [State.stationSample, hc, hq, hx]

end

/-- R32: the release goes on above the tolerance. -/
theorem State.releaseSample_goes (hl : c.cap.loadTol < (s.stn st).runLoad) (hm : c.motion = some m) :
    s.releaseSample st c = s.setStn st ((s.stn st).goOn c m.tick) := by
  simp [State.releaseSample, not_le.2 hl, hm]

theorem State.releaseSample_ends (hl : (s.stn st).runLoad ≤ c.cap.loadTol) (hx : (s.stn st).state = .unloading) :
    s.releaseSample st c = s.endTest st := by
  simp [State.releaseSample, hl, hx]

theorem State.releaseSample_done (hl : (s.stn st).runLoad ≤ c.cap.loadTol) (hx : (s.stn st).state = .releasing) :
    s.releaseSample st c = s.releaseDone st := by
  simp [State.releaseSample, hl, hx]

/-- R36, R45: outside a release the decision is all there is at this sample. -/
theorem State.endStroke_decides (hx : (s.stn st).state ≠ .releasing) :
    s.endStroke st = s.takeDecision st (.aborted .strokeEnd) := by
  unfold State.endStroke
  dsimp only
  split
  · next hr _ => exact absurd hr hx
  · rfl

/-- R36, R45: a running release continues in UNLOADING, at this sample too. -/
theorem State.endStroke_releasing (hc : (s.stn st).ctx = some c) (hx : (s.stn st).state = .releasing)
    (hd : c.decision = none) :
    let d : TestCtx := { c with decision := some (.aborted .strokeEnd) }
    s.endStroke st = (s.setStn st { s.stn st with state := .unloading, ctx := some d }).releaseSample st d := by
  intro d
  have ht : s.takeDecision st (.aborted .strokeEnd) =
      s.setStn st { s.stn st with state := .unloading, ctx := some d } := by
    rw [State.takeDecision, State.modStn, Station.take_releasing hc _ hx, hd]
    rfl
  simp only [State.endStroke, ht, State.stn_setStn_same, hx]

/-- R31: the target is reached, and the hold begins at this sample. -/
theorem State.targetReached_of_ctx (hc : (s.stn st).ctx = some c) :
    s.targetReached st =
      (s.setStn st
        { s.stn st with
          state := .holding
          pump := { (s.stn st).pump with cmd := 0 }
          relCmd := false
          ctx := some
            { c with motion := none, phase := .hold, holdSamples := 0, topUps := 0, creepTaken := 0 } }).holdSample
        st := by
  simp [State.targetReached, State.modStn, hc, Station.stop]

/-! ## A ramp at a sample -/

/-- R31: the load is below the band of the target. -/
def Station.below (x : Station) (c : TestCtx) : Prop := x.runLoad + c.cap.loadTol < c.target

/-- R31: the load is above the band of the target. -/
def Station.above (x : Station) (c : TestCtx) : Prop := c.target + c.cap.loadTol < x.runLoad

/-- R31: the first sample of a ramp fixes its direction. -/
theorem State.rampSample_rises (hk : m.kind = .ramp) (hl : (s.stn st).below c) :
    s.rampSample st c m = s.modStn st (·.move .rampUp) := by
  unfold Station.below at hl
  simp [State.rampSample, hk, hl]

theorem State.rampSample_falls (hk : m.kind = .ramp) (hh : (s.stn st).above c) :
    s.rampSample st c m = s.modStn st (·.move .rampDown) := by
  unfold Station.above at hh
  have hl : ¬(s.stn st).runLoad + c.cap.loadTol < c.target := by omega
  simp [State.rampSample, hk, hl, hh]

/-- R31: the target is reached, from the side of the movement. -/
theorem State.rampSample_reaches
    (h : m.kind = .ramp ∧ ¬(s.stn st).below c ∧ ¬(s.stn st).above c ∨ m.kind = .rampUp ∧ ¬(s.stn st).below c ∨
      m.kind = .rampDown ∧ ¬(s.stn st).above c) : s.rampSample st c m = s.targetReached st := by
  unfold Station.below Station.above at h
  rcases h with ⟨hk, hl, hh⟩ | ⟨hk, hl⟩ | ⟨hk, hh⟩
  · simp [State.rampSample, hk, hl, hh]
  · simp [State.rampSample, hk, hl]
  · simp [State.rampSample, hk, hh]

/-- R31, R35: the ramp runs on, until its time has run out. -/
theorem State.rampSample_runs
    (h : m.kind = .rampUp ∧ (s.stn st).below c ∨ m.kind = .rampDown ∧ (s.stn st).above c) :
    s.rampSample st c m =
      if c.timedOut m.tick then s.takeDecision st (.aborted .rampTimeout)
      else s.setStn st ((s.stn st).goOn c m.tick) := by
  unfold Station.below Station.above at h
  rcases h with ⟨hk, hl⟩ | ⟨hk, hh⟩
  · simp [State.rampSample, hk, hl]
  · simp [State.rampSample, hk, hh]

/-! ## The hold at a sample -/

/-- R32, R37, R49: a release of RELEASING completes. -/
theorem State.releaseDone_of_ctx (hc : (s.stn st).ctx = some c) :
    let still := s.setStn st
      { s.stn st with
        pump := { (s.stn st).pump with cmd := 0 }, relCmd := false, ctx := some { c with motion := none } }
    s.releaseDone st =
      if c.kind = some .liftoff then
        if c.causes.isEmpty then still.modStn st Station.startSeek else still.hold st
      else still.completeStep st := by
  simp only [State.releaseDone, State.modStn_stop hc, State.stn_setStn_same]
  rfl

section
variable {t : PlanStep} (hc : (s.stn st).ctx = some c) (ht : c.current = some t)

include hc ht

theorem State.holdSample_step (hk : t.kind = .datum ∨ t.kind = .load ∨ t.kind = .unload) :
    s.holdSample st =
      if 50 * t.hold ≤ c.holdSamples then s.holdEnd st else s.setStn st (s.stn st).keepBand := by
  have hkind := c.kind_of_current ht
  rcases hk with hk | hk | hk <;> rw [hk] at hkind <;>
    simp only [State.holdSample, hc, hkind, ht, State.modStn, Option.map_some, Option.getD_some, decide_eq_true_eq] <;>
    rfl

theorem State.holdSample_lockoff (hk : t.kind = .lockoff) :
    s.holdSample st =
      if 50 * 10 ≤ c.holdSamples then s.holdEnd st else s.setStn st (s.stn st).keepBand := by
  have hkind := c.kind_of_current ht
  rw [hk] at hkind
  simp only [State.holdSample, hc, hkind, State.modStn, decide_eq_true_eq]
  rfl

theorem State.holdSample_creep (hk : t.kind = .creep) :
    s.holdSample st =
      let u := if 50 * creepDue c.creepTaken ≤ c.holdSamples then s.creepReading st else s
      if (u.stn st).state = .holding then u.setStn st (u.stn st).keepBand else u := by
  have hkind := c.kind_of_current ht
  rw [hk] at hkind
  simp only [State.holdSample, hc, hkind, State.modStn, decide_eq_true_eq]
  rfl

end
end

/-- R40: the hold time of the next reading, by how many there are. -/
theorem creepDue_eq (n : Nat) :
    creepDue n = if n = 0 then 60 else if n = 1 then 300 else if n = 2 then 600 else 3000 := by
  rcases n with _ | _ | _ | n <;> rfl

section
variable {x : Station} {c : TestCtx} {m : Motion}

/-- R34: the judgement of the band where nothing runs. -/
def Station.judgeBand (x y : Station) (c : TestCtx) : Station :=
  if x.runLoad + c.cap.loadTol < c.target then
    if c.cap.topUpMax ≤ c.topUps then y.take (.aborted .holdLoss)
    else ({ y with ctx := some { c with topUps := c.topUps + 1 } } : Station).move .topUp
  else if c.target + c.cap.loadTol < x.runLoad then y.move .correction
  else y

/-- R34: a top-up or a correction has run to the target. -/
def Station.reached (x : Station) (c : TestCtx) (m : Motion) : Prop :=
  m.kind = .topUp ∧ c.target ≤ x.runLoad ∨ m.kind = .correction ∧ x.runLoad ≤ c.target

theorem Station.keepBand_still (hc : x.ctx = some c) (hm : c.motion = none) : x.keepBand = x.judgeBand x c := by
  simp only [Station.keepBand, hc, hm]
  rfl

theorem Station.keepBand_reached (hc : x.ctx = some c) (hm : c.motion = some m) (hr : x.reached c m) :
    x.keepBand = x.judgeBand x.stop c := by
  simp only [Station.keepBand, hc, hm]
  rcases hr with ⟨hk, hr⟩ | ⟨hk, hr⟩ <;> simp [hk, hr, hm, Station.judgeBand]

/-- R34: where nothing runs, or what ran has reached the target, the band is judged anew. -/
theorem Station.keepBand_judges (hc : x.ctx = some c) (h : c.motion = none ∨ ∃ m, c.motion = some m ∧ x.reached c m) :
    ∃ cmd rel m, x.keepBand =
      x.judgeBand { x with pump := { x.pump with cmd := cmd }, relCmd := rel, ctx := some { c with motion := m } } c := by
  rcases h with hm | ⟨m, hm, hr⟩
  · exact ⟨x.pump.cmd, x.relCmd, c.motion, by rw [Station.keepBand_still hc hm, ← hc]⟩
  · exact ⟨0, false, none, by rw [Station.keepBand_reached hc hm hr, Station.stop_of_ctx hc]⟩

section
variable {y : Station} {d : TestCtx}

/-- R34: a load below band starts a counted top-up. -/
theorem Station.judgeBand_topUp (hb : x.below c) (hl : c.topUps < c.cap.topUpMax) :
    x.judgeBand y c = ({ y with ctx := some { c with topUps := c.topUps + 1 } } : Station).move .topUp :=
  (if_pos hb).trans (if_neg (not_le.2 hl))

/-- R34, R45: a load below band ends the test when no top-up is left. -/
theorem Station.judgeBand_lost (hb : x.below c) (hl : c.cap.topUpMax ≤ c.topUps) :
    x.judgeBand y c = y.take (.aborted .holdLoss) := (if_pos hb).trans (if_pos hl)

/-- R34: a load above band starts a correction. -/
theorem Station.judgeBand_correction (ha : x.above c) : x.judgeBand y c = y.move .correction := by
  unfold Station.above at ha
  exact (if_neg (by omega)).trans (if_pos ha)

theorem Station.judgeBand_inBand (hb : ¬x.below c) (ha : ¬x.above c) : x.judgeBand y c = y :=
  (if_neg hb).trans (if_neg ha)

end

theorem Station.keepBand_goes (hc : x.ctx = some c) (hm : c.motion = some m) (hr : ¬x.reached c m) :
    x.keepBand = x.goOn c m.tick := by
  unfold Station.reached at hr
  simp only [Station.keepBand, hc, hm]
  cases hk : m.kind <;> simp_all

/-- R44: the lift-off displacement is reached. -/
theorem Station.seekSample_lifts (h : (c.cap.liftThreshold : Int) ≤ x.runDisp) :
    x.seekSample c m = x.judgeLift c (some x.runLoad) := if_pos h

/-- R44: the cap is reached without it. -/
theorem Station.seekSample_caps (h : x.runDisp < (c.cap.liftThreshold : Int)) (hl : c.target ≤ x.runLoad) :
    x.seekSample c m = x.judgeLift c none := (if_neg (not_le.2 h)).trans (if_pos hl)

/-- R35, R44: the seek runs on, until its time has run out. -/
theorem Station.seekSample_runs (h : x.runDisp < (c.cap.liftThreshold : Int)) (hl : x.runLoad < c.target) :
    x.seekSample c m = if c.timedOut m.tick then x.take (.aborted .rampTimeout) else x.goOn c m.tick :=
  (if_neg (not_le.2 h)).trans (if_neg (not_le.2 hl))

theorem liftReasons_within {plo tol l : Nat} (hlo : plo ≤ l + tol) (hhi : l ≤ plo + tol) :
    liftReasons plo tol (some l) = [] := (if_neg (not_lt.2 hlo)).trans (if_neg (not_lt.2 hhi))

theorem liftReasons_low {plo tol l : Nat} (h : l + tol < plo) : liftReasons plo tol (some l) = [.liftoffLow] := if_pos h

theorem liftReasons_high {plo tol l : Nat} (h : plo + tol < l) : liftReasons plo tol (some l) = [.liftoffHigh] :=
  (if_neg (by omega)).trans (if_pos h)

/-- R44, R68: the reasons of a lift-off load. -/
theorem Station.judgeLift_eq (x : Station) (c : TestCtx) (load : Option Nat) (reasons : List Reason)
    (h : liftReasons c.plo (liftTolOf c.plo c.cap.liftTol) load = reasons) :
    x.judgeLift c load =
      ({ x with ctx := some { c with liftLoad := load } } : Station).take
        (if reasons = [] then .passed else .failed reasons) := by
  subst h
  rfl

end
end Sys2Proof.Machine

open Sys2Proof Sys2Proof.Machine in
/-- Settles O40: the parts of a sample, by the state of the station and the kind of the movement. -/
theorem stationActsAtASample : Obligations.StationActsAtASample := by
  unfold Obligations.StationActsAtASample
  refine ⟨fun st s hp => ⟨exec_wholeSecond hp, fun c t hx hc ht => ⟨exec_holdEnd hp hx hc ht,
    exec_creepReading hp hx hc ht⟩⟩, fun st s c hc => ?_, fun st s c t hc ht => ?_, fun x c hc => ?_,
    fun x c load => ?_, fun x c d hc => ?_⟩
  · intro x load strokeEnd going late
    have hgoing (y : Station) (d : TestCtx) (m : Motion) : s.setStn st (y.goOn d m.tick) = going y d m := rfl
    refine ⟨fun hx hs hd => ?_, fun hx hs hd => ?_, fun hq => ?_, ?_, ?_, ?_, ?_⟩
    · rw [State.stationSample_stroke hc ((Station.strokeEnd_iff hc).2 ⟨?_, hs⟩) hd, State.endStroke_decides]
      · rcases hx with h | h | h | h | h <;> simp [show (s.stn st).state = _ from h]
      · rcases hx with h | h | h | h | h <;> simp [show (s.stn st).state = _ from h]
    · intro d y
      have hstroke : s.stationSample st = (s.setStn st y).releaseSample st d := by
        rw [State.stationSample_stroke hc
          ((Station.strokeEnd_iff hc).2 ⟨by simp [show (s.stn st).state = _ from hx], hs⟩) hd]
        exact State.endStroke_releasing hc hx hd
      rw [hstroke]
      refine ⟨fun hl => State.releaseSample_ends ?_ ?_, fun m hl hm => ?_⟩
      · rwa [State.stn_setStn_same]
      · rw [State.stn_setStn_same]
      · have hl' : d.cap.loadTol < ((s.setStn st y).stn st).runLoad := by rwa [State.stn_setStn_same]
        have hm' : d.motion = some m := hm
        rw [State.releaseSample_goes hl' hm', State.stn_setStn_same, State.setStn_setStn]
        exact hgoing y d m
    · have hn : x.noStroke c := Station.noStroke_of hc hq
      refine ⟨fun m hx hm => ?_, fun m hx hm => ?_, State.stationSample_holding hc hn, fun hx => ?_, fun hl hx => ?_⟩
      · rw [State.stationSample_ramping hc hn hx hm]
        refine ⟨fun hk hl => ?_, fun hk hh => ?_, fun hk => ?_, fun hk => ?_⟩
        · rw [State.rampSample_rises hk hl, State.modStn, Station.move_of_ctx hc]
          rfl
        · rw [State.rampSample_falls hk hh, State.modStn, Station.move_of_ctx hc]
          rfl
        · have hrate : c.rate m = c.cap.rateLimit :=
            TestCtx.rate_ramp (by rcases hk with ⟨hk, -⟩ | ⟨hk, -⟩ <;> simp [hk])
          have hlate := TestCtx.timedOut_tick_iff hrate
          rw [State.rampSample_runs hk]
          exact ⟨fun hl => if_pos (hlate.2 hl), fun hl => if_neg fun h => hl (hlate.1 h)⟩
        · rw [State.rampSample_reaches, State.targetReached_of_ctx hc]
          simpa only [Station.below, Station.above, not_lt] using hk
      · rw [State.stationSample_seeking hc hn hx hm]
        refine ⟨fun hd => ?_, fun hd hl => ?_, fun hk hd hl => ?_⟩
        · rw [Station.seekSample_lifts hd]
        · rw [Station.seekSample_caps hd hl]
        · have hlate := TestCtx.timedOut_tick_iff (TestCtx.rate_seek (c := c) hk)
          rw [Station.seekSample_runs hd hl]
          exact ⟨fun hl => congrArg _ (if_pos (hlate.2 hl)), fun hl => congrArg _ (if_neg fun h => hl (hlate.1 h))⟩
      · exact State.stationSample_waiting hc hn (hx.imp_right .inl)
      · rw [State.stationSample_releasing hc hn (.inl hx), State.releaseSample_done hl hx]
    · intro m hl hm hx
      have hn : x.noStroke c := hx.elim (fun h => Station.noStroke_of hc h.2) fun h =>
        Station.noStroke_of_state hc (.inl h)
      rw [State.stationSample_releasing hc hn (hx.imp_left And.left), State.releaseSample_goes hl hm]
      rfl
    · intro hl hx
      rw [State.stationSample_releasing hc (Station.noStroke_of_state hc (.inl hx)) (.inr hx),
        State.releaseSample_ends hl hx]
    · intro hx
      exact State.stationSample_waiting hc (Station.noStroke_of_state hc (.inr hx)) (.inr (.inr hx))
    · intro still lifting tol
      have hdone := State.releaseDone_of_ctx hc
      refine ⟨fun hk => hdone.trans (if_neg hk), fun hk hcauses => hdone.trans ((if_pos hk).trans (if_neg ?_)),
        fun hk hcauses => hdone.trans ((if_pos hk).trans ((if_pos ?_).trans ?_))⟩
      · exact fun h => hcauses (c.causes.isEmpty_iff.1 h)
      · exact c.causes.isEmpty_iff.2 hcauses
      · rw [State.modStn, State.stn_setStn_same, State.setStn_setStn, Station.startSeek_of_ctx rfl]
        rfl
  · intro due kept
    refine ⟨fun hk => ?_, fun hk => ?_, fun hk hx => ?_⟩
    · rw [State.holdSample_step hc ht hk]
      exact ⟨fun h => if_pos h, fun h => if_neg h⟩
    · rw [State.holdSample_lockoff hc ht hk]
      exact ⟨fun h => if_pos h, fun h => if_neg h⟩
    · intro next
      rw [State.holdSample_creep hc ht hk, creepDue_eq]
      refine ⟨fun h => ?_, fun h => ?_⟩
      · rw [if_neg h]
        exact if_pos hx
      · intro u
        rw [if_pos h]
        exact ⟨fun hu => if_pos hu, fun hu => if_neg hu⟩
  · intro load below above topUp correction lost idle reached going
    refine ⟨fun h => ?_, fun hb ha hm => ?_, fun m hm => ⟨fun hr hb ha => ?_, fun hr => ?_⟩⟩
    · obtain ⟨cmd, rel, m, hy⟩ := Station.keepBand_judges hc h
      rw [hy]
      refine ⟨fun hb hl => ?_, fun hb hl hx => ?_, fun ha => ?_⟩
      · rw [Station.judgeBand_topUp hb hl, Station.move_of_ctx rfl]
        rfl
      · rw [Station.judgeBand_lost hb hl]
        exact Station.take_moving (c := { c with motion := m }) rfl _ (.inr (.inl hx))
      · rw [Station.judgeBand_correction ha, Station.move_of_ctx rfl]
        rfl
    · rw [Station.keepBand_still hc hm, Station.judgeBand_inBand hb ha]
    · rw [Station.keepBand_reached hc hm hr, Station.judgeBand_inBand hb ha, Station.stop_of_ctx hc]
    · rw [Station.keepBand_goes hc hm hr]
      rfl
  · intro tol d
    refine ⟨?_, ?_, ?_⟩
    · rintro ⟨l, rfl, hlo, hhi⟩
      exact Station.judgeLift_eq x c _ [] (liftReasons_within hlo hhi)
    · rintro ⟨l, rfl, hlo⟩
      exact Station.judgeLift_eq x c _ _ (liftReasons_low hlo)
    · rintro (rfl | ⟨l, rfl, hhi⟩)
      · exact Station.judgeLift_eq x c _ _ rfl
      · exact Station.judgeLift_eq x c _ _ (liftReasons_high hhi)
  · exact ⟨Station.take_staying hc d, Station.take_releasing hc d, Station.take_moving hc d⟩
end

section
namespace Sys2Proof.Machine

/-! ## Check lists -/

theorem firstRefusal_nil : firstRefusal [] = none := rfl

theorem firstRefusal_pass {ok : Bool} {r : Resp × Nat} (h : ok = true) (rest : List (Bool × Resp × Nat)) :
    firstRefusal ((ok, r) :: rest) = firstRefusal rest := by
  simp [firstRefusal, h]

theorem firstRefusal_fail {ok : Bool} {r : Resp × Nat} (h : ok = false) (rest : List (Bool × Resp × Nat)) :
    firstRefusal ((ok, r) :: rest) = some r := by
  simp [firstRefusal, h]

/-! ## The checks of START_TEST -/

section
variable {s : State} {st : Stn} {a slot : Nat} {e : Entry} {p : Plan}

/-- R27 checks 1 to 5 pass. -/
structure State.readyFor (s : State) (st : Stn) : Prop where
  enabled : s.enabled st = true
  idle : (s.stn st).state = .idle
  calm : s.faults.emergency.set = false
  untripped : s.faults.trip = false
  faultless : s.combined st.code = false
  passed : (s.stn st).passed = true

theorem State.readyFor.stationReady (h : s.readyFor st) : s.stationReady st = none := by
  simp [State.stationReady, firstRefusal, h.enabled, h.idle, h.calm, h.untripped, h.faultless, h.passed]

theorem State.taken_stationReady (s : State) (i : Instr) (st : Stn) :
    (s.taken i).stationReady st = s.stationReady st := by cases st <;> rfl

theorem State.taken_anchorReady (s : State) (i : Instr) (st : Stn) (e : Entry) (full : Bool) :
    (s.taken i).anchorReady st e full = s.anchorReady st e full := by cases st <;> rfl

theorem State.readyFor.taken (h : s.readyFor st) (i : Instr) : (s.taken i).readyFor st :=
  ⟨by rw [State.taken_enabled, h.enabled], by rw [State.taken_stn, h.idle], h.calm, h.untripped, h.faultless,
    by rw [State.taken_stn, h.passed]⟩

/-- R27 check 10. -/
theorem State.cured_iff (s : State) (e : Entry) :
    s.cured e = true ↔
      e.postDone = e.decl.passes ∧ (∀ q ∈ s.grout.queue, q.anchor ≠ e.decl.id) ∧
        (∀ q, s.grout.pass = some q → q.anchor ≠ e.decl.id) ∧
        ∃ ended, e.primaryEnd = some ended ∧ ended + e.decl.cure * 3600 ≤ s.site.clock := by
  simp only [State.cured, Bool.and_eq_true, beq_iff_eq, Bool.not_eq_true', Option.any_eq_true, decide_eq_true_eq,
    and_assoc]
  refine and_congr_right fun _ => and_congr ?_ (and_congr ?_ Iff.rfl)
  · simp [State.queued]
  · simp [Option.any_eq_false]

/-- R27 check 12. -/
theorem State.neighbourBusy_iff (s : State) (st : Stn) (e : Entry) :
    s.neighbourBusy st e = true ↔
      ∃ c, (s.stn st.other).ctx = some c ∧
        (c.anchor ∈ e.decl.neighbours ∨ ∃ o, s.entry c.anchor = some o ∧ e.decl.id ∈ o.decl.neighbours) := by
  unfold State.neighbourBusy
  cases (s.stn st.other).ctx with
  | none => simp
  | some c => simp [Option.any_eq_true]

/-- A check that only a full plan has. -/
theorem fullCheck_iff {shape : PlanShape} {b : Bool} :
    (!(shape == .full) || b) = true ↔ (shape = .full → b = true) := by
  cases shape <;> simp

/-- R27 check 13. -/
theorem State.rowRoom_iff (s : State) (e : Entry) :
    s.rowRoom e = true ↔
      s.site.limits.ceilings.getD (e.decl.row - 1) 0 ≠ 0 ∧
        (s.row e.decl.row).locked + (s.row e.decl.row).reserved + e.decl.pp ≤
          s.site.limits.ceilings.getD (e.decl.row - 1) 0 := by
  simp only [State.rowRoom, Bool.and_eq_true, bne_iff_ne, decide_eq_true_eq]
  rfl

/-- R27 check 7: the stages that ask for a shape. -/
theorem Stage.shape_of {stage : Stage} {shape : PlanShape}
    (h : stage = .grouted ∨ stage = .rejected ∨ stage = .lockFault) (hs : shape = .relock ↔ stage = .lockFault) :
    stage.shape = some shape := by
  rcases h with rfl | rfl | rfl <;> cases shape <;> simp_all [Stage.shape]

theorem Stage.shape_none {stage : Stage} (h1 : stage ≠ .grouted) (h2 : stage ≠ .rejected) (h3 : stage ≠ .lockFault) :
    stage.shape = none := by
  cases stage <;> simp_all [Stage.shape]

section
variable (h1 : 1 ≤ slot) (h4 : slot ≤ 4)

include h1 h4

theorem actStartTest_unready {r : Resp × Nat} (hr : s.stationReady st = some r) :
    actStartTest st.code a slot s = (s, .plain r.1 r.2) := by
  simp [actStartTest, slot_inRange h1 h4, hr]

variable (hr : s.readyFor st)

include hr

theorem actStartTest_noAnchor (he : s.entry a = none) :
    actStartTest st.code a slot s = (s, .plain .noSuchAnchor) := by
  simp [actStartTest, slot_inRange h1 h4, hr.stationReady, he]

variable (he : s.entry a = some e)

include he

theorem actStartTest_wrongStage (hs : e.stage.shape = none) :
    actStartTest st.code a slot s = (s, .plain .wrongStage) := by
  simp [actStartTest, slot_inRange h1 h4, hr.stationReady, he, hs]

variable {shape : PlanShape} (hs : e.stage.shape = some shape)

include hs

theorem actStartTest_noPlan (hp : s.plan slot = none) : actStartTest st.code a slot s = (s, .plain .planInvalid) := by
  simp [actStartTest, slot_inRange h1 h4, hr.stationReady, he, hs, hp]

variable (hp : s.plan slot = some p)

include hp

theorem actStartTest_otherShape (hshape : p.shape ≠ shape) :
    actStartTest st.code a slot s = (s, .plain .planInvalid) := by
  simp [actStartTest, slot_inRange h1 h4, hr.stationReady, he, hs, hp, hshape]

variable (hshape : p.shape = shape)

include hshape

theorem actStartTest_unfit {r : Resp × Nat} (hfit : s.anchorReady st e (p.shape == .full) = some r) :
    actStartTest st.code a slot s = (s, .plain r.1 r.2) := by
  subst hshape
  simp [actStartTest, slot_inRange h1 h4, hr.stationReady, he, hs, hp, hfit]

theorem actStartTest_accepts (hfit : s.anchorReady st e (p.shape == .full) = none) :
    actStartTest st.code a slot s = (s.startTest st e slot p, .plain .accepted) := by
  subst hshape
  simp [actStartTest, slot_inRange h1 h4, hr.stationReady, he, hs, hp, hfit]

end
end

/-! ## What an accepted START_TEST builds -/

/-- R28: the Register and the row of an accepted test. -/
def State.testBooked (s : State) (st : Stn) (e : Entry) (slot : Nat) (p : Plan) : State :=
  { s with
    reg := s.reg.map fun x => if x.decl.id == e.decl.id then x.testStarted st slot p.shape s.site.clock else x
    rows :=
      if p.shape = .full then
        s.rows.set (e.decl.row - 1) { s.row e.decl.row with reserved := (s.row e.decl.row).reserved + e.decl.pp }
      else s.rows }

/-- R28, R29: the context as step 1 begins. -/
def TestCtx.begins (c : TestCtx) (p : Plan) (load : Nat) : TestCtx :=
  { c with
    begun := true
    phase := .ramp
    motion := some (.start .ramp load)
    target := if p.shape = .full then c.pa else lockTargetOf c.plo c.cap.overdrive
    lockTarget := if p.shape = .full then none else some (lockTargetOf c.plo c.cap.overdrive) }

/-- R28, R94: the station of an accepted test. -/
def Station.begins (x : Station) (c : TestCtx) (p : Plan) : Station :=
  { x with
    state := .ramping
    pump := { x.pump with cmd := 0 }
    relCmd := false
    ovl := x.ovl.zero
    nbr := x.nbr.map Guard.zero
    ctx := some (c.begins p x.runLoad) }

theorem State.startTest_eq (s : State) (st : Stn) (e : Entry) (slot : Nat) (p : Plan) {d : PlanStep}
    {rest : List PlanStep} (hsteps : p.steps = d :: rest)
    (hd : d.kind = if p.shape = .full then .datum else .lockoff) :
    s.startTest st e slot p =
      (s.testBooked st e slot p).setStn st
        ((s.stn st).begins
          (.fresh e slot p (Captured.of s.site) (s.baselinesOf e.decl.neighbours false [])) p) := by
  have hbooked : s.startTest st e slot p =
      ((s.testBooked st e slot p).setStn st
        { s.stn st with
          ctx := some (.fresh e slot p (Captured.of s.site) (s.baselinesOf e.decl.neighbours false []))
          ovl := (s.stn st).ovl.zero
          nbr := (s.stn st).nbr.map Guard.zero }).beginStep st := by
    unfold State.startTest State.testBooked
    by_cases hf : p.shape = .full <;> simp only [hf, if_true, if_false] <;> cases st <;> rfl
  rw [hbooked, State.beginStep_of_ctx (by rw [State.stn_setStn_same]), State.stn_setStn_same]
  refine (State.setStn_setStn _ _ _ _).trans (congrArg _ ?_)
  have hcur (cap : Captured) (b : List (Option Int)) :
      ({ (TestCtx.fresh e slot p cap b).applyStaged with begun := true } : TestCtx).current = some d :=
    (congrArg (·[0]?) hsteps).trans rfl
  cases hshape : p.shape with
  | full =>
    rw [hshape, if_pos rfl] at hd
    refine (Station.enterStep_datum_unload rfl (hcur _ _) false (.inl hd)).trans
      ((Station.startRamp_of_ctx rfl _).trans ?_)
    simp only [Station.begins, TestCtx.begins, hshape, if_true]
    rfl
  | relock =>
    rw [hshape, if_neg (by decide)] at hd
    refine (Station.enterStep_lockoff rfl (hcur _ _) false hd).trans ((Station.startRamp_of_ctx rfl _).trans ?_)
    simp only [Station.begins, TestCtx.begins, hshape, reduceCtorEq, if_false]
    rfl

/-! ## The baselines of a test -/

/-- R156: a LOAD_CELL point linked to a listed neighbour. -/
def Point.watches (p : Point) (neighbours : List Nat) : Prop :=
  p.kind = .loadCell ∧ ∃ id ∈ neighbours, p.linked = some id

theorem captureBaseline_valid {neighbours : List Nat} {p : Point} (h : p.watches neighbours) (rebase : Bool) (v : Int)
    (old : Option Int) : captureBaseline neighbours rebase p (.valid v) old = some v := by
  obtain ⟨hk, id, hid, hl⟩ := h
  simp [captureBaseline, hk, hl, hid]

/-- R156: at a point that is not captured, a baseline already held stays at a rebase. -/
theorem captureBaseline_kept {neighbours : List Nat} {p : Point} {r : PointReading}
    (h : ¬p.watches neighbours ∨ ∀ v, r ≠ .valid v) (rebase : Bool) (old : Option Int) :
    captureBaseline neighbours rebase p r old = if rebase then old else none := by
  unfold captureBaseline
  extract_lets kept
  split
  · next id v hk hl =>
    have hid : id ∉ neighbours := fun hid => h.elim (fun h => h ⟨hk, id, hid, hl⟩) fun h => h v rfl
    simp [hid, kept]
  · rfl

theorem State.baselinesOf_getElem (s : State) (neighbours : List Nat) (rebase : Bool) (old : List (Option Int))
    {k : Nat}
    (hk : k < 16) :
    (s.baselinesOf neighbours rebase old)[k]? =
      some (captureBaseline neighbours rebase (s.point (k + 1)) (s.scanned (k + 1)) (old.getD k none)) := by
  rw [State.baselinesOf, List.getElem?_map, List.getElem?_range (show k < Config.pointCount from hk)]
  rfl

end Sys2Proof.Machine

open Sys2Proof Sys2Proof.Machine in
/-- Settles O29: the checks of START_TEST in their order, the test it builds, and the baselines it captures. -/
theorem startTestBuildsTheTest : Obligations.StartTestBuildsTheTest := by
  unfold Obligations.StartTestBuildsTheTest
  refine ⟨fun tag a slot n s hs => ?_, fun s neighbours rebase old => ⟨by simp [State.baselinesOf, Config.pointCount],
    fun k hk => ?_⟩, fun site => rfl⟩
  · intro i cured near room rating starts
    refine ⟨fun h1 h2 => ?_, fun st hn hslot => ?_, fun st hn h1 h4 => ?_⟩
    · exact Refuses.of_actOf rfl hs (by simp [actOf, i, actStartTest, ofCode_none h1 h2])
    · subst hn
      exact Refuses.of_actOf rfl hs (by simp [actOf, i, actStartTest, slot_outOfRange hslot])
    subst hn
    have hunready {r : Resp × Nat} (hr : s.stationReady st = some r) : Refuses i s r.1 r.2 :=
      Refuses.of_actOf rfl hs (actStartTest_unready h1 h4 ((s.taken_stationReady i st).trans hr))
    refine ⟨fun hen => ?_, fun hen hidle => ?_, fun hen hidle hem => ?_, fun hen hidle hem => ⟨fun hf => ?_,
      fun htrip hcomb => ⟨fun hpass => ?_, fun hpass => ?_⟩⟩⟩
    · exact hunready (firstRefusal_fail hen _)
    · exact hunready ((firstRefusal_pass hen _).trans (firstRefusal_fail (by simpa using hidle) _))
    · exact hunready ((firstRefusal_pass hen _).trans ((firstRefusal_pass (by simpa using hidle) _).trans
        (firstRefusal_fail (by simpa using hem) _)))
    · exact hunready ((firstRefusal_pass hen _).trans ((firstRefusal_pass (by simpa using hidle) _).trans
        ((firstRefusal_pass (by simpa using hem) _).trans
          (firstRefusal_fail (by rcases hf with hf | hf <;> simp [hf]) _))))
    · exact hunready ((firstRefusal_pass hen _).trans ((firstRefusal_pass (by simpa using hidle) _).trans
        ((firstRefusal_pass (by simpa using hem) _).trans
          ((firstRefusal_pass (by simp [htrip, hcomb]) _).trans (firstRefusal_fail hpass _)))))
    have hready : (s.taken i).readyFor st := State.readyFor.taken ⟨hen, hidle, hem, htrip, hcomb, hpass⟩ i
    refine ⟨fun he => Refuses.of_actOf rfl hs (actStartTest_noAnchor h1 h4 hready he), fun e he =>
      ⟨fun hg hrej hl => Refuses.of_actOf rfl hs
        (actStartTest_wrongStage h1 h4 hready he (Stage.shape_none hg hrej hl)),
        fun hstage => ⟨fun p hp hshape => ?_, fun hp => ?_, fun p hp hshape => ?_⟩⟩⟩
    · have hwrong : e.stage.shape = some (if e.stage = .lockFault then .relock else .full) :=
        Stage.shape_of hstage (by split <;> simp_all)
      refine Refuses.of_actOf rfl hs (actStartTest_otherShape h1 h4 hready he hwrong hp ?_)
      split <;> simp_all
    · have hany : e.stage.shape = some (if e.stage = .lockFault then .relock else .full) :=
        Stage.shape_of hstage (by split <;> simp_all)
      exact Refuses.of_actOf rfl hs (actStartTest_noPlan h1 h4 hready he hany hp)
    have hsame : e.stage.shape = some p.shape := Stage.shape_of hstage hshape
    have hunfit {r : Resp × Nat} (hfit : s.anchorReady st e (p.shape == .full) = some r) : Refuses i s r.1 r.2 :=
      Refuses.of_actOf rfl hs
        (actStartTest_unfit h1 h4 hready he hsame hp rfl ((s.taken_anchorReady i st e _).trans hfit))
    refine ⟨fun hatt => ?_, fun hatt hclock => ?_, fun hatt hclock => ?_⟩
    · exact hunfit (firstRefusal_fail (decide_eq_false (not_lt.2 hatt)) _)
    · exact hunfit ((firstRefusal_pass (decide_eq_true hatt) _).trans (firstRefusal_fail hclock _))
    have hpast2 (rest : List (Bool × Resp × Nat)) {r1 r2 : Resp × Nat} :
        firstRefusal ((decide (e.attempts < Config.maxAttempts), r1) :: (s.site.clockValid, r2) :: rest) =
          firstRefusal rest :=
      (firstRefusal_pass (decide_eq_true hatt) _).trans (firstRefusal_pass hclock _)
    refine ⟨fun hfull hnc => hunfit ((hpast2 _).trans (firstRefusal_fail ?_ _)), fun hcured => ?_⟩
    · rw [← Bool.not_eq_true, fullCheck_iff, s.cured_iff e]
      exact fun h => hnc (h hfull)
    have hc : (!(p.shape == .full) || s.cured e) = true := fullCheck_iff.2 fun hf => (s.cured_iff e).2 (hcured hf)
    refine ⟨fun hrate => ?_, fun k hrate hrel => ?_, fun hrate hrel => ?_⟩
    · exact hunfit ((hpast2 _).trans ((firstRefusal_pass hc _).trans
        (firstRefusal_fail (decide_eq_false (not_le.2 hrate)) _)))
    · have hk :=
        hunfit ((hpast2 _).trans ((firstRefusal_pass hc _).trans ((firstRefusal_pass (decide_eq_true hrate) _).trans
        (firstRefusal_fail (by rw [hrel]; rfl) _))))
      rwa [hrel] at hk
    have hlast : s.anchorReady st e (p.shape == .full) =
        firstRefusal [(!s.neighbourBusy st e, .neighbourBusy, 0),
          (!(p.shape == .full) || s.rowRoom e, .rowCeiling, e.decl.row)] :=
      (hpast2 _).trans ((firstRefusal_pass hc _).trans ((firstRefusal_pass (decide_eq_true hrate) _).trans
        (firstRefusal_pass (by rw [hrel]; rfl) _)))
    have hfar (h : ¬near st e) : (!s.neighbourBusy st e) = true := by
      rw [Bool.not_eq_true', ← Bool.not_eq_true, s.neighbourBusy_iff]
      exact h
    refine ⟨fun hnear => ?_, fun hnear hfull hroom => ?_, fun d rest hnear hroom hsteps hd => ?_⟩
    · refine hunfit (hlast.trans (firstRefusal_fail ?_ _))
      rw [Bool.not_eq_false', s.neighbourBusy_iff]
      exact hnear
    · refine hunfit (hlast.trans ((firstRefusal_pass (hfar hnear) _).trans (firstRefusal_fail ?_ _)))
      rw [← Bool.not_eq_true, fullCheck_iff, s.rowRoom_iff e]
      exact fun h => hroom (h hfull)
    · have hr : (!(p.shape == .full) || s.rowRoom e) = true :=
        fullCheck_iff.2 fun hf => (s.rowRoom_iff e).2 (hroom hf)
      have hfit :=
        hlast.trans ((firstRefusal_pass (hfar hnear) _).trans ((firstRefusal_pass hr _).trans firstRefusal_nil))
      have hserves : Serves i s
          (fun u => (u.testBooked st e slot p).setStn st ((s.stn st).begins
            (.fresh e slot p (Captured.of s.site) (s.baselinesOf e.decl.neighbours false [])) p))
              (.plain .accepted) := by
        refine Serves.of_actOf rfl hs
          ((actStartTest_accepts h1 h4 hready he hsame hp rfl ((s.taken_anchorReady i st e _).trans hfit)).trans ?_)
        rw [State.startTest_eq (s.taken i) st e slot p hsteps hd, State.taken_stn]
        rfl
      cases st <;> exact
        ⟨_, _, hserves, rfl, rfl, rfl, rfl, rfl, rfl, rfl, rfl, rfl, rfl, rfl, rfl, rfl, rfl, rfl, rfl, rfl,
        rfl, rfl, rfl, rfl, rfl, rfl, rfl, rfl, rfl, rfl, rfl, rfl, rfl, hpass, rfl, rfl, rfl, rfl, rfl, rfl, rfl, rfl, rfl,
        rfl, rfl, rfl, rfl⟩
  · intro p watched
    rw [State.baselinesOf_getElem s neighbours rebase old hk]
    refine ⟨fun v hw hv => ?_, fun h => ?_⟩
    · rw [hv, captureBaseline_valid hw]
    · rw [captureBaseline_kept h]
end

section
namespace Sys2Proof.Machine

/-! ## The pattern of a full plan -/

/-- R25: the place after a run of steps, where each continues the pattern. -/
def ShapePlace.run (p : ShapePlace) (l : List PlanStep) : Option ShapePlace := l.foldlM ShapePlace.next p

@[simp] theorem ShapePlace.run_nil (p : ShapePlace) : p.run [] = some p := rfl

@[simp] theorem ShapePlace.run_cons (p : ShapePlace) (t : PlanStep) (l : List PlanStep) :
    p.run (t :: l) = (p.next t).bind fun q => q.run l := rfl

theorem ShapePlace.run_append (p : ShapePlace) (a b : List PlanStep) :
    p.run (a ++ b) = (p.run a).bind fun q => q.run b := List.foldlM_append

/-- A step of a kind, its other fields at 0. -/
def PlanStep.bare (k : StepKind) : PlanStep := { kind := k, target := 0, hold := 0, ext := 0 }

/-- From every place the pattern can be completed. -/
theorem ShapePlace.run_completes (p : ShapePlace) : ∃ more, p.run more = some .done := by
  cases p with
  | start => exact ⟨[.bare .datum, .bare .creep, .bare .unload, .bare .lockoff, .bare .liftoff], rfl⟩
  | beforeCreep => exact ⟨[.bare .creep, .bare .unload, .bare .lockoff, .bare .liftoff], rfl⟩
  | afterCreep last => exact ⟨[.bare .unload, .bare .lockoff, .bare .liftoff], rfl⟩
  | lockoff => exact ⟨[.bare .lockoff, .bare .liftoff], rfl⟩
  | liftoff => exact ⟨[.bare .liftoff], rfl⟩
  | done => exact ⟨[], rfl⟩

/-- R25: a run of steps begins a full plan where each of them continues the pattern. -/
theorem ShapePlace.isSome_run_iff (p : ShapePlace) (l : List PlanStep) :
    (p.run l).isSome = true ↔ ∃ more, p.run (l ++ more) = some .done := by
  constructor
  · intro h
    obtain ⟨q, hq⟩ := Option.isSome_iff_exists.1 h
    obtain ⟨more, hm⟩ := q.run_completes
    exact ⟨more, by rw [ShapePlace.run_append, hq, Option.bind_some, hm]⟩
  · rintro ⟨more, hm⟩
    rw [ShapePlace.run_append, Option.bind_eq_some_iff] at hm
    obtain ⟨q, hq, -⟩ := hm
    rw [hq]
    rfl

/-- R25: a list without a failure is one that runs to the end of the pattern. -/
theorem fullFailure_eq_none {i : Nat} {p : ShapePlace} {l : List PlanStep} :
    fullFailure i p l = none ↔ p.run l = some .done := by
  induction l generalizing i p with
  | nil => simp [fullFailure]
  | cons t l ih =>
    rw [fullFailure, ShapePlace.run_cons]
    cases p.next t with
    | none => simp
    | some q => exact ih

/-- R25: the index of a failure is that of the first step after which the pattern cannot go on, or the one after the end
of a list that stops short. -/
theorem fullFailure_eq_some {i k : Nat} {p : ShapePlace} {l : List PlanStep} :
    fullFailure i p l = some k ↔
      ∃ j, k = i + j ∧ (p.run (l.take j)).isSome = true ∧
        (j < l.length ∧ p.run (l.take (j + 1)) = none ∨ j = l.length ∧ p.run l ≠ some .done) := by
  induction l generalizing i p with
  | nil => simp [fullFailure, eq_comm, and_comm]
  | cons t l ih =>
    rw [fullFailure]
    cases hn : p.next t with
    | none =>
      constructor
      · rintro ⟨⟩
        exact ⟨0, rfl, rfl, .inl ⟨Nat.succ_pos _, by simp [hn]⟩⟩
      · rintro ⟨_ | j, rfl, hrun, -⟩
        · rfl
        · simp [hn] at hrun
    | some q =>
      rw [ih]
      constructor
      · rintro ⟨j, rfl, hrun, hend⟩
        exact ⟨j + 1, by omega, by simpa [hn] using hrun, by simpa [hn] using hend⟩
      · rintro ⟨_ | j, rfl, hrun, hend⟩
        · simp [hn] at hend
        · exact ⟨j, by omega, by simpa [hn] using hrun, by simpa [hn] using hend⟩

/-! ## The shapes -/

theorem shapeOf_lockoff {t : PlanStep} {rest : List PlanStep} (h : t.kind = .lockoff) :
    shapeOf (t :: rest) ≠ .ok .full ∧ (shapeOf (t :: rest) = .ok .relock ↔ ∃ f, rest = [f] ∧ f.kind = .liftoff) ∧
      (rest = [] → shapeOf (t :: rest) = .error 2) ∧
      (∀ u more, rest = u :: more → u.kind ≠ .liftoff → shapeOf (t :: rest) = .error 2) ∧
      (∀ u more, rest = u :: more → u.kind = .liftoff → more ≠ [] → shapeOf (t :: rest) = .error 3) := by
  rcases rest with _ | ⟨u, more⟩
  · simp [shapeOf, h]
  · by_cases hu : u.kind = .liftoff <;> by_cases hm : more = [] <;> simp [shapeOf, h, hu, hm]

theorem shapeOf_other {t : PlanStep} {rest : List PlanStep} (h : t.kind ≠ .lockoff) :
    shapeOf (t :: rest) = (fullFailure 1 .start (t :: rest)).elim (.ok .full) .error := by
  simp only [shapeOf, if_neg h]
  cases fullFailure 1 .start (t :: rest) <;> rfl

/-- R25: a full plan runs through the whole pattern. -/
theorem shapeOf_full_iff (l : List PlanStep) : shapeOf l = .ok .full ↔ ShapePlace.start.run l = some .done := by
  rcases l with _ | ⟨t, rest⟩
  · simp [shapeOf]
  · by_cases h : t.kind = .lockoff
    · have hnext : ShapePlace.start.next t = none := by simp [ShapePlace.next, h]
      simp [(shapeOf_lockoff h).1, hnext]
    · rw [shapeOf_other h, ← fullFailure_eq_none (i := 1)]
      cases fullFailure 1 .start (t :: rest) <;> simp

theorem shapeOf_error_iff {t : PlanStep} {rest : List PlanStep} (h : t.kind ≠ .lockoff) (k : Nat) :
    shapeOf (t :: rest) = .error k ↔ fullFailure 1 .start (t :: rest) = some k := by
  rw [shapeOf_other h]
  cases fullFailure 1 .start (t :: rest) <;> simp

theorem shapeOf_relock_iff (l : List PlanStep) :
    shapeOf l = .ok .relock ↔ ∃ k f, l = [k, f] ∧ k.kind = .lockoff ∧ f.kind = .liftoff := by
  rcases l with _ | ⟨t, rest⟩
  · simp [shapeOf]
  · by_cases h : t.kind = .lockoff
    · rw [(shapeOf_lockoff h).2.1]
      constructor
      · rintro ⟨f, rfl, hf⟩
        exact ⟨t, f, rfl, h, hf⟩
      · rintro ⟨k, f, hl, -, hf⟩
        obtain ⟨rfl, rfl⟩ := List.cons_eq_cons.1 hl
        exact ⟨f, rfl, hf⟩
    · have hne : ¬∃ k f, t :: rest = [k, f] ∧ k.kind = .lockoff ∧ f.kind = .liftoff := by
        rintro ⟨k, f, hl, hk, -⟩
        obtain ⟨rfl, -⟩ := List.cons_eq_cons.1 hl
        exact h hk
      rw [shapeOf_other h]
      refine iff_of_false ?_ hne
      cases fullFailure 1 .start (t :: rest) <;> simp

/-! ## What runs through the pattern -/

section
variable {t : PlanStep} {l : List PlanStep}

theorem ShapePlace.done_run_iff : ShapePlace.done.run l = some .done ↔ l = [] := by
  cases l <;> simp [ShapePlace.next]

theorem ShapePlace.liftoff_run_iff : ShapePlace.liftoff.run l = some .done ↔ ∃ f, l = [f] ∧ f.kind = .liftoff := by
  rcases l with _ | ⟨t, l⟩
  · simp
  · by_cases h : t.kind = .liftoff <;> simp [ShapePlace.next, h, ShapePlace.done_run_iff]

theorem ShapePlace.lockoff_run_iff :
    ShapePlace.lockoff.run l = some .done ↔ ∃ k f, l = [k, f] ∧ k.kind = .lockoff ∧ f.kind = .liftoff := by
  rcases l with _ | ⟨t, l⟩
  · simp
  · by_cases h : t.kind = .lockoff <;> simp [ShapePlace.next, h, ShapePlace.liftoff_run_iff]

/-- R25: after CREEP, LOADs whose targets do not rise, below `last` where there is one, and the last three steps. -/
def closesPlan (last : Option Nat) (l : List PlanStep) : Prop :=
  ∃ (after : List PlanStep) (u k f : PlanStep), l = after ++ [u, k, f] ∧ (∀ t ∈ after, t.kind = .load) ∧
    (∀ v, last = some v → ∀ t ∈ after, t.target ≤ v) ∧ (after.map (·.target)).Pairwise (· ≥ ·) ∧
    u.kind = .unload ∧ k.kind = .lockoff ∧ f.kind = .liftoff

theorem not_closesPlan_nil (last : Option Nat) : ¬closesPlan last [] := by
  rintro ⟨after, u, k, f, hl, -⟩
  simp at hl

theorem closesPlan_cons (last : Option Nat) :
    closesPlan last (t :: l) ↔
      t.kind = .unload ∧ (∃ k f, l = [k, f] ∧ k.kind = .lockoff ∧ f.kind = .liftoff) ∨
        t.kind = .load ∧ (∀ v, last = some v → t.target ≤ v) ∧ closesPlan (some t.target) l := by
  constructor
  · rintro ⟨_ | ⟨a, after⟩, u, k, f, hl, hload, hlast, hfall, hu, hk, hf⟩
    · obtain ⟨rfl, rfl⟩ := List.cons_eq_cons.1 hl
      exact .inl ⟨hu, k, f, rfl, hk, hf⟩
    · obtain ⟨rfl, rfl⟩ := List.cons_eq_cons.1 hl
      rw [List.map_cons, List.pairwise_cons] at hfall
      refine .inr ⟨hload _ List.mem_cons_self, fun v hv => hlast v hv _ List.mem_cons_self, after, u, k, f, rfl,
        fun x hx => hload x (List.mem_cons_of_mem _ hx), ?_, hfall.2, hu, hk, hf⟩
      rintro v ⟨⟩ x hx
      exact hfall.1 _ (List.mem_map_of_mem hx)
  · rintro (⟨hu, k, f, rfl, hk, hf⟩ | ⟨ht, hv, after, u, k, f, rfl, hload, hlast, hfall, hu, hk, hf⟩)
    · exact ⟨[], t, k, f, rfl, by simp, by simp, List.Pairwise.nil, hu, hk, hf⟩
    · refine ⟨t :: after, u, k, f, rfl, ?_, fun v hlv => ?_, ?_, hu, hk, hf⟩
      · simpa using ⟨ht, hload⟩
      · simpa using ⟨hv v hlv, fun x hx => (hlast _ rfl x hx).trans (hv v hlv)⟩
      · simpa using ⟨hlast _ rfl, hfall⟩

theorem ShapePlace.afterCreep_run_iff (last : Option Nat) :
    (ShapePlace.afterCreep last).run l = some .done ↔ closesPlan last l := by
  induction l generalizing last with
  | nil => simp [not_closesPlan_nil]
  | cons t l ih =>
    rw [closesPlan_cons]
    cases hk : t.kind with
    | load =>
      by_cases hv : ∀ v, last = some v → t.target ≤ v
      · have hnext : (ShapePlace.afterCreep last).next t = some (.afterCreep (some t.target)) := by
          cases last <;> simp_all [ShapePlace.next]
        simpa [hnext, ih] using fun _ => hv
      · have hnext : (ShapePlace.afterCreep last).next t = none := by
          cases last <;> simp_all [ShapePlace.next]
        simp [hnext, hv]
    | unload => simp [ShapePlace.next, hk, ShapePlace.lockoff_run_iff]
    | datum => simp [ShapePlace.next, hk]
    | creep => simp [ShapePlace.next, hk]
    | lockoff => simp [ShapePlace.next, hk]
    | liftoff => simp [ShapePlace.next, hk]

/-- R25: before CREEP, any LOADs; then CREEP, and what follows it. -/
def continuesPlan (l : List PlanStep) : Prop :=
  ∃ (before : List PlanStep) (c : PlanStep) (rest : List PlanStep), l = before ++ c :: rest ∧
    (∀ t ∈ before, t.kind = .load) ∧ c.kind = .creep ∧ closesPlan none rest

theorem continuesPlan_cons :
    continuesPlan (t :: l) ↔ t.kind = .creep ∧ closesPlan none l ∨ t.kind = .load ∧ continuesPlan l := by
  constructor
  · rintro ⟨_ | ⟨a, before⟩, c, rest, hl, hload, hc, hrest⟩
    · obtain ⟨rfl, rfl⟩ := List.cons_eq_cons.1 hl
      exact .inl ⟨hc, hrest⟩
    · obtain ⟨rfl, rfl⟩ := List.cons_eq_cons.1 hl
      exact .inr
        ⟨hload _ List.mem_cons_self, before, c, rest, rfl, fun x hx => hload x (List.mem_cons_of_mem _ hx), hc,
        hrest⟩
  · rintro (⟨hc, hrest⟩ | ⟨ht, before, c, rest, rfl, hload, hc, hrest⟩)
    · exact ⟨[], t, l, rfl, by simp, hc, hrest⟩
    · exact ⟨t :: before, c, rest, rfl, by simpa using ⟨ht, hload⟩, hc, hrest⟩

theorem ShapePlace.beforeCreep_run_iff : ShapePlace.beforeCreep.run l = some .done ↔ continuesPlan l := by
  induction l with
  | nil => simp [continuesPlan]
  | cons t l ih =>
    rw [continuesPlan_cons]
    cases hk : t.kind <;> simp [ShapePlace.next, hk, ih, ShapePlace.afterCreep_run_iff]

theorem ShapePlace.start_run_iff :
    ShapePlace.start.run l = some .done ↔ ∃ d rest, l = d :: rest ∧ d.kind = .datum ∧ continuesPlan rest := by
  rcases l with _ | ⟨t, l⟩
  · simp
  · by_cases h : t.kind = .datum <;> simp [ShapePlace.next, h, ShapePlace.beforeCreep_run_iff]

end

/-- R25: the full plan, written out. -/
theorem shapeOf_full_iff_form (l : List PlanStep) :
    shapeOf l = .ok .full ↔
      ∃ (d : PlanStep) (before : List PlanStep) (c : PlanStep) (after : List PlanStep) (u k f : PlanStep),
        l = d :: before ++ c :: after ++ [u, k, f] ∧ d.kind = .datum ∧
        (∀ t ∈ before, t.kind = .load) ∧ c.kind = .creep ∧ (∀ t ∈ after, t.kind = .load) ∧
        (after.map (·.target)).Pairwise (· ≥ ·) ∧ u.kind = .unload ∧ k.kind = .lockoff ∧ f.kind = .liftoff := by
  rw [shapeOf_full_iff, ShapePlace.start_run_iff]
  constructor
  · rintro ⟨d, _, rfl, hd, before, c, _, rfl, hb, hc, after, u, k, f, rfl, ha, -, hfall, hu, hk, hf⟩
    exact ⟨d, before, c, after, u, k, f, by simp, hd, hb, hc, ha, hfall, hu, hk, hf⟩
  · rintro ⟨d, before, c, after, u, k, f, rfl, hd, hb, hc, ha, hfall, hu, hk, hf⟩
    exact ⟨d, _, by simp, hd, before, c, _, rfl, hb, hc, after, u, k, f, rfl, ha, by simp, hfall, hu, hk, hf⟩

/-! ## The steps of a request -/

/-- R24 check 5: the ranges of the fields a kind of step uses. -/
def rawStepFits (r : RawStep) : Prop :=
  (r.kind = 1 ∧ r.hold ≤ 3600) ∨ (r.kind = 2 ∧ 1 ≤ r.target ∧ r.target ≤ 1000 ∧ r.hold ≤ 3600) ∨
    (r.kind = 3 ∧ r.ext ≤ 1) ∨ (r.kind = 4 ∧ r.hold ≤ 3600) ∨ r.kind = 5 ∨ r.kind = 6

/-- R24 check 5: what a known kind asks of the fields it uses. -/
def StepKind.fieldsOk (k : StepKind) (r : RawStep) : Prop :=
  match k with
  | .datum | .unload => r.hold ≤ 3600
  | .load => 1 ≤ r.target ∧ r.target ≤ 1000 ∧ r.hold ≤ 3600
  | .creep => r.ext ≤ 1
  | .lockoff | .liftoff => True

theorem rawStepFits_iff (r : RawStep) : rawStepFits r ↔ ∃ k, StepKind.ofCode r.kind = some k ∧ k.fieldsOk r := by
  unfold rawStepFits
  rcases r with ⟨_ | _ | _ | _ | _ | _ | _ | kind, target, hold, ext⟩ <;> simp [StepKind.ofCode, StepKind.fieldsOk]

theorem planStepOf_stores {r : RawStep} {k : StepKind} (hk : StepKind.ofCode r.kind = some k) (h : k.fieldsOk r) :
    planStepOf r = some { kind := k, target := r.target, hold := r.hold, ext := r.ext } := by
  cases k <;> simp_all [planStepOf, StepKind.fieldsOk, inRange, badFlag]

theorem planStepOf_refuses {r : RawStep} (h : ¬rawStepFits r) : planStepOf r = none := by
  rw [rawStepFits_iff] at h
  push Not at h
  unfold planStepOf
  cases hk : StepKind.ofCode r.kind with
  | none => rfl
  | some k =>
    have hfield := h k hk
    cases k <;> simp_all [StepKind.fieldsOk, inRange, badFlag]

theorem StepKind.code_of_ofCode {n : Nat} {k : StepKind} (h : StepKind.ofCode n = some k) : n = k.code := by
  rcases n with _ | _ | _ | _ | _ | _ | _ | n <;> simp [StepKind.ofCode] at h <;> subst h <;> rfl

/-! ## LOAD_PLAN -/

theorem State.slotInUse_iff (s : State) (slot : Nat) :
    s.slotInUse slot = true ↔ ∃ st c, (s.stn st).ctx = some c ∧ c.slot = slot := by
  simp only [State.slotInUse, Bool.or_eq_true, Option.any_eq_true, beq_iff_eq]
  constructor
  · rintro (⟨c, hc, hs⟩ | ⟨c, hc, hs⟩)
    · exact ⟨.s1, c, hc, hs⟩
    · exact ⟨.s2, c, hc, hs⟩
  · rintro ⟨_ | _, c, hc, hs⟩
    · exact .inl ⟨c, hc, hs⟩
    · exact .inr ⟨c, hc, hs⟩

section
variable {s : State} {slot : Nat} {steps : List RawStep} (h1 : 1 ≤ slot) (h4 : slot ≤ 4)

include h1 h4

theorem actLoadPlan_busy (hu : s.slotInUse slot = true) : actLoadPlan slot steps s = (s, .plain .busy) := by
  simp [actLoadPlan, slot_inRange h1 h4, hu]

variable (hu : s.slotInUse slot = false)

include hu

theorem actLoadPlan_long (hl : 16 < steps.length) : actLoadPlan slot steps s = (s, .plain .planInvalid 17) := by
  simp [actLoadPlan, slot_inRange h1 h4, hu, hl]

theorem actLoadPlan_empty : actLoadPlan slot [] s = (s.setPlan slot none, .plain .ok) := by
  simp [actLoadPlan, slot_inRange h1 h4, hu]

variable (hne : steps ≠ []) (hl : steps.length ≤ 16)

include hne hl

theorem actLoadPlan_badStep {k : Nat} (hk : planStepsOf 1 steps = .error k) :
    actLoadPlan slot steps s = (s, .plain .planInvalid k) := by
  simp [actLoadPlan, slot_inRange h1 h4, hu, hne, not_lt.2 hl, hk]

theorem actLoadPlan_badShape {k : Nat} {l : List PlanStep} (hsteps : planStepsOf 1 steps = .ok l)
    (hk : shapeOf l = .error k) : actLoadPlan slot steps s = (s, .plain .planInvalid k) := by
  simp [actLoadPlan, slot_inRange h1 h4, hu, hne, not_lt.2 hl, hsteps, hk]

theorem actLoadPlan_stores {shape : PlanShape} {l : List PlanStep} (hsteps : planStepsOf 1 steps = .ok l)
    (hshape : shapeOf l = .ok shape) :
    actLoadPlan slot steps s = (s.setPlan slot (some ⟨shape, l⟩), .plain .ok shape.code) := by
  simp [actLoadPlan, slot_inRange h1 h4, hu, hne, not_lt.2 hl, hsteps, hshape]

end
end Sys2Proof.Machine

open Sys2Proof Sys2Proof.Machine in
/-- Settles O28: the checks of LOAD_PLAN, the two shapes, and the index that a departing plan is refused with. -/
theorem loadPlanStoresTheShapedPlan : Obligations.LoadPlanStoresTheShapedPlan := by
  unfold Obligations.LoadPlanStoresTheShapedPlan
  refine ⟨fun tag slot steps s hs => ?_, shapeOf_full_iff_form, shapeOf_relock_iff, fun t rest ht => ?_,
    fun t rest k ht => ?_,
    fun r => ?_, fun k r rest => ?_⟩
  · intro i
    refine ⟨fun h => ?_, fun h1 h4 => ⟨fun hbusy => ?_, fun hfree => ?_⟩⟩
    · exact Refuses.of_actOf rfl hs (by simp [actOf, i, actLoadPlan, slot_outOfRange h])
    · have hu : (s.taken i).slotInUse slot = true := (s.slotInUse_iff slot).2 hbusy
      exact Refuses.of_actOf rfl hs (actLoadPlan_busy h1 h4 hu)
    have hu : (s.taken i).slotInUse slot = false := by
      rw [← Bool.not_eq_true]
      intro hu
      obtain ⟨st, c, hc, hslot⟩ := (s.slotInUse_iff slot).1 hu
      exact hfree st c hc hslot
    refine ⟨fun hl => Refuses.of_actOf rfl hs (actLoadPlan_long h1 h4 hu hl), fun he => ?_, fun hne hl =>
      ⟨fun k hk => Refuses.of_actOf rfl hs (actLoadPlan_badStep h1 h4 hu hne hl hk), fun l hsteps =>
        ⟨fun k hk => Refuses.of_actOf rfl hs (actLoadPlan_badShape h1 h4 hu hne hl hsteps hk),
          fun shape hshape => ?_⟩⟩⟩
    · subst he
      exact Serves.of_actOf rfl hs (actLoadPlan_empty h1 h4 hu)
    · refine Serves.of_actOf rfl hs ((actLoadPlan_stores h1 h4 hu hne hl hsteps hshape).trans ?_)
      cases shape <;> rfl
  · obtain ⟨-, -, hnone, hwrong, hthird⟩ := shapeOf_lockoff (rest := rest) ht
    exact ⟨hnone, fun u more hrest => ⟨hwrong u more hrest, hthird u more hrest⟩⟩
  · intro l begins
    have hbegins (part : List PlanStep) : (ShapePlace.start.run part).isSome = true ↔ begins part := by
      simp only [ShapePlace.isSome_run_iff, begins, shapeOf_full_iff]
    have hstops (part : List PlanStep) : ShapePlace.start.run part = none ↔ ¬begins part := by
      rw [← hbegins, Option.not_isSome_iff_eq_none]
    have hfull : ShapePlace.start.run (t :: rest) ≠ some .done ↔ shapeOf (t :: rest) ≠ .ok .full :=
      not_congr (shapeOf_full_iff _).symm
    have hlen : l.length = (t :: rest).length := rfl
    rw [shapeOf_error_iff ht, fullFailure_eq_some]
    simp only [hbegins, hstops, hfull]
    constructor
    · rintro ⟨j, rfl, hrun, hend⟩
      rw [Nat.add_sub_cancel_left]
      refine ⟨by omega, hrun, hend.imp (fun ⟨hj, hn⟩ => ⟨by omega, by rwa [Nat.add_comm]⟩) fun ⟨hj, hn⟩ =>
        ⟨by omega, hn⟩⟩
    · rintro ⟨h1, hrun, hend⟩
      refine ⟨k - 1, by omega, hrun, hend.imp (fun ⟨hj, hn⟩ => ⟨by omega, ?_⟩) fun ⟨hj, hn⟩ => ⟨by omega, hn⟩⟩
      rwa [Nat.sub_add_cancel h1]
  · refine ⟨planStepOf_refuses, fun h => ?_⟩
    obtain ⟨k, hk, hok⟩ := (rawStepFits_iff r).1 h
    refine ⟨_, planStepOf_stores hk hok, (StepKind.code_of_ofCode hk).trans ?_, rfl, rfl, rfl⟩
    cases k <;> rfl
  · rw [planStepsOf]
    cases planStepOf r with
    | none => rfl
    | some t => cases planStepsOf (k + 1) rest <;> rfl
end

section
namespace Sys2Proof.Machine

/-! ## No pump driven against its force, part by part -/

/-- R88: the three pump outputs stand at 0. -/
def State.PumpsOff (s : State) : Prop := s.s1.pump.applied = 0 ∧ s.s2.pump.applied = 0 ∧ s.grout.pump.applied = 0

/-- R88, R93: a disabled station's pump stands at 0, and every pump does outside running. -/
def State.Rests (s : State) : Prop :=
  (s.phase ≠ .running → s.PumpsOff) ∧ (s.site.enables.s1 = false → s.s1.pump.applied = 0) ∧
  (s.site.enables.s2 = false → s.s2.pump.applied = 0) ∧ (s.site.enables.g = false → s.grout.pump.applied = 0)

/-- R88, R93, R107: the invariant, the force apart from the rest. -/
def State.Calm (s : State) : Prop := (s.pumpForce = true → s.PumpsOff) ∧ s.Rests

theorem State.calm_iff (s : State) : s.Calm ↔ s.pumpsSound := by
  unfold State.Calm State.Rests State.PumpsOff State.pumpsSound
  tauto

/-- Pumps that all stand at 0 are driven against nothing. -/
theorem State.PumpsOff.calm {s : State} (h : s.PumpsOff) : s.Calm := by
  obtain ⟨h1, h2, hg⟩ := h
  exact ⟨fun _ => ⟨h1, h2, hg⟩, fun _ => ⟨h1, h2, hg⟩, fun _ => h1, fun _ => h2, fun _ => hg⟩

theorem State.Calm.off {s : State} (h : s.Calm) (hp : s.phase ≠ .running) : s.PumpsOff := by
  obtain ⟨-, hrest, -⟩ := h
  exact hrest hp

/-- R106, R115: a force that ends asks for nothing. -/
theorem State.Calm.rests {s : State} (h : s.Calm) : s.Rests := by
  obtain ⟨-, hr⟩ := h
  exact hr

/-! ## The applied demand of a station -/

section
variable {x : Station}

@[simp] theorem Station.move_applied (k : MotionKind) : (x.move k).pump.applied = x.pump.applied := by
  unfold Station.move
  split <;> rfl

@[simp] theorem Station.stop_applied : x.stop.pump.applied = x.pump.applied := rfl

@[simp] theorem Station.startRelease_applied (t : StnState) : (x.startRelease t).pump.applied = x.pump.applied :=
  x.move_applied _

@[simp] theorem Station.startRamp_applied (target : Nat) : (x.startRamp target).pump.applied = x.pump.applied :=
  x.move_applied _

@[simp] theorem Station.startSeek_applied : x.startSeek.pump.applied = x.pump.applied :=
  Station.move_applied (x := { x with enc := x.enc.zero }) _

@[simp] theorem Station.beginLiftoff_applied : x.beginLiftoff.pump.applied = x.pump.applied := by
  unfold Station.beginLiftoff
  split
  · rfl
  · split <;> simp

@[simp] theorem Station.wholeSecond_applied : x.wholeSecond.pump.applied = x.pump.applied := by
  unfold Station.wholeSecond
  split
  · rfl
  · split
    · rfl
    · dsimp only
      split <;> rfl

@[simp] theorem Station.goOn_applied (c : TestCtx) (m : Motion) : (x.goOn c m).pump.applied = x.pump.applied := by
  unfold Station.goOn
  dsimp only
  split <;> simp

@[simp] theorem Station.take_applied (d : Decision) : (x.take d).pump.applied = x.pump.applied := by
  unfold Station.take
  dsimp only
  split <;> simp

@[simp] theorem Station.enterStep_applied (again : Bool) : (x.enterStep again).pump.applied = x.pump.applied := by
  unfold Station.enterStep
  split
  · rfl
  · split
    · rfl
    · split <;> simp

@[simp] theorem Station.judgeLift_applied (c : TestCtx) (load : Option Nat) :
    (x.judgeLift c load).pump.applied = x.pump.applied := Station.take_applied _

@[simp] theorem Station.keepBand_applied : x.keepBand.pump.applied = x.pump.applied := by
  unfold Station.keepBand
  split
  · rfl
  · next c _ =>
    extract_lets load judge
    have hjudge (y : Station) : (judge y).pump.applied = y.pump.applied := by
      simp only [judge]
      split
      · split <;> simp
      · split <;> simp
    split
    · extract_lets ended
      by_cases he : ended = true
      · rw [if_pos he, hjudge, Station.stop_applied]
      · rw [if_neg he, Station.goOn_applied]
    · exact hjudge x

@[simp] theorem Station.seekSample_applied (c : TestCtx) (m : Motion) :
    (x.seekSample c m).pump.applied = x.pump.applied := by
  unfold Station.seekSample
  split
  · simp
  · split
    · simp
    · split <;> simp

@[simp] theorem Station.pulseEnd_applied : x.pulseEnd.pump.applied = x.pump.applied := by
  unfold Station.pulseEnd
  dsimp only
  split
  · split <;> simp
  · rfl

@[simp] theorem Station.overload_applied : x.overload.pump.applied = x.pump.applied := by
  unfold Station.overload
  split <;> rfl

end

/-! ## The applied demand of the grout pump -/

@[simp] theorem Grout.judgeFlow_applied (g : Grout) : g.judgeFlow.pump.applied = g.pump.applied := by
  unfold Grout.judgeFlow
  split <;> rfl

/-! ## One part replaced -/

section
variable {s : State} {st : Stn}

theorem State.Calm.withStn {x : Station} (h : s.Calm) (hx : x.pump.applied = (s.stn st).pump.applied) :
    (s.setStn st x).Calm := by
  cases st <;> simpa [State.Calm, State.Rests, State.PumpsOff, State.setStn, State.pumpForce, hx, State.stn] using h

theorem State.Calm.onStn {f : Station → Station} (h : s.Calm)
    (hf : (f (s.stn st)).pump.applied = (s.stn st).pump.applied) : (s.modStn st f).Calm :=
  h.withStn hf

@[simp] theorem State.Calm.onCtx {f : TestCtx → TestCtx} (h : s.Calm) : (s.modCtx st f).Calm := h.onStn rfl

theorem State.Calm.withGrout {g : Grout} (h : s.Calm) (hg : g.pump.applied = s.grout.pump.applied) :
    ({ s with grout := g } : State).Calm := by
  simpa [State.Calm, State.Rests, State.PumpsOff, State.pumpForce, hg] using h

@[simp] theorem State.Calm.modGrout {f : Grout → Grout} (h : s.Calm)
    (hf : (f s.grout).pump.applied = s.grout.pump.applied) : (s.modGrout f).Calm :=
  h.withGrout ((Grout.judgeFlow_applied _).trans hf)

/-! ## The shared operations of the state -/

@[simp] theorem State.Calm.notice {k : NoticeKind} {o : Origin} {a : Option Nat} {d : Nat} (h : s.Calm) :
    (s.notice k o a d).Calm := h

@[simp] theorem State.Calm.endCondition {k : NoticeKind} {o : Origin} (h : s.Calm) : (s.endCondition k o).Calm := h

@[simp] theorem State.Calm.modEntry {id : Nat} {f : Entry → Entry} (h : s.Calm) : (s.modEntry id f).Calm := h

@[simp] theorem State.Calm.modRow {r : Nat} {f : Row → Row} (h : s.Calm) : (s.modRow r f).Calm := h

@[simp] theorem State.Calm.clearFlag {f : Flag} (h : s.Calm) : (s.clearFlag f).Calm := h

@[simp] theorem State.Calm.hold (h : s.Calm) : (s.hold st).Calm := by
  unfold State.hold
  dsimp only
  split
  · exact h.withStn rfl
  · exact State.Calm.notice (h.withStn rfl)

@[simp] theorem State.Calm.addCause {c : Cause} (h : s.Calm) : (s.addCause c st).Calm := by
  unfold State.addCause
  dsimp only
  split <;> simp [h]

@[simp] theorem State.Calm.removeCauseAt {c : Cause} (h : s.Calm) : (s.removeCauseAt c st).Calm := by
  unfold State.removeCauseAt
  split <;> simp [h]

@[simp] theorem State.Calm.thawCauses (h : s.Calm) : (s.thawCauses st).Calm := h.onCtx

@[simp] theorem State.Calm.takeDecision {d : Decision} (h : s.Calm) : (s.takeDecision st d).Calm :=
  h.onStn (Station.take_applied d)

@[simp] theorem State.Calm.endRun {r : RunEnd} {c : Option HaltCause} (h : s.Calm) : (s.endRun r c).Calm := by
  unfold State.endRun
  split <;> exact h

@[simp] theorem State.Calm.addPassCause {c : Cause} (h : s.Calm) : (s.addPassCause c).Calm := by
  unfold State.addPassCause
  split
  · exact h
  · dsimp only
    split
    · exact h.modGrout rfl
    · exact h.modGrout rfl
    · exact h
    · exact h

@[simp] theorem State.Calm.handCause {c : Cause} {k : HaltCause} (h : s.Calm) : (s.handCause c k).Calm :=
  h.addCause.addCause.endRun.addPassCause

@[simp] theorem State.Calm.dropCause {c : Cause} (h : s.Calm) : (s.dropCause c).Calm :=
  (h.removeCauseAt (st := .s1) (c := c)).removeCauseAt (st := .s2) (c := c)

@[simp] theorem State.Calm.arbiter (h : s.Calm) : s.arbiter.Calm := by
  unfold State.arbiter
  split
  · split
    · exact h
    · split
      · exact State.Calm.notice (State.Calm.modEntry (h.modGrout rfl))
      · exact h
  · exact h

@[simp] theorem State.Calm.completePass (h : s.Calm) : s.completePass.Calm := by
  unfold State.completePass
  split
  · exact h
  · split
    · exact h
    · exact State.Calm.arbiter h

@[simp] theorem State.Calm.endPass {r : PassEnd} (h : s.Calm) : (s.endPass r).Calm := by
  unfold State.endPass
  split
  · exact h
  · next p _ =>
    split
    · have hended : (s.modGrout fun g => Grout.modValve
          { g with
            state := .ending
            pass := some { p with reason := some r, endTime := s.now, noFlow := none }
            refusal := g.refusal.zero
            pump := { g.pump with cmd := 0 } } p.port Valve.closeCmd).Calm := h.modGrout rfl
      dsimp only
      split
      · exact hended.completePass
      · exact hended
    · exact h

/-! ## TRIP, flags and the emergency state -/

/-- R107: where a force is in effect the forces bring every pump to 0. -/
theorem State.Rests.applyForces (h : s.Rests) : s.applyForces.Calm := by
  have hoff : s.pumpForce = true → ({ s with
      s1 := { s.s1 with pump := { s.s1.pump with applied := 0 } }
      s2 := { s.s2 with pump := { s.s2.pump with applied := 0 } }
      grout := { s.grout with pump := { s.grout.pump with applied := 0 } } } : State).Calm := fun _ =>
    State.PumpsOff.calm ⟨rfl, rfl, rfl⟩
  have hfree : ¬s.pumpForce = true → s.Calm := fun hf => ⟨fun h' => absurd h' hf, h⟩
  have judged {u : State} (hu : u.Calm) : ({ u with grout := u.grout.judgeFlow } : State).Calm :=
    hu.withGrout (Grout.judgeFlow_applied _)
  have closed {u : State} (hu : u.Calm) :
      ({ u with grout := { u.grout with valves := u.grout.valves.map Valve.closeCmd } } : State).Calm := hu
  unfold State.applyForces
  dsimp only
  split <;> split
  · next hf _ => exact judged (closed (hoff hf))
  · next hf _ => exact judged (hoff hf)
  · next hf _ => exact judged (closed (hfree hf))
  · next hf _ => exact judged (hfree hf)

@[simp] theorem State.Calm.judgeTrip (h : s.Calm) : s.judgeTrip.Calm := by
  have hset (b : Bool) : ({ s with faults := { s.faults with trip := b } } : State).Rests := h.rests
  unfold State.judgeTrip
  split
  · exact h
  · split
    · exact h
    · split
      · exact (hset true).applyForces.handCause
      · have hfree : ({ s with faults := { s.faults with trip := false } } : State).Calm := by
          obtain ⟨hforce, -⟩ := h
          refine ⟨fun he => hforce ?_, hset false⟩
          simp only [State.pumpForce, Bool.false_or] at he
          simp [State.pumpForce, he]
        exact hfree.dropCause.arbiter

@[simp] theorem State.Calm.raise {f : Flag} (h : s.Calm) : (s.raise f).Calm := by
  unfold State.raise
  split
  · dsimp only
    split <;> exact State.Calm.judgeTrip h
  · exact h

@[simp] theorem State.Calm.clearCombined {group : Nat} (h : s.Calm) : (s.clearCombined group).Calm :=
  State.Calm.judgeTrip h

@[simp] theorem State.Calm.applyMasks (h : s.Calm) : s.applyMasks.Calm := State.Calm.judgeTrip h

/-- R113, R114: the first line forces the pumps off; a later one finds them forced off. -/
@[simp] theorem State.Calm.setEmergency {line : EmLine} (h : s.Calm) : (s.setEmergency line).Calm := by
  unfold State.setEmergency
  extract_lets e e' first faults set told
  have hset : set.Rests := h.rests
  clear_value e'
  split
  · exact State.Calm.handCause (State.Rests.applyForces (s := told) hset)
  · next hf =>
    obtain ⟨hforce, -⟩ := h
    have he : s.faults.emergency.set = true := by simpa [first, e] using hf
    exact State.Calm.notice ⟨fun _ => hforce (by simp [State.pumpForce, he]), hset⟩

@[simp] theorem State.Calm.clearEmergency (h : s.Calm) : s.clearEmergency.Calm := by
  have hfree : ({ s with faults := { s.faults with emergency := .clear } } : State).Calm := by
    obtain ⟨hforce, hrest⟩ := h
    refine ⟨fun he => hforce ?_, hrest⟩
    simp only [State.pumpForce, Emergency.clear, Bool.or_false] at he
    simp [State.pumpForce, he]
  exact (hfree.dropCause (c := .emergency)).endCondition.arbiter

/-! ## The steps and the end of a test -/

@[simp] theorem State.Calm.beginStep (h : s.Calm) : (s.beginStep st).Calm := by
  unfold State.beginStep
  split
  · exact h
  · dsimp only
    split
    · exact h.onStn (Station.enterStep_applied _)
    · exact h.modEntry.onStn (Station.enterStep_applied _)

@[simp] theorem State.Calm.restartStep (h : s.Calm) : (s.restartStep st).Calm := by
  unfold State.restartStep
  split
  · exact h
  · split
    · exact h.onStn (Station.enterStep_applied _)
    · exact h.beginStep

@[simp] theorem State.Calm.stopped (h : s.Calm) : (s.modStn st Station.stop).Calm := h.onStn rfl

@[simp] theorem State.Calm.completeStep (h : s.Calm) : (s.completeStep st).Calm := by
  unfold State.completeStep
  split
  · exact h
  · dsimp only
    split
    · exact State.Calm.beginStep (h.notice.onStn rfl)
    · exact State.Calm.hold (h.notice.onStn rfl)

@[simp] theorem State.Calm.releaseDone (h : s.Calm) : (s.releaseDone st).Calm := by
  have hs := h.stopped (st := st)
  unfold State.releaseDone
  dsimp only
  split
  · exact hs
  · split
    · split
      · exact hs.onStn Station.startSeek_applied
      · exact hs.hold
    · exact hs.completeStep

@[simp] theorem State.Calm.endTest (h : s.Calm) : (s.endTest st).Calm := by
  unfold State.endTest
  dsimp only
  split
  · exact h
  · split
    · exact State.Calm.notice (State.Calm.withStn h.modEntry.modRow rfl)
    · exact State.Calm.notice (State.Calm.withStn h.modEntry rfl)

@[simp] theorem State.Calm.seatEvent (h : s.Calm) : (s.seatEvent st).Calm := by
  unfold State.seatEvent
  split
  · exact h
  · dsimp only
    split
    · exact h.onStn rfl
    · split
      · exact h.onStn rfl
      · exact State.Calm.modEntry (State.Calm.modRow (h.onStn rfl))

@[simp] theorem State.Calm.holdEnd (h : s.Calm) : (s.holdEnd st).Calm := by
  have hs := h.stopped (st := st)
  unfold State.holdEnd
  dsimp only
  split
  · exact hs
  · split
    · exact State.Calm.completeStep (hs.onStn rfl)
    · exact State.Calm.completeStep (hs.onStn rfl)
    · split
      · exact State.Calm.completeStep (hs.onStn rfl)
      · exact State.Calm.takeDecision (hs.onStn rfl)
    · exact hs.seatEvent
    all_goals exact hs

@[simp] theorem State.Calm.creepReading (h : s.Calm) : (s.creepReading st).Calm := by
  unfold State.creepReading
  dsimp only
  split
  · exact h
  · split
    · exact State.Calm.completeStep (State.Calm.stopped (h.onStn rfl))
    · exact h.onStn rfl

@[simp] theorem State.Calm.startTest {e : Entry} {slot : Nat} {p : Plan} (h : s.Calm) :
    (s.startTest st e slot p).Calm := by
  unfold State.startTest
  dsimp only
  split
  · exact State.Calm.beginStep (State.Calm.onStn h.modEntry.modRow rfl)
  · exact State.Calm.beginStep (State.Calm.onStn h.modEntry rfl)

@[simp] theorem State.Calm.rebase (h : s.Calm) : (s.rebase st).Calm := by
  unfold State.rebase
  split
  · exact h
  · exact h.onStn rfl

/-! ## A sample of a stressing station -/

@[simp] theorem State.Calm.keptBand (h : s.Calm) : (s.modStn st Station.keepBand).Calm :=
  h.onStn Station.keepBand_applied

@[simp] theorem State.Calm.goingOn {c : TestCtx} {m : Motion} (h : s.Calm) :
    (s.setStn st ((s.stn st).goOn c m)).Calm :=
  h.withStn (Station.goOn_applied c m)

@[simp] theorem State.Calm.moved {k : MotionKind} (h : s.Calm) : (s.modStn st (·.move k)).Calm :=
  h.onStn (Station.move_applied k)

@[simp] theorem State.Calm.holdSample (h : s.Calm) : (s.holdSample st).Calm := by
  unfold State.holdSample
  split
  · exact h
  · dsimp only
    split
    · split <;> split <;> simp [h]
    · split <;> simp [h]
    · split <;> simp [h]
    · exact h

@[simp] theorem State.Calm.targetReached (h : s.Calm) : (s.targetReached st).Calm :=
  State.Calm.holdSample (h.onStn rfl)

@[simp] theorem State.Calm.rampSample {c : TestCtx} {m : Motion} (h : s.Calm) : (s.rampSample st c m).Calm := by
  unfold State.rampSample
  dsimp only
  split <;> split
  any_goals split
  all_goals simp [h]

@[simp] theorem State.Calm.releaseSample {c : TestCtx} (h : s.Calm) : (s.releaseSample st c).Calm := by
  unfold State.releaseSample
  dsimp only
  split
  · split <;> simp [h]
  · split <;> simp [h]

@[simp] theorem State.Calm.endStroke (h : s.Calm) : (s.endStroke st).Calm := by
  unfold State.endStroke
  dsimp only
  split <;> simp [h]

@[simp] theorem State.Calm.stationSample (h : s.Calm) : (s.stationSample st).Calm := by
  unfold State.stationSample
  dsimp only
  split
  · exact h
  · split
    · exact h.endStroke
    · split
      · exact h.rampSample
      · exact State.Calm.holdSample (h.onStn rfl)
      · exact h.withStn (Station.seekSample_applied _ _)
      · exact h.releaseSample
      · exact h.releaseSample
      · exact h

/-! ## Guards at a sample, and self-tests -/

@[simp] theorem State.Calm.startSelftest {g : TestedGuard} (h : s.Calm) : (s.startSelftest g).Calm := by
  cases g with
  | overload st => exact h.onStn rfl
  | overpressure => exact h
  | jam => exact h

@[simp] theorem State.Calm.leaveSelftest {passed : Bool} {g : TestedGuard} (h : s.Calm) :
    (s.leaveSelftest passed g).Calm := by
  cases g with
  | overload st => exact h.onStn rfl
  | overpressure => exact h
  | jam => exact h

@[simp] theorem State.Calm.endSelftest {g : TestedGuard} {tripAt : Option Nat} (h : s.Calm) :
    (s.endSelftest g tripAt).Calm := by
  unfold State.endSelftest
  extract_lets passed record faults recorded left told judged
  have hrec : recorded.Calm := h
  have htold : told.Calm := State.Calm.notice hrec.leaveSelftest
  have hjudged : judged.Calm := by
    simp only [judged]
    split
    · exact htold
    · exact htold.raise
  split
  · exact hjudged.arbiter
  · exact hjudged

@[simp] theorem State.Calm.selfNext {g : TestedGuard} {self : SelfTest} {r : Option Bool} (h : s.Calm) :
    (s.selfNext g self r).Calm := by
  cases r with
  | none => exact h
  | some _ => exact h.endSelftest

@[simp] theorem State.Calm.selfLoad (h : s.Calm) : (s.selfLoad st).Calm := by
  unfold State.selfLoad
  split
  · exact h
  · exact State.Calm.selfNext (h.onStn rfl)

@[simp] theorem State.Calm.selfPressure (h : s.Calm) : s.selfPressure.Calm := by
  unfold State.selfPressure
  split
  · exact h
  · exact State.Calm.selfNext h

@[simp] theorem State.Calm.selfTension (h : s.Calm) : s.selfTension.Calm := by
  unfold State.selfTension
  split
  · exact h
  · exact State.Calm.selfNext h

@[simp] theorem State.Calm.overloadTrip (h : s.Calm) : (s.overloadTrip st).Calm :=
  State.Calm.raise (h.onStn Station.overload_applied)

@[simp] theorem State.Calm.overloadSample (h : s.Calm) : (s.overloadSample st).Calm := by
  unfold State.overloadSample
  dsimp only
  split
  · exact h
  · split
    · exact State.Calm.overloadTrip (h.withStn rfl)
    · exact h.withStn rfl

@[simp] theorem State.Calm.overpressureTrip (h : s.Calm) : s.overpressureTrip.Calm := h.raise.endPass

@[simp] theorem State.Calm.refusalSample (h : s.Calm) : s.refusalSample.Calm := by
  unfold State.refusalSample
  split
  · dsimp only
    split
    · exact State.Calm.endPass h
    · exact h
  · exact h

@[simp] theorem State.Calm.overpressureSample (h : s.Calm) : s.overpressureSample.Calm := by
  unfold State.overpressureSample
  dsimp only
  split
  · split
    · exact State.Calm.overpressureTrip h
    · exact h
  · exact h

@[simp] theorem State.Calm.groutSample {guardFirst : Bool} (h : s.Calm) : (s.groutSample guardFirst).Calm := by
  have hn : ({ s with grout := s.grout.note } : State).Calm := h
  unfold State.groutSample
  dsimp only
  split
  · exact h.selfPressure
  · split
    · exact hn.overpressureSample.refusalSample
    · exact hn.refusalSample.overpressureSample

end
end Sys2Proof.Machine
end

section
namespace Sys2Proof.Machine

/-! ## SET_STATIONS (R92, R93) -/

/-- R92, R93: the state in which TRIP is judged again after the four enables are written: a station that becomes disabled
is emptied, with its fault group. -/
def State.enablesWritten (s : State) (e : Enables) : State :=
  let was := s.site.enables
  let off1 := was.s1 && !e.s1
  let off2 := was.s2 && !e.s2
  let offW := was.w && !e.w
  let offG := was.g && !e.g
  { s with
    site := { s.site with enables := e }
    s1 := if off1 then s.s1.disable else s.s1
    s2 := if off2 then s.s2.disable else s.s2
    winch := if offW then s.winch.disable else s.winch
    grout := if offG then s.grout.disable else s.grout
    faults :=
      { s.faults with
        det := s.faults.det &&& ~~~((if off1 then 0x0000F#20 else 0#20) ||| (if off2 then 0x000F0#20 else 0#20) |||
          (if offW then 0x00300#20 else 0#20) ||| (if offG then 0x03C00#20 else 0#20))
        comb := s.faults.comb &&& ~~~((if off1 then 1#6 else 0#6) ||| (if off2 then 2#6 else 0#6) |||
          (if offW then 4#6 else 0#6) ||| (if offG then 8#6 else 0#6)) } }

/-- R93: the flags of a group, where its station becomes disabled, and the flags as they were where it does not. -/
def Faults.without (f : Faults) (off : Bool) (bits : BitVec 20) (groups : BitVec 6) : Faults :=
  if off then { f with det := f.det &&& ~~~bits, comb := f.comb &&& ~~~groups } else f

theorem Faults.without_eq (f : Faults) (off : Bool) (bits : BitVec 20) (groups : BitVec 6) :
    f.without off bits groups =
      { f with
        det := f.det &&& ~~~(if off then bits else 0#20), comb := f.comb &&& ~~~(if off then groups else 0#6) } := by
  cases off
  · simp only [Faults.without, Bool.false_eq_true, if_false, BitVec.not_zero, BitVec.and_allOnes]
  · rfl

/-- R92, R93: SET_STATIONS writes the enables, has TRIP judged again, and lets the arbiter act for a G that becomes enabled. -/
theorem State.setStations_eq (s : State) (e : Enables) :
    s.setStations e =
      if (!s.site.enables.g && e.g) = true then (s.enablesWritten e).judgeTrip.arbiter
      else (s.enablesWritten e).judgeTrip := by
  unfold State.setStations
  extract_lets was site written s1Off s2Off wOff gOff judged
  have h1 : s1Off = { written with
      s1 := if was.s1 && !e.s1 then s.s1.disable else s.s1
      faults := s.faults.without (was.s1 && !e.s1) 0x0000F#20 1#6 } := by
    simp only [s1Off]; cases was.s1 && !e.s1 <;> rfl
  have h2 : s2Off = { s1Off with
      s2 := if was.s2 && !e.s2 then s.s2.disable else s.s2
      faults := s1Off.faults.without (was.s2 && !e.s2) 0x000F0#20 2#6 } := by
    have hs : s1Off.s2 = s.s2 := by rw [h1]
    simp only [s2Off, ← hs]; cases was.s2 && !e.s2 <;> rfl
  have h3 : wOff = { s2Off with
      winch := if was.w && !e.w then s.winch.disable else s.winch
      faults := s2Off.faults.without (was.w && !e.w) 0x00300#20 4#6 } := by
    have hs : s2Off.winch = s.winch := by rw [h2, h1]
    simp only [wOff, ← hs]; cases was.w && !e.w <;> rfl
  have h4 : gOff = { wOff with
      grout := if was.g && !e.g then s.grout.disable else s.grout
      faults := wOff.faults.without (was.g && !e.g) 0x03C00#20 8#6 } := by
    have hs : wOff.grout = s.grout := by rw [h3, h2, h1]
    simp only [gOff, ← hs]; cases was.g && !e.g <;> rfl
  have h : gOff = s.enablesWritten e := by
    rw [h4, h3, h2, h1]
    simp only [Faults.without_eq, State.enablesWritten, BitVec.not_or, BitVec.and_assoc]
    rfl
  simp only [judged, h]
  rfl

end Sys2Proof.Machine
end

section
namespace Sys2Proof.Machine

/-! ## Samples, pulses and scans -/

section
variable {s : State} {st : Stn}

@[simp] theorem State.Calm.judgeMark {code : Nat} {isOpen isOver : Flag} (h : s.Calm) :
    (s.judgeMark code isOpen isOver).Calm := by
  unfold State.judgeMark
  split <;> simp [h]

@[simp] theorem State.Calm.loadSample {code : Nat} {guardFirst : Bool} (h : s.Calm) :
    (s.loadSample st code guardFirst).Calm := by
  have hp : ((s.modStn st (·.publish (s.cal st.code) code)).judgeMark code (.loadOpen st) (.loadOver st)).Calm :=
    State.Calm.judgeMark (h.onStn rfl)
  unfold State.loadSample
  split
  · dsimp only
    split
    · exact hp.selfLoad
    · split
      · exact hp.overloadSample.stationSample
      · exact hp.stationSample.overloadSample
  · exact h

@[simp] theorem State.Calm.winchTrip {r : RunEnd} (h : s.Calm) : (s.winchTrip r).Calm := by
  have hn : s.noteWinch.Calm := h
  exact hn.endRun

@[simp] theorem State.Calm.paySample (h : s.Calm) : s.paySample.Calm := by
  have hg : ({ s with winch := (s.winch.guards s.site.settings).1 } : State).Calm := h
  unfold State.paySample
  dsimp only
  split
  · exact hg.endRun
  · split
    · exact hg.endRun
    · split
      · exact hg.endRun
      · exact hg

@[simp] theorem State.Calm.winchSample (h : s.Calm) : s.winchSample.Calm := by
  have hn : ({ s with winch := s.winch.note } : State).Calm := h
  unfold State.winchSample
  dsimp only
  split
  · exact hn.paySample
  · exact hn.selfTension
  · exact hn
  · exact hn

@[simp] theorem State.Calm.tensionSample {code : Nat} (h : s.Calm) : (s.tensionSample code).Calm := by
  unfold State.tensionSample
  split
  · exact State.Calm.winchSample (State.Calm.judgeMark h)
  · exact h

@[simp] theorem State.Calm.pressureSample {code : Nat} {guardFirst : Bool} (h : s.Calm) :
    (s.pressureSample code guardFirst).Calm := by
  unfold State.pressureSample
  split
  · exact State.Calm.groutSample (State.Calm.judgeMark h)
  · exact h

@[simp] theorem State.Calm.encoderMoves {line : EncLine} (h : s.Calm) : (s.encoderMoves st line).Calm := h.onStn rfl

@[simp] theorem State.Calm.encoderEdge {line : EncLine} (h : s.Calm) : (s.encoderEdge st line).Calm := by
  have hm : (s.encoderMoves st line).Calm := h.encoderMoves
  unfold State.encoderEdge
  extract_lets flipped moved invert n
  split
  · split
    · exact hm.raise
    · exact hm.onStn rfl
  · exact hm

@[simp] theorem State.Calm.strayPulse (h : s.Calm) : s.strayPulse.Calm := by
  unfold State.strayPulse
  dsimp only
  split
  · exact State.Calm.raise h
  · exact h

@[simp] theorem State.Calm.wallScan (h : s.Calm) : s.wallScan.Calm := by
  unfold State.wallScan
  extract_lets told r judged
  have hj : judged.Calm := by
    have ht : told.Calm := by
      simp only [told]
      split
      · exact h.raise
      · exact h
    exact ht
  split
  · exact hj.raise
  · exact hj

@[simp] theorem State.Calm.riseScan (h : s.Calm) : (s.riseScan st).Calm := by
  unfold State.riseScan
  dsimp only
  split
  · exact State.Calm.addCause (h.onStn rfl)
  · exact h.onStn rfl

/-! ## The winch, the manifold and the Archive -/

@[simp] theorem State.Calm.startRun {e : Entry} (h : s.Calm) : (s.startRun e).Calm := h

@[simp] theorem State.Calm.completeRun (h : s.Calm) : s.completeRun.Calm := by
  unfold State.completeRun
  split <;> exact h

@[simp] theorem State.Calm.setPort {port : Nat} {a : Option Nat} (h : s.Calm) : (s.setPort port a).Calm := h

@[simp] theorem State.Calm.joinQueue {anchor : Nat} {k : PassKind} (h : s.Calm) : (s.joinQueue anchor k).Calm := h

@[simp] theorem State.Calm.resumePass {p : Pass} (h : s.Calm) : (s.resumePass p).Calm := h.modGrout rfl

@[simp] theorem State.Calm.enterPumping {p : Pass} (h : s.Calm) : (s.enterPumping p).Calm := h

@[simp] theorem State.Calm.closeAnchor {e : Entry} (h : s.Calm) : (s.closeAnchor e).Calm := by
  unfold State.closeAnchor
  dsimp only
  split <;> exact h

@[simp] theorem State.Calm.appendDone {anchor slot : Nat} {r : Record} (h : s.Calm) :
    (s.appendDone anchor slot r).Calm := h

@[simp] theorem State.Calm.appendTorn {anchor number slot : Nat} (h : s.Calm) :
    (s.appendTorn anchor number slot).Calm :=
  State.Calm.notice (State.Calm.raise h)

theorem Station.disable_if_applied (x : Station) (off : Bool) :
    (if off then x.disable else x).pump.applied = if off then 0 else x.pump.applied := by
  cases off <;> rfl

theorem Grout.disable_if_applied (g : Grout) (off : Bool) :
    (if off then g.disable else g).pump.applied = if off then 0 else g.pump.applied := by
  cases off <;> rfl

/-- R93: a station that becomes disabled has its pump at 0, and another leaves its pump as it was. -/
theorem State.Calm.enablesWritten {e : Enables} (h : s.Calm) : (s.enablesWritten e).Calm := by
  have keep {off : Bool} {a : Nat} (ha : a = 0) : (if off then 0 else a) = 0 := by simp [ha]
  have zero {was now : Bool} {a : Nat} (ha : was = false → a = 0) (hn : now = false) :
      (if was && !now then 0 else a) = 0 := by
    cases was
    · exact ha rfl
    · simp [hn]
  have hoff (hs : s.PumpsOff) : (s.enablesWritten e).PumpsOff := by
    obtain ⟨o1, o2, og⟩ := hs
    exact ⟨(s.s1.disable_if_applied _).trans (keep o1), (s.s2.disable_if_applied _).trans (keep o2),
      (s.grout.disable_if_applied _).trans (keep og)⟩
  obtain ⟨hforce, hphase, h1, h2, hg⟩ := h
  exact ⟨fun hf => hoff (hforce hf), fun hp => hoff (hphase hp),
    fun he => (s.s1.disable_if_applied _).trans (zero h1 he), fun he => (s.s2.disable_if_applied _).trans (zero h2 he),
    fun he => (s.grout.disable_if_applied _).trans (zero hg he)⟩

@[simp] theorem State.Calm.setStations {e : Enables} (h : s.Calm) : (s.setStations e).Calm := by
  rw [s.setStations_eq]
  split
  · exact h.enablesWritten.judgeTrip.arbiter
  · exact h.enablesWritten.judgeTrip

/-! ## The site minute -/

theorem visitPost_calm {acc : State × List Nat} (ha : acc.1.Calm) (id : Nat) : (visitPost acc id).1.Calm := by
  unfold visitPost
  dsimp only
  (iterate 3 (split; · exact ha))
  split
  · exact ha
  · exact State.Calm.arbiter ha

theorem foldl_visitPost_calm (ids : List Nat) {acc : State × List Nat} (ha : acc.1.Calm) :
    (ids.foldl visitPost acc).1.Calm := by
  induction ids generalizing acc with
  | nil => exact ha
  | cons id rest ih => exact ih (visitPost_calm ha id)

theorem State.Calm.visitCure {id : Nat} (h : s.Calm) : (visitCure s id).Calm := by
  unfold Machine.visitCure
  split
  · exact h
  · split <;> exact h

theorem foldl_visitCure_calm (ids : List Nat) {u : State} (hu : u.Calm) : (ids.foldl visitCure u).Calm := by
  induction ids generalizing u with
  | nil => exact hu
  | cons id rest ih => exact ih hu.visitCure

@[simp] theorem State.Calm.judgeWaiting {w : List Nat} (h : s.Calm) : (s.judgeWaiting w).Calm := by
  unfold State.judgeWaiting
  dsimp only
  split
  · exact h
  · split <;> exact h

@[simp] theorem State.Calm.siteMinute (h : s.Calm) : s.siteMinute.Calm := by
  unfold State.siteMinute
  dsimp only
  split
  · exact State.Calm.judgeWaiting (foldl_visitCure_calm _ (foldl_visitPost_calm _ (acc := (_, [])) h))
  · exact h

@[simp] theorem State.Calm.setTime {time : Nat} (h : s.Calm) : (s.setTime time).Calm := by
  unfold State.setTime
  dsimp only
  split
  · exact State.Calm.siteMinute h
  · exact h

/-! ## Calibrations, settings, points and the link watch -/

@[simp] theorem State.Calm.drainSelector {sel : Nat} (h : s.Calm) : (s.drainSelector sel).Calm := by
  unfold State.drainSelector
  split <;> exact h

@[simp] theorem State.Calm.writeSettings {t : Settings} (h : s.Calm) : (s.writeSettings t).Calm := by
  unfold State.writeSettings
  dsimp only
  split <;> exact h

@[simp] theorem State.Calm.setPlan {slot : Nat} {p : Option Plan} (h : s.Calm) : (s.setPlan slot p).Calm := h

@[simp] theorem State.Calm.setWallPoint {n : Nat} {p : Point} (h : s.Calm) : (s.setWallPoint n p).Calm := h

@[simp] theorem State.Calm.zeroTilt {n : Nat} (h : s.Calm) : (s.zeroTilt n).Calm := h

@[simp] theorem State.Calm.setBaseline {n : Nat} {b : Option Int} (h : s.Calm) : (s.setBaseline n b).Calm := h

@[simp] theorem State.Calm.resumeLink (h : s.Calm) : s.resumeLink.Calm := State.Calm.arbiter (State.Calm.dropCause h)

@[simp] theorem State.Calm.watchExpires {window : Nat} (h : s.Calm) : (s.watchExpires window).Calm :=
  State.Calm.handCause (State.Calm.notice (State.Calm.raise h))

/-! ## Resets and start-up -/

theorem State.cut_pumpsOff (s : State) : s.cut.PumpsOff := ⟨rfl, rfl, rfl⟩

theorem State.PumpsOff.clearByCause (h : s.PumpsOff) : s.clearByCause.PumpsOff := by
  unfold State.clearByCause
  dsimp only
  split <;> split <;> exact h

/-- R88, R199: start-up begins with every pump at 0. -/
theorem State.PumpsOff.beginStartUp (h : s.PumpsOff) : s.beginStartUp.Calm := by
  unfold State.beginStartUp
  extract_lets gathered started cleared cut emptied told clocked
  have htold : told.Calm := (State.PumpsOff.clearByCause (s := started) h).calm
  have hclocked : clocked.Calm := by
    simp only [clocked]
    split
    · exact State.Calm.notice (State.Calm.raise htold)
    · exact htold
  exact hclocked

theorem State.PumpsOff.leaveReset (h : s.PumpsOff) : s.leaveReset.Calm := by
  unfold State.leaveReset
  split
  · exact State.PumpsOff.calm h
  · exact h.beginStartUp

@[simp] theorem State.Calm.finishErase {ok : Bool} (h : s.Calm) : (s.finishErase ok).Calm := by
  unfold State.finishErase
  split
  · exact h
  · dsimp only
    split
    · exact h
    · exact State.Calm.raise h

theorem State.finishErase_phase (ok : Bool) : (s.finishErase ok).phase = s.phase := by
  unfold State.finishErase
  split
  · rfl
  · dsimp only
    split
    · rfl
    · obtain ⟨d, c, t, a, b, w, g, r, n, hr⟩ := State.raise_shape
        { s with archive := s.archive.endErase _ ok } .archiveWrite
      rw [hr]

theorem State.PumpsOff.readLines (h : s.PumpsOff) : s.readLines.PumpsOff := by
  unfold State.readLines
  split <;> exact h

/-- R88, R200: start-up ends with every pump at 0, so that a force that stands then finds none driven. -/
theorem State.Calm.endStartUp {ok : Bool} (h : s.Calm) (hp : s.phase ≠ .running) : (s.endStartUp ok).Calm := by
  have hread : (s.finishErase ok).readLines.PumpsOff :=
    (h.finishErase.off ((s.finishErase_phase ok).symm ▸ hp)).readLines
  unfold State.endStartUp
  dsimp only
  split <;> exact State.PumpsOff.calm hread

end
end Sys2Proof.Machine
end

section
namespace Sys2Proof.Machine

/-! ## The blocks of the requests -/

section
variable {s : State}

theorem withStation_calm (h : s.Calm) (station : Nat) {act : Stn → State × Answer} (hact : ∀ st, (act st).1.Calm) :
    (withStation station s act).1.Calm := by
  unfold withStation
  split
  · exact h
  · split
    · exact hact _
    · exact h

theorem actResumeTest_calm (h : s.Calm) (station rebase : Nat) : (actResumeTest station rebase s).1.Calm := by
  unfold actResumeTest
  split
  · exact h
  · refine withStation_calm h station fun st => ?_
    have hc := h.onCtx (st := st) (f := fun c => { c with causes := (c.causes.remove .host).remove .neighbour })
    dsimp only
    (repeat' split) <;> simp [h, hc]

theorem actAbortTest_calm (h : s.Calm) (station : Nat) : (actAbortTest station s).1.Calm := by
  refine withStation_calm h station fun st => ?_
  have hf : ((s.thawCauses st).modStn st fun x => x.startRelease .unloading).Calm :=
    (h.thawCauses (st := st)).onStn (Station.startRelease_applied _)
  (repeat' split) <;> simp [h, hf]

theorem actAdjustTest_calm (h : s.Calm) (station : Nat) (plo ext : RawOption) :
    (actAdjustTest station plo ext s).1.Calm := by
  unfold actAdjustTest
  (iterate 2 (split; · exact h))
  refine withStation_calm h station fun st => ?_
  dsimp only
  (iterate 6 (split; · exact h))
  exact h.onCtx

theorem actHoldTest_calm (h : s.Calm) (station : Nat) : (actHoldTest station s).1.Calm := by
  refine withStation_calm h station fun st => ?_
  split <;> simp [h]

theorem actSetCalibration_calm (h : s.Calm) (sel : Nat) (zero : Int) (span signed invert : Nat) :
    (actSetCalibration sel zero span signed invert s).1.Calm := by
  unfold actSetCalibration
  dsimp only
  (iterate 6 (split; · exact h))
  exact State.Calm.drainSelector h

theorem actSetLimits_calm (h : s.Calm) (items : List (Nat × Nat)) : (actSetLimits items s).1.Calm := by
  unfold actSetLimits
  dsimp only
  (repeat' split)
  any_goals exact h
  exact State.Calm.applyMasks h

/-- The block of every request leaves no pump driven against its force. -/
theorem actOf_calm (h : s.Calm) (i : Instr) : (actOf i s).1.Calm := by
  cases i with
  | takeNotice =>
    show (actTakeNotice s).1.Calm
    unfold actTakeNotice
    split <;> exact h
  | setNoticeLevel _ k l =>
    show (actSetNoticeLevel k l s).1.Calm
    unfold actSetNoticeLevel
    (repeat' split) <;> exact h
  | declare _ d =>
    show (actDeclare d s).1.Calm
    unfold actDeclare
    (repeat' split) <;> exact h
  | amend _ id items =>
    show (actAmend id items s).1.Calm
    unfold actAmend
    (repeat' split) <;> exact h
  | void _ id =>
    show (actVoid id s).1.Calm
    unfold actVoid
    (repeat' split) <;> exact h
  | loadPlan _ slot steps =>
    show (actLoadPlan slot steps s).1.Calm
    unfold actLoadPlan
    (repeat' split) <;> exact h
  | startTest _ station a slot =>
    show (actStartTest station a slot s).1.Calm
    unfold actStartTest
    (repeat' split) <;> simp [h]
  | holdTest _ station => exact actHoldTest_calm h station
  | resumeTest _ station rebase => exact actResumeTest_calm h station rebase
  | abortTest _ station => exact actAbortTest_calm h station
  | adjustTest _ station plo ext => exact actAdjustTest_calm h station plo ext
  | setCalibration _ sel zero span signed invert => exact actSetCalibration_calm h sel zero span signed invert
  | setStations _ a b c d =>
    show (actSetStations a b c d s).1.Calm
    unfold actSetStations
    split <;> simp [h]
  | clearFault _ g c =>
    show (actClearFault g c s).1.Calm
    unfold actClearFault
    (repeat' split) <;> exact h
  | clearGroup _ g =>
    show (actClearGroup g s).1.Calm
    unfold actClearGroup
    (repeat' split) <;> simp [h]
  | runSelftest _ g =>
    show (actRunSelftest g s).1.Calm
    unfold actRunSelftest
    (repeat' split) <;> simp [h]
  | clearEmergency =>
    show (actClearEmergency s).1.Calm
    unfold actClearEmergency
    dsimp only
    (repeat' split) <;> simp [h]
  | winchRun _ a =>
    show (actWinchRun a s).1.Calm
    unfold actWinchRun
    (repeat' split) <;> exact h
  | winchStop =>
    show (actWinchStop s).1.Calm
    unfold actWinchStop
    (repeat' split) <;> simp [h]
  | assignPort _ p a =>
    show (actAssignPort p a s).1.Calm
    unfold actAssignPort
    (repeat' split) <;> simp [h]
  | releasePort _ p =>
    show (actReleasePort p s).1.Calm
    unfold actReleasePort
    (repeat' split) <;> exact h
  | groutRequest _ a =>
    show (actGroutRequest a s).1.Calm
    unfold actGroutRequest
    (repeat' split) <;> simp [h]
  | groutCancel _ a =>
    show (actGroutCancel a s).1.Calm
    unfold actGroutCancel
    (repeat' split) <;> exact h
  | groutStop =>
    show (actGroutStop s).1.Calm
    unfold actGroutStop
    (repeat' split) <;> simp [h]
  | groutPause =>
    show (actGroutPause s).1.Calm
    unfold actGroutPause
    (repeat' split) <;> simp [h]
  | groutResume =>
    show (actGroutResume s).1.Calm
    unfold actGroutResume
    (repeat' split) <;> simp [h]
  | setPoint _ p k l m =>
    show (actSetPoint p k l m s).1.Calm
    unfold actSetPoint
    dsimp only
    (repeat' split) <;> exact h
  | baseline _ p a =>
    show (actBaseline p a s).1.Calm
    unfold actBaseline
    (repeat' split) <;> exact h
  | closeAnchor _ a =>
    show (actCloseAnchor a s).1.Calm
    unfold actCloseAnchor
    dsimp only
    (repeat' split) <;> simp [h]
  | markExported _ b =>
    show (actMarkExported b s).1.Calm
    unfold actMarkExported
    (repeat' split) <;> exact h
  | eraseOldest =>
    show (actEraseOldest s).1.Calm
    unfold actEraseOldest
    (repeat' split) <;> exact h
  | setLimits _ items => exact actSetLimits_calm h items
  | setSettings _ items =>
    show (actSetSettings items s).1.Calm
    unfold actSetSettings
    dsimp only
    (repeat' split) <;> simp [h]
  | setTime _ v =>
    show (actSetTime v s).1.Calm
    unfold actSetTime
    split <;> simp [h]
  | setTag _ w v =>
    show (actSetTag w v s).1.Calm
    unfold actSetTag
    split <;> exact h
  | resumeLink =>
    show (actResumeLink s).1.Calm
    unfold actResumeLink
    split <;> simp [h]
  | reset | lockLimits | unknownKind | byteReceived | receiverGap | replySent | linkWatchExpiry | powerReset
    | pinReset | startUpEnd | emergencyFallingEdge | sample | holdEnd | creepReading | rampTimeout
    | wholeSecond | releaseDutyEnd | seatPulseEnd | encoderEdge | drumPulse | flowPulse | noFlowTime | noFlow
    | siteMinute | scanComplete | jackOverloadTrip | groutRefusalTrip | groutOverpressureTrip | winchJamTrip
    | winchSlackTrip | neighbourRiseTrip | wallTiltTrip | selftestFail | brakeIntervalExpiry | arbiterServe
    | valveTravelEnd | pauseExpired | appendEnd | eraseEnd | emergencyLineRise | pwmPeriodStart
    | siteClockSecond | resetPinRelease => exact h
  | _ => rw [actOf_query rfl]; exact h

/-! ## The link -/

theorem State.Calm.answer {kind tag : Nat} {i : Instr} (h : s.Calm) : (s.answer kind tag (actOf i)).Calm := by
  unfold State.answer
  split
  · exact h
  · exact actOf_calm h i

theorem takeFrame_calm (h : s.Calm) (f : Frame) : (takeFrame f s).Calm := by
  unfold takeFrame
  split
  · exact h
  · split
    · exact h.answer
    · exact h

theorem State.Calm.frameArrives {f : Frame} {take : State → State} (h : s.Calm)
    (ht : ∀ u : State, u.Calm → (take u).Calm) : (s.frameArrives f take).Calm := by
  unfold State.frameArrives
  split
  · exact h
  · extract_lets watched link joined
    have hw : watched.Calm := by
      simp only [watched]
      split
      · rw [s.restartWatch_eq]; exact h
      · exact h
    split
    · exact hw
    · split
      · exact ht joined hw
      · exact hw

theorem State.Calm.nextFrame (h : s.Calm) : s.nextFrame.Calm := by
  unfold State.nextFrame
  have hq : ({ s with link := { s.link with queue := s.link.queue.tail, reply := none } } : State).Calm := h
  dsimp only
  split
  · exact hq
  · exact takeFrame_calm hq _

end

/-! ## Every command -/

section
variable {s t : State}

theorem State.event_calm {f : State → State} (h : s.Calm) (ht : s.event f = .next t) (hf : (f s).Calm) : t.Calm := by
  unfold State.event at ht
  injection ht with ht
  subst ht
  split
  · exact hf
  · exact h

theorem State.calm_of_next {u : State} (ht : (.next u : Host.Outcome State Fault Refusal) = .next t) (hu : u.Calm) :
    t.Calm := by
  injection ht with ht
  exact ht ▸ hu

/-- R88: at a period's start the commanded demands are applied, forced off where a force stands or the station is disabled. -/
theorem State.periodStart_calm (hp : s.phase = .running) :
    ({ s with
      s1 := { s.s1 with pump := s.s1.pump.apply (s.pumpForce || !s.site.enables.s1) }
      s2 := { s.s2 with pump := s.s2.pump.apply (s.pumpForce || !s.site.enables.s2) }
      grout := { s.grout with pump := s.grout.pump.apply (s.pumpForce || !s.site.enables.g) }.judgeFlow } :
        State).Calm := by
  have forced (p : PumpOut) (on : Bool) (hf : s.pumpForce = true) : (p.apply (s.pumpForce || on)).applied = 0 := by
    simp [PumpOut.apply, hf]
  have disabled (p : PumpOut) {on : Bool} (hn : on = false) : (p.apply (s.pumpForce || !on)).applied = 0 := by
    simp [PumpOut.apply, hn]
  refine State.Calm.withGrout (s := { s with
    s1 := { s.s1 with pump := s.s1.pump.apply (s.pumpForce || !s.site.enables.s1) }
    s2 := { s.s2 with pump := s.s2.pump.apply (s.pumpForce || !s.site.enables.s2) }
    grout := { s.grout with pump := s.grout.pump.apply (s.pumpForce || !s.site.enables.g) } }) ?_
    (Grout.judgeFlow_applied _)
  exact ⟨fun hf => ⟨forced _ _ hf, forced _ _ hf, forced _ _ hf⟩, fun h' => absurd hp h', disabled _, disabled _,
    disabled _⟩

/-- Every command leaves no pump driven against its force. -/
theorem exec_calm (i : Instr) (h : s.Calm) (ht : exec i s = .next t) : t.Calm := by
  by_cases hi : i.isRequest = true
  · rw [exec_request hi] at ht
    exact State.calm_of_next ht (h.frameArrives fun _ hu => hu.answer)
  cases i with
  | unknownKind kind tag body => exact State.calm_of_next ht (h.frameArrives fun _ hu => takeFrame_calm hu _)
  | byteReceived b stopError =>
    unfold exec execByteReceived at ht
    refine State.event_calm h ht ?_
    dsimp only
    split
    · exact h
    · split
      · exact h
      · exact State.Calm.frameArrives h fun _ hu => takeFrame_calm hu _
  | receiverGap =>
    unfold exec execReceiverGap at ht
    exact State.event_calm h ht h
  | replySent =>
    unfold exec execReplySent at ht
    refine State.event_calm h ht ?_
    split
    · exact h
    · split
      · exact State.PumpsOff.leaveReset s.cut_pumpsOff
      · exact h.nextFrame
  | linkWatchExpiry =>
    unfold exec execLinkWatchExpiry at ht
    refine State.event_calm h ht ?_
    split <;> simp [h]
  | powerReset up lost => exact State.calm_of_next ht (State.PumpsOff.leaveReset s.cut_pumpsOff)
  | pinReset => exact State.calm_of_next ht (State.PumpsOff.leaveReset s.cut_pumpsOff)
  | resetPinRelease =>
    refine State.calm_of_next ht ?_
    split
    · next hp => exact State.PumpsOff.leaveReset (h.off (by simp [hp]))
    · exact h
  | startUpEnd ok =>
    refine State.calm_of_next ht ?_
    split
    · next hp => exact h.endStartUp (by simp [hp])
    · exact h
  | emergencyFallingEdge line =>
    have hl : (s.setLine line false).Calm := by cases line <;> exact h
    refine State.calm_of_next ht ?_
    split
    · dsimp only
      split
      · exact hl.setEmergency
      · exact hl
    · exact h
  | emergencyLineRise line => exact State.calm_of_next ht (by cases line <;> exact h)
  | sample chan code guardFirst =>
    unfold exec execSample at ht
    refine State.event_calm h ht ?_
    cases chan <;> simp [h]
  | holdEnd st =>
    unfold exec execHoldEnd at ht
    refine State.event_calm h ht ?_
    split <;> simp [h]
  | creepReading st =>
    unfold exec execCreepReading at ht
    refine State.event_calm h ht ?_
    split <;> simp [h]
  | rampTimeout st =>
    unfold exec execRampTimeout at ht
    refine State.event_calm h ht ?_
    split <;> simp [h]
  | wholeSecond st =>
    unfold exec execWholeSecond at ht
    exact State.event_calm h ht (h.onStn Station.wholeSecond_applied)
  | releaseDutyEnd st =>
    unfold exec execReleaseDutyEnd at ht
    exact State.event_calm h ht (h.onStn rfl)
  | seatPulseEnd st =>
    unfold exec execSeatPulseEnd at ht
    refine State.event_calm h ht ?_
    split
    · exact h.onStn Station.pulseEnd_applied
    · exact h
  | encoderEdge st line =>
    refine State.calm_of_next ht ?_
    split <;> simp [h]
  | drumPulse dirHigh =>
    unfold exec execDrumPulse at ht
    exact State.event_calm h ht h
  | flowPulse period =>
    have hp : ({ s with grout := s.grout.windowPulse s.site.settings.quantum period } : State).Calm := h
    unfold exec execFlowPulse at ht
    refine State.event_calm h ht ?_
    dsimp only
    split
    · exact h
    · split
      · split
        · exact hp.endPass
        · exact hp
      · exact h.strayPulse
  | noFlowTime =>
    unfold exec execNoFlowTime at ht
    refine State.event_calm h ht ?_
    split <;> exact h
  | noFlow =>
    unfold exec execNoFlow at ht
    refine State.event_calm h ht ?_
    split <;> simp [h]
  | siteMinute =>
    unfold exec execSiteMinute at ht
    refine State.event_calm h ht ?_
    split <;> simp [h]
  | scanComplete codes wallFirst =>
    have hp : (s.publishScan codes).Calm := h
    unfold exec execScanComplete at ht
    refine State.event_calm h ht ?_
    dsimp only
    split
    · exact hp.wallScan.riseScan.riseScan
    · exact hp.riseScan.riseScan.wallScan
  | jackOverloadTrip st =>
    unfold exec execJackOverloadTrip at ht
    refine State.event_calm h ht ?_
    split
    · exact h.endSelftest
    · exact State.Calm.overloadTrip (h.onStn rfl)
    · exact h
  | groutRefusalTrip =>
    unfold exec execGroutRefusalTrip at ht
    refine State.event_calm h ht ?_
    split
    · exact State.Calm.endPass h
    · exact h
  | groutOverpressureTrip =>
    unfold exec execGroutOverpressureTrip at ht
    refine State.event_calm h ht ?_
    dsimp only
    split
    · exact h.endSelftest
    · exact State.Calm.overpressureTrip h
    · exact h
  | winchJamTrip =>
    unfold exec execWinchJamTrip at ht
    refine State.event_calm h ht ?_
    split
    · exact h.endSelftest
    · split <;> simp [h]
  | winchSlackTrip =>
    unfold exec execWinchSlackTrip at ht
    refine State.event_calm h ht ?_
    split <;> simp [h]
  | neighbourRiseTrip st point =>
    unfold exec execNeighbourRiseTrip at ht
    refine State.event_calm h ht ?_
    split
    · exact State.Calm.addCause (h.onStn rfl)
    · exact h
  | wallTiltTrip point =>
    unfold exec execWallTiltTrip at ht
    refine State.event_calm h ht ?_
    dsimp only
    split
    · exact State.Calm.raise h
    · exact h
  | selftestFail guard =>
    unfold exec execSelftestFail at ht
    refine State.event_calm h ht ?_
    split
    · exact h
    · split <;> simp [h]
  | brakeIntervalExpiry =>
    unfold exec execBrakeIntervalExpiry at ht
    refine State.event_calm h ht ?_
    split <;> simp [h]
  | arbiterServe =>
    unfold exec execArbiterServe at ht
    exact State.event_calm h ht h.arbiter
  | valveTravelEnd port =>
    have hv : (s.modGrout fun g => g.modValve port Valve.travelEnd).Calm := h.modGrout rfl
    unfold exec execValveTravelEnd at ht
    refine State.event_calm h ht ?_
    dsimp only
    split
    · exact hv
    · split
      · exact hv
      · split
        · exact hv.enterPumping
        · split
          · exact hv.completePass
          · exact hv
  | pauseExpired =>
    unfold exec execPauseExpired at ht
    refine State.event_calm h ht ?_
    split <;> simp [h]
  | appendEnd ok =>
    unfold exec execAppendEnd at ht
    refine State.event_calm h ht ?_
    split
    · split <;> simp [h]
    all_goals exact h
  | eraseEnd ok =>
    unfold exec execEraseEnd at ht
    refine State.event_calm h ht ?_
    dsimp only
    split
    · split
      · exact State.Calm.raise h
      · split <;> exact h
    all_goals exact h
  | pwmPeriodStart =>
    unfold exec execPwmPeriodStart State.event at ht
    refine State.calm_of_next ht ?_
    split
    · next hp => exact State.periodStart_calm hp
    · exact h
  | siteClockSecond =>
    refine State.calm_of_next ht ?_
    split
    · exact h
    · dsimp only
      split
      · exact State.Calm.siteMinute h
      · exact h
  | _ => exact absurd rfl hi

/-- A step runs one command, and every command leaves no pump driven against its force. -/
theorem step_calm (h : s.Calm) (ht : step s = .next t) : t.Calm := by
  unfold step at ht
  split at ht
  · exact State.calm_of_next ht h
  · next c rest _ => exact exec_calm c (s := { s with pending := rest }) h ht

end
end Sys2Proof.Machine

open Sys2Proof.Machine in
/-- Settles O9: the invariant, with the force of TRIP and EMERGENCY taken apart from the rest, is kept by every command. -/
theorem stepKeepsPumpsForcedOff : Obligations.StepKeepsPumpsForcedOff := by
  unfold Obligations.StepKeepsPumpsForcedOff
  exact fun s t hs ht => t.calm_iff.1 (step_calm (s.calm_iff.2 hs) ht)
end

section
namespace Sys2Proof.Machine

/-! ## Check lists whose checks are numbered -/

theorem firstRefusal_append (l m : List (Bool × Resp × Nat)) :
    firstRefusal (l ++ m) = (firstRefusal l).or (firstRefusal m) := by
  simp only [firstRefusal, List.find?_append]
  cases l.find? fun c => !c.1 <;> rfl

/-- The first failing check of a list whose checks are numbered in order and refused with one code. -/
theorem firstRefusal_numbered (l : List Bool) (r : Resp) (k : Nat) :
    firstRefusal ((l.zipIdx k).map fun c => (c.1, r, c.2)) = (l.findIdx? fun ok => !ok).map fun n => (r, n + k) := by
  have h : firstRefusal ((l.zipIdx k).map fun c => (c.1, r, c.2)) = (firstFailure (l.zipIdx k)).map fun n => (r, n) := by
    simp only [firstRefusal, firstFailure, List.find?_map, Option.map_map]
    rfl
  rw [h, firstFailure_zipIdx, Option.map_map]
  rfl

/-! ## The checks of SET_STATIONS -/

/-- R92: for each station, that it is IDLE where it is to be disabled. -/
def State.idleWhereDisabled (s : State) (a b c d : Nat) : List Bool :=
  let was := s.site.enables
  [decide (was.s1 = true ∧ a = 0 → s.s1.state = .idle), decide (was.s2 = true ∧ b = 0 → s.s2.state = .idle),
    decide (was.w = true ∧ c = 0 → s.winch.state = .idle), decide (was.g = true ∧ d = 0 → s.grout.state = .idle)]

theorem stationsRefusal_eq (a b c d : Nat) (s : State) :
    stationsRefusal a b c d s =
      (([a, b, c, d].findIdx? fun v => decide (1 < v)).map fun k => (.outOfRange, k + 1)).or
        (((s.idleWhereDisabled a b c d).findIdx? fun ok => !ok).map fun k => (.busy, k + 1)) := by
  have hidle {α : Type} [DecidableEq α] (was : Bool) (v : Nat) (x i : α) :
      (!(was && v == 0) || x == i) = decide (was = true ∧ v = 0 → x = i) := by
    rw [Bool.eq_iff_iff]
    simp [imp_iff_not_or]
  have hcodes : [a, b, c, d].findIdx? (fun v => decide (1 < v)) =
      ([a, b, c, d].map fun v => !badFlag v).findIdx? fun ok => !ok := by
    rw [List.findIdx?_map]
    congr 1
    funext v
    simp [badFlag]
  rw [hcodes, ← firstRefusal_numbered, ← firstRefusal_numbered, ← firstRefusal_append]
  simp only [stationsRefusal, hidle]
  rfl

end Sys2Proof.Machine

open Sys2Proof Sys2Proof.Machine in
/-- Settles O42: the checks in their order, the enables written, and what a disabled station keeps and loses. -/
theorem setStationsWritesTheEnables : Obligations.SetStationsWritesTheEnables := by
  unfold Obligations.SetStationsWritesTheEnables
  intro tag a b c d s hs i was idle
  have href : stationsRefusal a b c d (s.taken i) =
      (([a, b, c, d].findIdx? fun v => decide (1 < v)).map fun k => (Resp.outOfRange, k + 1)).or
        ((idle.findIdx? fun ok => !ok).map fun k => (Resp.busy, k + 1)) :=
    stationsRefusal_eq a b c d (s.taken i)
  refine ⟨fun k hk => ?_, fun ha hb hc hd => ?_, fun x => ?_, fun w => ?_, fun g => ?_⟩
  · exact Refuses.of_actOf rfl hs (by simp [actOf, actSetStations, i, href, hk])
  · have hcodes : ([a, b, c, d].findIdx? fun v => decide (1 < v)) = none := by
      simp [List.findIdx?_cons, Nat.not_lt.2 ha, Nat.not_lt.2 hb, Nat.not_lt.2 hc, Nat.not_lt.2 hd]
    rw [hcodes] at href
    refine ⟨fun k hk => ?_, fun hall => ?_⟩
    · exact Refuses.of_actOf rfl hs (by simp [actOf, actSetStations, i, href, hk])
    · intro off bits groups
      have hready : (idle.findIdx? fun ok => !ok) = none := by
        rw [List.findIdx?_eq_none_iff]
        simpa using hall
      have hoff {v : Nat} (hv : v ≤ 1) : (!(v == 1)) = (v == 0) := by
        interval_cases v <;> rfl
      refine Serves.of_actOf rfl hs ?_
      simp only [actOf, actSetStations, i, href, hready, Option.map_none, Option.or_none, accept_eq, State.setStations_eq,
        State.enablesWritten, hoff ha, hoff hb, hoff hc, hoff hd]
      have hg : ((!(s.taken i).site.enables.g && d == 1) = true) = (was.g = false ∧ d = 1) := by simp [was]
      simp only [i] at hg
      simp only [hg]
      rfl
  · exact ⟨rfl, rfl, rfl, rfl, rfl, rfl, rfl, rfl, rfl, rfl⟩
  · exact ⟨rfl, rfl, rfl, rfl, rfl, rfl, rfl⟩
  · refine ⟨rfl, rfl, rfl, rfl, rfl, rfl, fun v hv => ?_, rfl, rfl, rfl⟩
    obtain ⟨v, -, rfl⟩ := List.mem_map.1 hv
    unfold Valve.closeCmd
    split <;> simp_all
end

section
namespace Sys2Proof.Machine

/-! ## SET_CALIBRATION (R74, R75) -/

/-- R75 check 2: a test holds a baseline of a point. -/
theorem State.baselineHeld_iff (s : State) (st : Stn) (p : Nat) :
    s.baselineHeld st p = true ↔ ∃ c b, (s.stn st).ctx = some c ∧ c.baselines[p - 1]? = some (some b) := by
  simp only [State.baselineHeld, Option.any_eq_true, Option.isSome_iff_exists, List.getD_eq_getElem?_getD,
    Option.getD_eq_iff]
  aesop

theorem ownerStn_none {sel : Nat} (h1 : sel ≠ 1) (h2 : sel ≠ 2) (h21 : sel ≠ 21) (h22 : sel ≠ 22) :
    ownerStn sel = none := by
  unfold ownerStn
  split <;> simp_all

section
variable {s : State} {sel : Nat}

/-- R75 check 2: a channel's selector is busy while its station is not IDLE, a point's while a test watches it. -/
theorem State.selectorBusy_channel (h1 : 1 ≤ sel) (h20 : sel ≤ 20) :
    s.selectorBusy sel = true ↔
      sel = 1 ∧ s.s1.state ≠ .idle ∨ sel = 2 ∧ s.s2.state ≠ .idle ∨ sel = 3 ∧ s.winch.state ≠ .idle ∨
        sel = 4 ∧ s.grout.state ≠ .idle ∨
        5 ≤ sel ∧ (s.baselineHeld .s1 (sel - 4) = true ∨ s.baselineHeld .s2 (sel - 4) = true) := by
  rcases Nat.lt_or_ge sel 5 with h | h
  · interval_cases sel <;> simp [State.selectorBusy, ownerStn, State.stn]
  · simp [State.selectorBusy, ownerStn_none (sel := sel) (by omega) (by omega) (by omega) (by omega), h,
      show sel ≠ 1 by omega, show sel ≠ 2 by omega, show sel ≠ 3 by omega, show sel ≠ 4 by omega]

/-- R75, R79: the average that a channel's selector empties; a point has none. -/
theorem State.drainSelector_channel (h20 : sel ≤ 20) :
    s.drainSelector sel =
      { s with
        s1 := if sel = 1 then { s.s1 with load := { s.s1.load with win := [] } } else s.s1
        s2 := if sel = 2 then { s.s2 with load := { s.s2.load with win := [] } } else s.s2
        winch := if sel = 3 then { s.winch with tension := { s.winch.tension with win := [] } } else s.winch
        grout := if sel = 4 then { s.grout with pressure := { s.grout.pressure with win := [] } } else s.grout } := by
  unfold State.drainSelector
  split
  any_goals rfl
  · omega
  · omega
  · next h1 h2 h3 h4 _ _ => simp only [if_neg h1, if_neg h2, if_neg h3, if_neg h4]

/-- R75: the record of a channel's or a point's selector. -/
theorem FrontEnd.setRecord_channel (f : FrontEnd) (h20 : sel ≤ 20) (zero : Int) (span signed invert : Nat) :
    f.setRecord sel zero span signed invert = { f with cals := f.cals.set (sel - 1) ⟨zero, span, decide (signed = 1)⟩ } := by
  unfold FrontEnd.setRecord
  rw [if_neg (by omega), if_neg (by omega)]
  rfl

end

end Sys2Proof.Machine

open Sys2Proof Sys2Proof.Machine in
/-- Settles O41: a selector outside the table, a channel's or a point's, and an encoder's, each check by check. -/
theorem setCalibrationReplacesTheRecord : Obligations.SetCalibrationReplacesTheRecord := by
  unfold Obligations.SetCalibrationReplacesTheRecord
  intro tag sel zero span signed invert s hs i top cal watched busy
  refine ⟨fun hsel => ?_, fun h1 h20 => ?_, fun hsel => ?_⟩
  · have hr : inRange 1 22 sel = false := inRange_false (by omega)
    have he : (sel == 21 || sel == 22) = false := by simp; omega
    exact Refuses.of_actOf rfl hs (by simp [i, actOf, actSetCalibration, hr, he])
  · have hr : inRange 1 22 sel = true := inRange_iff.2 (by omega)
    have he : (sel == 21 || sel == 22) = false := by simp; omega
    have hbusy : (s.taken i).selectorBusy sel = true ↔ busy := by
      rw [State.selectorBusy_channel h1 h20, State.baselineHeld_iff, State.baselineHeld_iff, Nat.sub_sub]
      rfl
    have hspan : inRange 1 (spanTop sel signed) span = true ↔ 1 ≤ span ∧ span ≤ top := inRange_iff
    refine ⟨fun hb => ?_, fun hb => ⟨fun hz => ?_, fun hz hz' => ⟨fun hsp => ?_, fun hsp hsp' => ⟨fun hsg => ?_,
      fun hsg hsg' => ?_⟩⟩⟩⟩
    · exact Refuses.of_actOf rfl hs (by simp [i, actOf, actSetCalibration, hr, he, hbusy.2 hb])
    all_goals have hfree : (s.taken i).selectorBusy sel = false := Bool.eq_false_iff.2 fun h => hb (hbusy.1 h)
    · refine Refuses.of_actOf rfl hs ?_
      simp [i, actOf, actSetCalibration, hr, he, hfree, hz]
    · refine Refuses.of_actOf rfl hs ?_
      have hout : inRange 1 (spanTop sel signed) span = false := Bool.eq_false_iff.2 fun h => hsp (hspan.1 h)
      simp [i, actOf, actSetCalibration, hr, he, hfree, hz, hz', hout]
    · refine Refuses.of_actOf rfl hs ?_
      have hcode : (badFlag signed || (signed == 1 && !inRange 5 20 sel)) = true := by
        rcases hsg with hsg | ⟨rfl, hsel⟩
        · simp [badFlag_true hsg]
        · simp [inRange_false (.inl hsel)]
      simp [i, actOf, actSetCalibration, hr, he, hfree, hz, hz', hspan.2 ⟨hsp, hsp'⟩, hcode]
    · refine Serves.of_actOf rfl hs ?_
      have hcode : (badFlag signed || (signed == 1 && !inRange 5 20 sel)) = false := by
        rw [badFlag_false hsg]
        by_cases h : signed = 1
        · simp [h, inRange_iff.2 ⟨hsg' h, h20⟩]
        · simp [h]
      simp only [i, actOf, actSetCalibration, hr, he, hfree, hz, hz', hspan.2 ⟨hsp, hsp'⟩, hcode,
        FrontEnd.setRecord_channel _ h20, State.drainSelector_channel h20]
      rfl
  · intro st
    have hr : inRange 1 22 sel = true := inRange_iff.2 (by omega)
    have he : (sel == 21 || sel == 22) = true := by simpa using hsel
    have hbusy : (s.taken i).selectorBusy sel = ((s.stn st).state != .idle) := by
      rcases hsel with rfl | rfl <;> rfl
    have hpoint : inRange 5 20 sel = false := inRange_false (by omega)
    refine ⟨fun hv => ?_, fun hv hb => ?_, fun hv hb => ⟨fun hsg => ?_, fun hsg => ?_⟩⟩
    · exact Refuses.of_actOf rfl hs (by simp [i, actOf, actSetCalibration, he, badFlag_true hv])
    · exact Refuses.of_actOf rfl hs (by simp [i, actOf, actSetCalibration, hr, he, badFlag_false hv, hbusy, hb])
    · refine Refuses.of_actOf rfl hs ?_
      have hcode : (badFlag signed || (signed == 1 && !inRange 5 20 sel)) = true := by
        simp [badFlag, hpoint]; omega
      simp [i, actOf, actSetCalibration, hr, he, badFlag_false hv, hbusy, hb, hcode]
    · refine Serves.of_actOf rfl hs ?_
      have hfree : (s.taken i).selectorBusy sel = false := by rw [hbusy, hb]; rfl
      subst hsg
      simp only [i, actOf, actSetCalibration, hr, he, badFlag_false hv, hfree]
      rcases hsel with rfl | rfl <;> rfl
end

section
namespace Sys2Proof.Machine

/-! ## Encoder edges (R80) -/

/-- R80: the levels after an accepted change. -/
theorem Encoder.flip_eq (e : Encoder) (line : EncLine) :
    e.flip line = { e with a := (if line = .b then e.a else !e.a), b := (if line = .a then e.b else !e.b) } := by
  cases line <;> rfl

section
variable {s : State} {st : Stn} {line : EncLine}

/-- R92: a disabled station's edges move the levels alone. -/
theorem State.encoderEdge_disabled (h : s.enabled st = false) : s.encoderEdge st line = s.encoderMoves st line := by
  have hm : (s.encoderMoves st line).enabled st = false := by simpa [State.encoderMoves, State.modStn] using h
  simp [State.encoderEdge, hm]

/-- R80: the count after an accepted change at an enabled station, before its ends are judged. -/
def State.edgeCount (s : State) (st : Stn) (line : EncLine) : Int :=
  let e := (s.stn st).enc.flip line
  e.count + e.delta line (match st with | .s1 => s.fe.invert1 | .s2 => s.fe.invert2)

/-- R80: an edge within the ends is counted. -/
theorem State.encoderEdge_counted (h : s.enabled st = true) (h1 : -30000 ≤ s.edgeCount st line)
    (h2 : s.edgeCount st line ≤ 30000) :
    s.encoderEdge st line =
      s.setStn st { s.stn st with enc := { (s.stn st).enc.flip line with count := s.edgeCount st line } } := by
  have hm : (s.encoderMoves st line).enabled st = true := by simpa [State.encoderMoves, State.modStn] using h
  have hn : ¬(s.edgeCount st line < -Config.encoderEnd ∨ Config.encoderEnd < s.edgeCount st line) := by
    simp only [Config.encoderEnd]; omega
  unfold State.encoderEdge
  extract_lets e moved invert n
  have hnn : n = s.edgeCount st line := by cases st <;> rfl
  rw [if_pos hm, hnn, if_neg hn]
  cases st <;> rfl

/-- R80: an edge beyond an end holds the count, and raises ENCODER_RANGE. -/
theorem State.encoderEdge_beyond (h : s.enabled st = true)
    (hn : s.edgeCount st line < -30000 ∨ 30000 < s.edgeCount st line) :
    s.encoderEdge st line = (s.encoderMoves st line).raise (.encoderRange st) := by
  have hm : (s.encoderMoves st line).enabled st = true := by simpa [State.encoderMoves, State.modStn] using h
  unfold State.encoderEdge
  extract_lets e moved invert n
  have hnn : n = s.edgeCount st line := by cases st <;> rfl
  rw [if_pos hm, hnn]
  exact if_pos hn

/-- R80: a change of both lines at once gives no count. -/
theorem State.edgeCount_both : s.edgeCount st .both = (s.stn st).enc.count := Int.add_zero _

end

/-! ## Flow pulses (R84 to R86) -/

/-- R84, R86: a pulse in an open flow window, with a pass. -/
theorem Grout.windowPulse_of_pass {g : Grout} {p : Pass} (hp : g.pass = some p) {period : Nat} (h1 : 1 ≤ period) (q : Nat) :
    let flow := if g.flow.timed then min 2000 ((2 * (q * 600000) + period) / (2 * period)) else g.flow.published
    g.windowPulse q period =
      { g with
        flow := { g.flow with published := flow, timed := true }
        pass := some
          { p with volume := min 9999999 (p.volume + q), peakFlow := max p.peakFlow flow, noFlow := none } } := by
  simp only [Grout.windowPulse, hp, flowOf, Nat.max_eq_right h1]
  rfl

/-- R84: when the flow window is open. -/
theorem Grout.windowOpen_iff (g : Grout) :
    g.windowOpen = true ↔ (∃ v ∈ g.valves, v.state = .opened) ∧ 0 < g.pump.applied := by
  simp [Grout.windowOpen]

/-! ## The events of the pulses, while the part runs -/

section
variable {s : State}

theorem exec_drumPulse (h : s.phase = .running) (dirHigh : Bool) :
    exec (.drumPulse dirHigh) s =
      .next { s with winch := { s.winch with
        drum := if s.site.enables.w then clamp (-Config.drumEnd) Config.drumEnd (s.winch.drum + if dirHigh then 1 else -1)
          else s.winch.drum } } := by
  show execDrumPulse dirHigh s = _
  rw [execDrumPulse, State.event_running h]

theorem exec_flowPulse_disabled (h : s.phase = .running) (hg : s.site.enables.g = false) (period : Nat) :
    exec (.flowPulse period) s = .next s := by
  show execFlowPulse period s = _
  rw [execFlowPulse, State.event_running h]
  simp [hg]

theorem exec_flowPulse_window (h : s.phase = .running) (hg : s.site.enables.g = true) (hw : s.grout.windowOpen = true)
    (period : Nat) :
    exec (.flowPulse period) s = .next
      (if (s.grout.windowPulse s.site.settings.quantum period).capReached then
        State.endPass { s with grout := s.grout.windowPulse s.site.settings.quantum period } .volumeReached
      else { s with grout := s.grout.windowPulse s.site.settings.quantum period }) := by
  show execFlowPulse period s = _
  rw [execFlowPulse, State.event_running h]
  simp [hg, hw]

theorem exec_flowPulse_stray (h : s.phase = .running) (hg : s.site.enables.g = true) (hw : s.grout.windowOpen = false)
    (period : Nat) : exec (.flowPulse period) s = .next s.strayPulse := by
  show execFlowPulse period s = _
  rw [execFlowPulse, State.event_running h]
  simp [hg, hw]

end

end Sys2Proof.Machine

open Sys2Proof Sys2Proof.Machine in
/-- Settles O43: the encoders, the drum, the flow and the pumps, one event after the other. -/
theorem pulsesAndPeriodsAreCounted : Obligations.PulsesAndPeriodsAreCounted := by
  unfold Obligations.PulsesAndPeriodsAreCounted
  refine ⟨?_, fun s hp => ⟨?_, ?_, ?_, ?_, ?_, fun g => ⟨g.windowOpen_iff, fun h => if_pos h, fun h => if_neg h⟩⟩⟩
  · intro s st line hp e moved
    have hm : moved = e.flip line := (e.flip_eq line).symm
    rw [hm]
    exact congrArg Host.Outcome.next (if_neg hp)
  · intro st x inv after up
    have hafter (line : EncLine) : after line = x.enc.flip line := (x.enc.flip_eq line).symm
    have hexec (line : EncLine) : exec (.encoderEdge st line) s = .next (s.encoderEdge st line) :=
      congrArg Host.Outcome.next (if_pos hp)
    refine ⟨fun hlo hhi => ?_, fun line hline => ⟨fun he => ?_, fun he => ?_⟩⟩
    · rw [hexec, hafter]
      cases he : s.enabled st
      · rw [State.encoderEdge_disabled he]; rfl
      · rw [State.encoderEdge_counted he (by rwa [State.edgeCount_both]) (by rwa [State.edgeCount_both]),
          State.edgeCount_both]
        rfl
    · rw [hexec, hafter, State.encoderEdge_disabled he]; rfl
    · intro n
      have hn : s.edgeCount st line = n := by
        cases line with
        | both => exact absurd rfl hline
        | a | b => cases st <;> rfl
      rw [hexec, hafter, ← hn]
      exact ⟨fun hlo hhi => by rw [State.encoderEdge_counted he hlo hhi],
        fun hout => by rw [State.encoderEdge_beyond he hout]; rfl⟩
  · intro high n
    rw [exec_drumPulse hp]
    cases s.site.enables.w <;> rfl
  · intro period h1 f q flow
    refine ⟨fun hg => ?_, fun p hg hw hpass => ?_, fun hg hw => ?_⟩
    · exact exec_flowPulse_disabled hp hg period
    · intro volume v
      rw [exec_flowPulse_window hp hg hw]
      have hv : ({ s with grout := s.grout.windowPulse s.site.settings.quantum period } : State) = v := by
        rw [Grout.windowPulse_of_pass hpass h1]
      have hcap : (s.grout.windowPulse s.site.settings.quantum period).capReached = true ↔
          s.grout.state = .pumping ∧ p.cap ≤ volume := by
        simp [Grout.windowPulse_of_pass hpass h1, Grout.capReached, volume, q]
      rw [hv]
      exact congrArg Host.Outcome.next (if_congr hcap rfl rfl)
    · intro n leak v
      rw [exec_flowPulse_stray hp hg hw]
      have hleak : (decide (s.site.settings.leakLimit ≤ min Config.strayEnd (s.grout.flow.stray + 1)) &&
          (decide (s.grout.flow.stray < s.site.settings.leakLimit) || s.grout.flow.lowered)) = decide leak := by
        rw [Bool.eq_iff_iff]
        simp [leak, n, f, Config.strayEnd]
      simp only [State.strayPulse, hleak, decide_eq_true_eq]
      rfl
  · exact State.event_running hp _
  · intro e applied
    show execPwmPeriodStart s = _
    rw [execPwmPeriodStart, State.event_running hp]
    rfl
end

section
namespace Sys2Proof.Machine

/-! ## The winch run (R118 to R125) -/

/-- R118: the checks of WINCH_RUN before the anchor is looked up. -/
def State.winchReady (s : State) : Option (Resp × Nat) :=
  firstRefusal
    [(s.site.enables.w, .disabled, 0), (s.winch.state == .idle, .busy, 0), (!s.faults.emergency.set, .emergency, 0),
     (!s.faults.trip && !s.combined 3, .faulted, 0)]

section
variable {s : State}

theorem actWinchRun_unready {r : Resp × Nat} (h : s.winchReady = some r) (a : Nat) :
    actWinchRun a s = (s, .plain r.1 r.2) := by
  unfold State.winchReady at h
  simp only [actWinchRun, h, refuse_eq]

theorem actWinchRun_unknown (h : s.winchReady = none) {a : Nat} (ha : s.entry a = none) :
    actWinchRun a s = (s, .plain .noSuchAnchor) := by
  unfold State.winchReady at h
  simp only [actWinchRun, h, ha, refuse_eq]

theorem actWinchRun_known (h : s.winchReady = none) {a : Nat} {e : Entry} (ha : s.entry a = some e) :
    actWinchRun a s =
      if e.stage = .declared then (s.startRun e, .plain .accepted) else (s, .plain .wrongStage) := by
  unfold State.winchReady at h
  simp only [actWinchRun, h, ha, refuse_eq, accept_eq]

/-- R120: the end event of a run in PAYING. -/
theorem State.endRun_paying (h : s.winch.state = .paying) (r : RunEnd) (c : Option HaltCause) :
    s.endRun r c =
      { s with winch :=
        { s.winch with
          state := .stopping
          run := s.winch.run.map fun x => { x with reason := some r, halt := c, brakeSamples := 0 }
          jam := s.winch.jam.zero
          slack := s.winch.slack.zero } } := if_pos h

/-- R83, R120: in PAYING, what a trip's sample does before the run ends. -/
theorem State.noteWinch_paying (h : s.winch.state = .paying) :
    s.noteWinch =
      { s with winch :=
        { s.winch with
          paid := paidLength s.winch.drum s.site.settings.drumMm
          run := s.winch.run.map fun r =>
            { r with peak := if s.winch.tension.win = [] then r.peak else max r.peak s.winch.tension.level } } } := by
  simp [State.noteWinch, State.formPaid, Winch.note, h]

/-- R109: outside SELFTEST the winch has no self-test context at work. -/
theorem State.selfOf_jam_none (h : s.winch.state ≠ .selftest) : s.selfOf .jam = none := if_neg h

theorem State.selfOf_jam (h : s.winch.state = .selftest) : s.selfOf .jam = s.winch.self := if_pos h

/-- R121: the slack guard is active in PAYING from 200 cm on. -/
theorem Winch.slackActive_iff {w : Winch} : w.slackActive = true ↔ w.state = .paying ∧ 200 ≤ w.paid := by
  simp only [Winch.slackActive, Bool.and_eq_true, beq_iff_eq, decide_eq_true_eq]
  rfl

/-- R125: a run completes. -/
theorem State.completeRun_of_run {r : Run} (h : s.winch.run = some r) :
    s.completeRun =
      State.notice
        { s with
          reg := s.reg.map fun e =>
            if e.decl.id == r.anchor then e.runEnded (r.reason.getD .stopped) s.winch.paid r.peak else e
          winch := { s.winch with state := .idle, run := none } }
        .runEnded .w (some r.anchor)
          (detail2 (r.reason.getD .stopped).code ((r.halt.map (·.code)).getD 0)) := by
  unfold State.completeRun
  rw [h]
  rfl

/-- R120, R124: a sample raises the peak of the run, and in STOPPING counts toward the brake interval. -/
theorem State.winchSample_stopping (h : s.winch.state = .stopping) {r : Run} (hr : s.winch.run = some r) :
    s.winchSample =
      { s with winch :=
        { s.winch with
          run := some
            { r with
              peak := if s.winch.tension.win = [] then r.peak else max r.peak s.winch.tension.level
              brakeSamples := r.brakeSamples + 1 } } } := by
  simp [State.winchSample, Winch.note, h, hr]

/-- R120: a sample in PAYING raises the peak of the run, and then its length and its guards are judged. -/
theorem State.winchSample_paying (h : s.winch.state = .paying) {r : Run} (hr : s.winch.run = some r) :
    s.winchSample =
      State.paySample { s with winch :=
        { s.winch with
          run := some { r with peak := if s.winch.tension.win = [] then r.peak else max r.peak s.winch.tension.level } } } := by
  simp [State.winchSample, Winch.note, h, hr]

/-- R120: a length that has reached the target ends the run, whatever the guards give. -/
theorem State.paySample_reached {r : Run} (hr : s.winch.run = some r)
    (hlen : (r.target : Int) ≤ s.winch.paid) :
    s.paySample = State.endRun { s with winch := (s.winch.guards s.site.settings).1 } .reached none := by
  simp [State.paySample, Winch.guards, Winch.reached, hr, hlen]

/-! ## The events of the winch, while the part runs -/

theorem exec_winchJamTrip_working (h : s.phase = .running) (hs : s.winch.state ≠ .selftest) :
    exec .winchJamTrip s = .next (if s.winch.state = .paying then s.winchTrip .jammed else s) := by
  show execWinchJamTrip s = _
  rw [execWinchJamTrip, State.event_running h, State.selfOf_jam_none hs]

theorem exec_winchJamTrip_testing (h : s.phase = .running) (hs : s.winch.state = .selftest) {t : SelfTest}
    (ht : s.winch.self = some t) : exec .winchJamTrip s = .next (s.endSelftest .jam (some t.count)) := by
  show execWinchJamTrip s = _
  rw [execWinchJamTrip, State.event_running h, State.selfOf_jam hs, ht]

theorem exec_winchSlackTrip_active (h : s.phase = .running) (hs : s.winch.state = .paying)
    (hlen : 200 ≤ s.formPaid.winch.paid) : exec .winchSlackTrip s = .next (s.winchTrip .slack) :=
  (State.event_running h _).trans (congrArg Host.Outcome.next (if_pos (Winch.slackActive_iff (w := s.formPaid.winch).2 ⟨hs, hlen⟩)))

theorem exec_winchSlackTrip_inactive (h : s.phase = .running)
    (hs : ¬(s.winch.state = .paying ∧ 200 ≤ s.formPaid.winch.paid)) : exec .winchSlackTrip s = .next s :=
  (State.event_running h _).trans (congrArg Host.Outcome.next (if_neg fun ha => hs (Winch.slackActive_iff.1 ha)))

theorem exec_brakeIntervalExpiry (h : s.phase = .running) :
    exec .brakeIntervalExpiry s = .next (if s.winch.state = .stopping then s.completeRun else s) :=
  State.event_running h _

end

end Sys2Proof.Machine

open Sys2Proof Sys2Proof.Machine in
/-- Settles O44: WINCH_RUN check by check; then the winch by its state, at a request, at a trip, at the expiry and at a
sample. -/
theorem winchRunsStartAndEnd : Obligations.WinchRunsStartAndEnd := by
  unfold Obligations.WinchRunsStartAndEnd
  refine ⟨fun tag a s hs => ?_, fun s => ?_, rfl, rfl⟩
  · intro i
    have hunready {r : Resp} (h : (s.taken i).winchReady = some (r, 0)) : Refuses i s r :=
      Refuses.of_actOf rfl hs (actWinchRun_unready h a)
    have hwinch : (s.taken i).winch = s.winch := rfl
    refine ⟨fun hw => hunready (firstRefusal_fail hw _), fun hw => ⟨fun hi => ?_, fun hi => ⟨fun he => ?_, fun he =>
      ⟨fun hf => ?_, fun ht hc => ?_⟩⟩⟩⟩
    · exact hunready ((firstRefusal_pass hw _).trans (firstRefusal_fail (by simpa [hwinch] using hi) _))
    · exact hunready ((firstRefusal_pass hw _).trans ((firstRefusal_pass (by simpa [hwinch] using hi) _).trans
        (firstRefusal_fail (by simp [he]) _)))
    · exact hunready ((firstRefusal_pass hw _).trans ((firstRefusal_pass (by simpa [hwinch] using hi) _).trans
        ((firstRefusal_pass (by simp [he]) _).trans (firstRefusal_fail (by rcases hf with hf | hf <;> simp [hf]) _))))
    have hready : (s.taken i).winchReady = none :=
      (firstRefusal_pass hw _).trans ((firstRefusal_pass (by simpa [hwinch] using hi) _).trans
        ((firstRefusal_pass (by simp [he]) _).trans ((firstRefusal_pass (by simp [ht, hc]) _).trans firstRefusal_nil)))
    refine ⟨fun hnone => ?_, fun e hsome => ⟨fun hst => ?_, fun hst => ?_⟩⟩
    · exact Refuses.of_actOf rfl hs (actWinchRun_unknown hready hnone)
    · exact Refuses.of_actOf rfl hs ((actWinchRun_known hready hsome).trans (if_neg hst))
    · intro run
      exact Serves.of_actOf rfl hs ((actWinchRun_known hready hsome).trans (if_pos hst))
  · intro w ended length peaked formed there
    refine ⟨fun tag hs => ⟨fun hw => ?_, fun hw => ⟨fun hst => ?_, fun hst => ?_, fun hst => ?_⟩⟩, fun hp => ?_,
      fun r hr => ?_⟩
    · exact Refuses.of_actOf rfl hs (by simp [actOf, actWinchStop, hw])
    · refine Refuses.of_actOf rfl hs ?_
      rcases hst with hst | hst <;> simp [actOf, actWinchStop, hw, show s.winch.state = _ from hst]
    · refine Serves.of_actOf rfl hs ?_
      have hst' : (s.taken (.winchStop tag)).winch.state = .paying := hst
      simp only [actOf, actWinchStop, hst', State.endRun_paying hst']
      simp [hw]
      rfl
    · refine Serves.of_actOf rfl hs ?_
      simp [actOf, actWinchStop, hw, show s.winch.state = _ from hst]
    · have htrip (hst : w.state = .paying) (reason : RunEnd) : s.winchTrip reason = ended formed (there reason) := by
        have hnote : s.noteWinch = formed := State.noteWinch_paying hst
        have hreached : formed.winch.reached = w.run.any fun r => decide ((r.target : Int) ≤ length) := by
          simp only [Winch.reached, formed, Option.any_map]
          rfl
        simp only [State.winchTrip, hnote, hreached]
        exact State.endRun_paying (s := formed) hst _ none
      refine ⟨fun hst => ⟨?_, fun hlen => ?_, fun hlen => ?_⟩, fun hst => ?_, fun hst => ?_, fun t hst ht =>
        exec_winchJamTrip_testing hp hst ht, fun hst => ?_, fun r reason hst hr hreason => ?_⟩
      · rw [exec_winchJamTrip_working hp (by rw [show s.winch.state = .paying from hst]; decide), if_pos hst,
          htrip hst]
      · rw [exec_winchSlackTrip_active hp hst hlen, htrip hst]
      · exact exec_winchSlackTrip_inactive hp fun h => Int.not_le.2 hlen h.2
      · have hne : s.winch.state ≠ .paying := by rcases hst with h | h <;> simp [show s.winch.state = _ from h]
        refine ⟨?_, exec_winchSlackTrip_inactive hp fun h => hne h.1⟩
        rw [exec_winchJamTrip_working hp (by rcases hst with h | h <;> simp [show s.winch.state = _ from h]),
          if_neg hne]
      · exact exec_winchSlackTrip_inactive hp fun h => by simp [show s.winch.state = _ from hst] at h
      · rw [exec_brakeIntervalExpiry hp, if_neg hst]
      · intro result done after
        rw [exec_brakeIntervalExpiry hp, if_pos hst, State.completeRun_of_run hr, hreason]
        rfl
    · intro raised
      refine ⟨fun hst => ?_, fun hst hlen => ?_⟩
      · rw [State.winchSample_stopping hst hr]
      · have hsample : s.winchSample = _ :=
          (State.winchSample_paying hst hr).trans (State.paySample_reached rfl hlen)
        rw [hsample, State.endRun_paying]
        · exact ⟨rfl, rfl, rfl⟩
        · exact hst
end

section
namespace Sys2Proof.Machine

/-! ## The end of a grout pass (R137 to R144) -/

/-- R86: judging the flow window touches the flow only. -/
theorem Grout.judgeFlow_flow (g : Grout) : ∃ f, g.judgeFlow = { g with flow := f } := by
  unfold Grout.judgeFlow
  split
  · exact ⟨_, rfl⟩
  · exact ⟨_, rfl⟩

@[simp] theorem Grout.judgeFlow_state (g : Grout) : g.judgeFlow.state = g.state := by
  obtain ⟨f, hf⟩ := g.judgeFlow_flow
  rw [hf]

@[simp] theorem Grout.judgeFlow_pass (g : Grout) : g.judgeFlow.pass = g.pass := by
  obtain ⟨f, hf⟩ := g.judgeFlow_flow
  rw [hf]

@[simp] theorem Grout.judgeFlow_pump (g : Grout) : g.judgeFlow.pump = g.pump := by
  obtain ⟨f, hf⟩ := g.judgeFlow_flow
  rw [hf]

/-- R90: a port valve changed: the table keeps its length, the port of a place holds the new state, the others their own. -/
theorem Grout.valve_modValve_same {g : Grout} {port : Nat} {f : Valve → Valve} (h1 : 1 ≤ port) (h2 : port ≤ g.valves.length) :
    (g.modValve port f).valve port = f (g.valve port) := by
  have hlt : port - 1 < g.valves.length := by omega
  simp [Grout.valve, Grout.modValve, List.getD_eq_getElem?_getD, hlt]

theorem Grout.valve_modValve_other {g : Grout} {port other : Nat} {f : Valve → Valve} (h1 : 1 ≤ port) (h2 : 1 ≤ other)
    (hne : other ≠ port) : (g.modValve port f).valve other = g.valve other := by
  have hidx : port - 1 ≠ other - 1 := by omega
  simp [Grout.valve, Grout.modValve, List.getD_eq_getElem?_getD, List.getElem?_set_ne hidx]

section
variable {s : State}

/-- R138: the state in which an end event leaves a pass it ends, before the pass completes. -/
def State.endingPass (s : State) (p : Pass) (r : PassEnd) : State :=
  { s with grout :=
    ({ s.grout with
        state := .ending
        pass := some { p with reason := some r, endTime := s.now, noFlow := none }
        refusal := s.grout.refusal.zero
        pump := { s.grout.pump with cmd := 0 } }.modValve p.port Valve.closeCmd).judgeFlow }

theorem Grout.canEnd_iff {g : Grout} : g.canEnd = true ↔ g.state = .starting ∨ g.state = .pumping ∨ g.state = .paused := by
  simp [Grout.canEnd, or_assoc]

theorem State.endPass_active {p : Pass} (hp : s.grout.pass = some p)
    (hs : s.grout.state = .starting ∨ s.grout.state = .pumping ∨ s.grout.state = .paused) (r : PassEnd) :
    s.endPass r =
      if ((s.endingPass p r).grout.valve p.port).state = .closed then (s.endingPass p r).completePass
      else s.endingPass p r := by
  unfold State.endPass
  rw [hp]
  exact if_pos (Grout.canEnd_iff.2 hs)

theorem State.endPass_inactive
    (hs : s.grout.state = .idle ∨ s.grout.state = .ending ∨ s.grout.state = .selftest) (r : PassEnd) : s.endPass r = s := by
  have hcan : s.grout.canEnd = false := by rcases hs with hs | hs | hs <;> simp [Grout.canEnd, hs]
  unfold State.endPass
  split
  · rfl
  · simp [hcan]

theorem State.endPass_none (hp : s.grout.pass = none) (r : PassEnd) : s.endPass r = s := by
  unfold State.endPass
  rw [hp]

theorem Grout.raisePeak_of_none {g : Grout} (hp : g.pass = none) : g.raisePeak = g := by
  obtain ⟨⟩ := g
  cases hp
  rfl

/-- R144: the completion of a pass that has its reason. -/
theorem State.completePass_of_reason {p : Pass} (hp : s.grout.pass = some p) {r : PassEnd} (hr : p.reason = some r) :
    s.completePass =
      State.arbiter
        (State.notice
          { s with
            reg := s.reg.map fun e => if e.decl.id == p.anchor then e.passEnded p r else e
            grout :=
              { s.grout with
                state := .idle, pass := none, refusal := s.grout.refusal.zero, overp := s.grout.overp.zero } }
          .passEnded .g (some p.anchor) (detail2 p.kind.code r.code)) := by
  unfold State.completePass
  rw [hp]
  dsimp only
  rw [hr]
  rfl

/-- R17, R144: what the entry gets, its cases by the kind of the pass told apart field by field. -/
theorem Entry.passEnded_eq (e : Entry) (p : Pass) (r : PassEnd) :
    e.passEnded p r =
      { e with
        passes := e.passes ++
          [⟨p.kind, p.port, p.start, p.endTime, some p.volume, some p.peakPressure, some p.peakFlow, r⟩]
        pass := none
        stage := if p.kind = .post then e.stage else if r = .volumeReached then .grouted else .placed
        primaryEnd := if p.kind = .primary ∧ r = .volumeReached then p.endTime else e.primaryEnd
        postDone := if p.kind = .post then e.postDone + 1 else e.postDone } := by
  unfold Entry.passEnded
  cases hk : p.kind with
  | post => simp
  | primary => by_cases hr : r = .volumeReached <;> simp [hr]

/-! ## The timed events of a pass, while the part runs -/

/-- R90: a valve that ends its travel. -/
def State.travelled (s : State) (port : Nat) : State := s.modGrout fun g => g.modValve port Valve.travelEnd

theorem exec_valveTravelEnd (h : s.phase = .running) (port : Nat) {p : Pass} (hp : s.grout.pass = some p) :
    exec (.valveTravelEnd port) s = .next
      (if p.port ≠ port then s.travelled port
        else if (s.grout.valve port).state = .opening ∧ s.grout.state = .starting then (s.travelled port).enterPumping p
        else if (s.grout.valve port).state = .closing ∧ s.grout.state = .ending then (s.travelled port).completePass
        else s.travelled port) := by
  show execValveTravelEnd port s = _
  rw [execValveTravelEnd, State.event_running h]
  have hpass : (s.travelled port).grout.pass = some p := by simp [State.travelled, State.modGrout, Grout.modValve, hp]
  have hstate : (s.travelled port).grout.state = s.grout.state := by
    simp [State.travelled, State.modGrout, Grout.modValve]
  simp only [State.travelled] at hpass hstate ⊢
  simp only [hpass, hstate]

theorem exec_valveTravelEnd_idle (h : s.phase = .running) (port : Nat) (hp : s.grout.pass = none) :
    exec (.valveTravelEnd port) s = .next (s.travelled port) := by
  show execValveTravelEnd port s = _
  rw [execValveTravelEnd, State.event_running h]
  have hpass : (s.travelled port).grout.pass = none := by simp [State.travelled, State.modGrout, Grout.modValve, hp]
  simp only [State.travelled] at hpass ⊢
  simp only [hpass]

theorem exec_noFlow (h : s.phase = .running) :
    exec .noFlow s = .next
      (if s.grout.state = .pumping ∧ (s.grout.pass.bind (·.noFlow)).isSome then s.endPass .noFlow else s) :=
  State.event_running h _

theorem exec_pauseExpired (h : s.phase = .running) :
    exec .pauseExpired s = .next (if s.grout.state = .paused then s.endPass .pauseExpired else s) :=
  State.event_running h _

theorem exec_groutRefusalTrip (h : s.phase = .running) :
    exec .groutRefusalTrip s = .next
      (if s.grout.state = .pumping then { s with grout := s.grout.raisePeak }.endPass .refusal else s) :=
  State.event_running h _

/-- R109: outside SELFTEST the manifold has no self-test context at work. -/
theorem State.selfOf_overpressure_none (h : s.grout.state ≠ .selftest) : s.selfOf .overpressure = none := if_neg h

theorem State.selfOf_overpressure (h : s.grout.state = .selftest) : s.selfOf .overpressure = s.grout.self := if_pos h

theorem exec_groutOverpressureTrip_pass (h : s.phase = .running) (hs : s.grout.state ≠ .selftest) {p : Pass}
    (hp : s.grout.pass = some p) :
    exec .groutOverpressureTrip s =
      .next (State.overpressureTrip { s with grout := { s.grout.raisePeak with overp := s.grout.overp.zero } }) := by
  show execGroutOverpressureTrip s = _
  rw [execGroutOverpressureTrip, State.event_running h, State.selfOf_overpressure_none hs, hp]

theorem exec_groutOverpressureTrip_idle (h : s.phase = .running) (hs : s.grout.state ≠ .selftest)
    (hp : s.grout.pass = none) : exec .groutOverpressureTrip s = .next s := by
  show execGroutOverpressureTrip s = _
  rw [execGroutOverpressureTrip, State.event_running h, State.selfOf_overpressure_none hs, hp]

theorem exec_groutOverpressureTrip_testing (h : s.phase = .running) (hs : s.grout.state = .selftest) {t : SelfTest}
    (ht : s.grout.self = some t) :
    exec .groutOverpressureTrip s = .next (s.endSelftest .overpressure (some t.count)) := by
  show execGroutOverpressureTrip s = _
  rw [execGroutOverpressureTrip, State.event_running h, State.selfOf_overpressure hs, ht]

end

end Sys2Proof.Machine

open Sys2Proof Sys2Proof.Machine in
/-- Settles O49: the events of a pass one by one, then its end and its completion as the shared operations give them, then
the valve's table, case by case. -/
theorem passesEndAndComplete : Obligations.PassesEndAndComplete := by
  unfold Obligations.PassesEndAndComplete
  refine ⟨?_, ?_, ?_, ?_, ?_, rfl, rfl⟩
  · intro s p hrun hp
    refine ⟨?_, ?_, ?_, ?_, ?_, ?_, ?_, ?_, ?_, ?_, ?_, ?_⟩
    · intro hv hst
      rw [exec_valveTravelEnd hrun p.port hp, if_neg (not_not_intro rfl), if_pos ⟨hv, hst⟩]
      simp [State.enterPumping, State.travelled, State.modGrout, Grout.modValve]
    · intro hv hst
      rw [exec_valveTravelEnd hrun p.port hp, if_neg (not_not_intro rfl), if_neg (by simp [hv]), if_pos ⟨hv, hst⟩]
      rfl
    · intro port hport
      rw [exec_valveTravelEnd hrun port hp]
      by_cases hne : p.port = port
      · subst hne
        rw [if_neg (not_not_intro rfl), if_neg, if_neg]
        · rfl
        · rintro ⟨hv, hst⟩
          simp [hv, hst] at hport
        · rintro ⟨hv, hst⟩
          simp [hv, hst] at hport
      · rw [if_pos hne]
        rfl
    · intro t hst ht
      rw [exec_noFlow hrun, if_pos ⟨hst, by simp [hp, ht]⟩]
    · intro ht
      rw [exec_noFlow hrun, if_neg (by simp [hp, ht])]
    · intro hst
      exact ⟨by rw [exec_noFlow hrun, if_neg fun h => hst h.1], by rw [exec_groutRefusalTrip hrun, if_neg hst]⟩
    · intro hst
      rw [exec_groutRefusalTrip hrun, if_pos hst, Grout.raisePeak_of_pass hp]
    · intro hst
      rw [exec_pauseExpired hrun, if_pos hst]
    · intro hst
      rw [exec_pauseExpired hrun, if_neg hst]
    · intro hst
      rw [exec_groutOverpressureTrip_pass hrun hst hp, Grout.raisePeak_of_pass hp]
      rfl
    · intro reason
      exact ⟨fun hst => State.endPass_active hp hst reason, fun hst => State.endPass_inactive hst reason⟩
    · intro reason hreason
      rw [State.completePass_of_reason hp hreason]
      simp only [Entry.passEnded_eq]
      rfl
  · intro s hrun hp
    refine ⟨fun port => exec_valveTravelEnd_idle hrun port hp, ?_, ?_, ?_,
      fun hst => exec_groutOverpressureTrip_idle hrun hst hp⟩
    · rw [exec_noFlow hrun, State.endPass_none hp, ite_self]
    · rw [exec_groutRefusalTrip hrun, Grout.raisePeak_of_none hp, State.endPass_none hp, ite_self]
    · rw [exec_pauseExpired hrun, State.endPass_none hp, ite_self]
  · exact fun s t hrun hst ht => exec_groutOverpressureTrip_testing hrun hst ht
  · intro v
    obtain ⟨state, cmd⟩ := v
    cases state <;> simp [Valve.openCmd, Valve.closeCmd, Valve.travelEnd]
  · intro g port f h1 h2
    exact ⟨rfl, by simp [Grout.modValve], Grout.valve_modValve_same h1 h2,
      fun other ho hne => Grout.valve_modValve_other h1 ho hne⟩
end

section
namespace Sys2Proof.Machine

/-! ## The fault flags and their groups (R98 to R104) -/

theorem Flag.mem_all (f : Flag) : f ∈ Flag.all := by
  cases f with
  | overload st | loadOpen st | loadOver st | encoderRange st => cases st <;> decide
  | _ => decide

theorem Flag.group_range (f : Flag) : 1 ≤ f.group ∧ f.group ≤ 6 := by
  cases f with
  | overload st | loadOpen st | loadOver st | encoderRange st => cases st <;> decide
  | _ => decide

/-- R98: no group lists a code twice. -/
theorem Flag.ofCodes_self (f : Flag) : Flag.ofCodes f.group f.code = some f := by
  cases f with
  | overload st | loadOpen st | loadOver st | encoderRange st => cases st <;> rfl
  | _ => rfl

theorem Flag.ofCodes_none {group code : Nat} (h : ∀ f ∈ Flag.all, f.group = group → f.code ≠ code) :
    Flag.ofCodes group code = none := by
  refine List.find?_eq_none.2 fun f hf => ?_
  simpa using h f hf

/-- R103: a group lists its flags by rising code. -/
theorem Flag.all_rising : Flag.all.Pairwise fun a b => a.group = b.group → a.code ≤ b.code := by decide

theorem Flag.silent_false_iff {f : Flag} : f.silent = false ↔ f ≠ .linkLost ∧ f ≠ .selftestFailed ∧ f ≠ .clockLost := by
  cases f with
  | linkLost | selftestFailed | clockLost => simp [Flag.silent]
  | _ => simp [Flag.silent]

section
variable {s : State}

/-- R103: the first set flag of a group, in the list's order, has its lowest code. -/
theorem State.lowestSet_eq {f : Flag} {g : Nat} (hg : f.group = g) (hset : s.flag f = true)
    (hmin : ∀ h ∈ Flag.all, h.group = g → s.flag h = true → f.code ≤ h.code) : s.lowestSet g = some f.code := by
  obtain ⟨f₀, h₀⟩ : ∃ f₀, (Flag.all.find? fun h => h.group == g && s.flag h) = some f₀ :=
    Option.isSome_iff_exists.1 (List.find?_isSome.2 ⟨f, f.mem_all, by simp [hg, hset]⟩)
  have hcode : f₀.code = f.code := by
    obtain ⟨hp, before, after, hall, hfirst⟩ := List.find?_eq_some_iff_append.1 h₀
    simp only [Bool.and_eq_true, beq_iff_eq] at hp
    refine le_antisymm ?_ (hmin f₀ f₀.mem_all hp.1 hp.2)
    have hmem : f ∈ before ++ f₀ :: after := hall ▸ f.mem_all
    rcases List.mem_append.1 hmem with hb | ha
    · simpa [hg, hset] using hfirst f hb
    · rcases List.mem_cons.1 ha with rfl | ha
      · exact le_rfl
      · have hrising := Flag.all_rising
        rw [hall] at hrising
        exact (List.pairwise_cons.1 (List.pairwise_append.1 hrising).2.1).1 f ha (hp.1.trans hg.symm)
  simp [State.lowestSet, h₀, hcode]

theorem State.lowestSet_none {g : Nat} (h : ∀ f ∈ Flag.all, f.group = g → s.flag f = false) : s.lowestSet g = none := by
  simp only [State.lowestSet, Option.map_eq_none_iff, List.find?_eq_none, Bool.and_eq_true, beq_iff_eq]
  rintro f hf ⟨hg, hset⟩
  simp [h f hf hg] at hset

@[simp] theorem State.taken_groupLive (i : Instr) (g : Nat) : (s.taken i).groupLive g = s.groupLive g := rfl

@[simp] theorem State.taken_lowestSet (i : Instr) (g : Nat) : (s.taken i).lowestSet g = s.lowestSet g := rfl

@[simp] theorem State.taken_condition (i : Instr) (f : Flag) : (s.taken i).condition f = s.condition f := by
  cases f with
  | overload st | loadOpen st | loadOver st | encoderRange st => cases st <;> rfl
  | _ => rfl

/-- R102: the checks of CLEAR_FAULT in their order, for a flag of the table. -/
theorem actClearFault_listed (f : Flag) :
    actClearFault f.group f.code s =
      if !s.groupLive f.group then (s, .plain .ok)
      else if s.flag f && s.condition f then (s, .plain .conditionPresent f.code)
      else (s.clearFlag f, .plain .ok) := by
  have hin : inRange 1 6 f.group = true := inRange_iff.2 f.group_range
  simp only [actClearFault, hin, Flag.ofCodes_self, refuse_eq, accept_eq]
  rfl

/-! ## A raise, and TRIP judged again (R98 to R100, R106 to R108) -/

/-- R99, R100: a flag latched, with its combined flag unless it is masked. -/
def State.latched (s : State) (f : Flag) : State :=
  { s with faults :=
    { s.faults with
      det := s.faults.det ||| BitVec.twoPow 20 f.bit
      comb :=
        if s.site.limits.combMask.getLsbD f.bit then s.faults.comb
        else s.faults.comb ||| BitVec.twoPow 6 (f.group - 1) } }

theorem State.raise_dead {f : Flag} (h : s.groupLive f.group = false) : s.raise f = s := by simp [State.raise, h]

theorem State.raise_live {f : Flag} (h : s.groupLive f.group = true) :
    s.raise f = State.judgeTrip
      (if s.flag f = false ∧ f ≠ .linkLost ∧ f ≠ .selftestFailed ∧ f ≠ .clockLost then
        (s.latched f).notice .faultRaised f.origin (s.anchorInFlight f.origin) (detail2 f.group f.code)
      else s.latched f) := by
  simp only [State.raise, h, if_true]
  refine congrArg State.judgeTrip (if_congr ?_ ?_ rfl)
  · simp [← Flag.silent_false_iff]
  · unfold State.anchorInFlight
    cases f.origin <;> rfl

theorem State.judgeTrip_same (h : s.tripJudged = s.faults.trip) : s.judgeTrip = s := by
  simp [State.judgeTrip, h]

theorem State.judgeTrip_asserted (hrun : s.phase = .running) (h : s.tripJudged = true) (ht : s.faults.trip = false) :
    s.judgeTrip = s.assertTrip := by
  simp [State.judgeTrip, hrun, h, ht]

theorem State.judgeTrip_deasserted (hrun : s.phase = .running) (h : s.tripJudged = false) (ht : s.faults.trip = true) :
    s.judgeTrip = s.deassertTrip := by
  simp [State.judgeTrip, hrun, h, ht]

/-- R107: the pumps forced off. -/
def State.pumpsForced (s : State) : State :=
  { s with
    s1 := { s.s1 with pump := { s.s1.pump with applied := 0 } }
    s2 := { s.s2 with pump := { s.s2.pump with applied := 0 } }
    grout := { s.grout with pump := { s.grout.pump with applied := 0 } } }

/-- R107: under TRIP alone the forces act on the pumps. -/
theorem State.applyForces_trip (h : s.faults.trip = true) (he : s.faults.emergency.set = false) :
    s.applyForces = { s.pumpsForced with grout := s.pumpsForced.grout.judgeFlow } := by
  simp [State.applyForces, State.pumpForce, State.valveForce, State.pumpsForced, h, he]

/-- R107: under EMERGENCY they close the port valves too. -/
theorem State.applyForces_emergency (he : s.faults.emergency.set = true) :
    s.applyForces =
      { s.pumpsForced with
        grout := ({ s.pumpsForced.grout with valves := s.grout.valves.map Valve.closeCmd } : Grout).judgeFlow } := by
  simp [State.applyForces, State.pumpForce, State.valveForce, State.pumpsForced, he]

/-! ## The conditions that range over the monitor points (R98) -/

theorem State.condition_tiltExceeded :
    s.condition .tiltExceeded = true ↔
      ∃ k b v limit, k < 16 ∧ (s.point (k + 1)).kind = .tilt ∧ (s.point (k + 1)).baseline = some b ∧
        s.scanned (k + 1) = .valid v ∧ (s.wall.tilt.getD k .rest).last = some limit ∧ (limit : Int) < |v - b| := by
  simp only [State.condition, List.any_eq_true, List.mem_range, outOfTilt_iff, Int.abs_eq_natAbs, Nat.cast_lt]
  constructor
  · rintro ⟨k, hk, b, v, limit, h⟩
    exact ⟨k, b, v, limit, hk, h⟩
  · rintro ⟨k, b, v, limit, hk, h⟩
    exact ⟨k, hk, b, v, limit, h⟩

theorem State.condition_monitorSensor :
    s.condition .monitorSensor = true ↔
      ∃ k < 16, (s.point (k + 1)).kind ≠ .unused ∧ (s.scanned (k + 1) = .isOpen ∨ s.scanned (k + 1) = .isOver) := by
  simp only [State.condition, List.any_eq_true, List.mem_range, Bool.and_eq_true, bne_iff_ne, Bool.or_eq_true, beq_iff_eq]
  rfl

end

end Sys2Proof.Machine

open Sys2Proof Sys2Proof.Machine in
/-- Settles O50: the two clearings from the list of flags, a raise and the judging of TRIP by the line's old and new level,
and the condition of each flag. -/
theorem flagsLatchClearAndTrip : Obligations.FlagsLatchClearAndTrip := by
  unfold Obligations.FlagsLatchClearAndTrip
  refine ⟨?_, ?_, ⟨rfl, rfl, rfl, fun _ _ _ => ⟨rfl, rfl⟩, fun _ => ⟨rfl, rfl, rfl, rfl, rfl, rfl⟩⟩, ?_, ?_, ?_⟩
  · intro tag g k s hs
    refine ⟨fun hg => ?_, fun h1 h6 => ⟨fun hnone => ?_, fun f _ hg hk => ?_⟩⟩
    · refine Refuses.of_actOf rfl hs ?_
      have hout : inRange 1 6 g = false := inRange_false (by omega)
      simp [actOf, actClearFault, hout, refuse_eq]
    · refine Refuses.of_actOf rfl hs ?_
      have hin : inRange 1 6 g = true := inRange_iff.2 ⟨h1, h6⟩
      simp [actOf, actClearFault, hin, Flag.ofCodes_none hnone, refuse_eq]
    · subst hg hk
      refine ⟨fun hl => Serves.of_actOf rfl hs ?_, fun hl hset hcond => Refuses.of_actOf rfl hs ?_,
        fun hl hoff => Serves.of_actOf rfl hs ?_⟩
      · exact (actClearFault_listed f).trans (by simp [hl])
      · exact (actClearFault_listed f).trans (by simp [hl, hset, hcond])
      · refine (actClearFault_listed f).trans ?_
        rcases hoff with hoff | hoff <;> simp [hl, hoff, State.clearFlag]
  · intro tag g s hs
    refine ⟨fun hg => ?_, fun f _ hg hset hmin => ?_, fun h1 h6 hclear => ?_⟩
    · refine Refuses.of_actOf rfl hs ?_
      have hout : inRange 1 6 g = false := inRange_false (by omega)
      simp [actOf, actClearGroup, hout]
    · refine Refuses.of_actOf rfl hs ?_
      have hin : inRange 1 6 g = true := inRange_iff.2 (hg ▸ f.group_range)
      simp [actOf, actClearGroup, hin, State.lowestSet_eq hg hset hmin]
    · have hin : inRange 1 6 g = true := inRange_iff.2 ⟨h1, h6⟩
      refine ⟨fun hc => Serves.of_actOf rfl hs ?_, fun hc => Serves.of_actOf rfl hs ?_⟩
      · simp [actOf, actClearGroup, hin, State.lowestSet_none hclear, hc, accept_eq]
      · simp [actOf, actClearGroup, hin, State.lowestSet_none hclear, hc, accept_eq, State.clearCombined]
  · intro s f
    refine ⟨State.raise_dead, fun hlive => ?_⟩
    intro masked latched origin anchor told
    have horigin : f.origin = origin := by
      cases f with
      | overload st | loadOpen st | loadOver st | encoderRange st => cases st <;> rfl
      | _ => rfl
    have hanchor : s.anchorInFlight f.origin = anchor := by
      cases f with
      | overload st | loadOpen st | loadOver st | encoderRange st => cases st <;> rfl
      | _ => rfl
    rw [State.raise_live hlive, hanchor, horigin]
    rfl
  · intro s hrun line pumps
    refine ⟨State.judgeTrip_same, fun hline htrip hem => ?_, fun hline htrip hem => ?_, fun hline htrip => ?_⟩
    · intro forced
      rw [State.judgeTrip_asserted hrun hline htrip]
      exact congrArg (State.handCause · .trip .trip) (State.applyForces_trip rfl hem)
    · intro forced closed
      rw [State.judgeTrip_asserted hrun hline htrip]
      exact congrArg (State.handCause · .trip .trip) (State.applyForces_emergency hem)
    · exact State.judgeTrip_deasserted hrun hline htrip
  · intro s holds
    refine ⟨fun st => ⟨?_, ?_, ?_, ?_⟩, ?_, ?_, ?_, ?_, ?_, ?_, State.condition_tiltExceeded,
      State.condition_monitorSensor, Iff.rfl, ?_, ?_, ?_⟩
    case refine_1 => exact beq_iff_eq
    case refine_4 => exact decide_eq_true_iff
    all_goals simp [holds, State.condition]
end

section
namespace Sys2Proof.Machine

/-! ## The emergency state (R113 to R115) -/

section
variable {s : State}

theorem exec_emergencyFallingEdge_low {line : EmLine} (h : s.lineHigh line = false) :
    exec (.emergencyFallingEdge line) s = .next s :=
  congrArg Host.Outcome.next (if_neg (by simp [h]))

theorem exec_emergencyFallingEdge_stopped {line : EmLine} (h : s.lineHigh line = true) (hp : s.phase ≠ .running) :
    exec (.emergencyFallingEdge line) s = .next (s.setLine line false) := by
  have hp' : (s.setLine line false).phase ≠ .running := by cases line <;> exact hp
  exact congrArg Host.Outcome.next ((if_pos h).trans (if_neg hp'))

theorem exec_emergencyFallingEdge_running {line : EmLine} (h : s.lineHigh line = true) (hp : s.phase = .running) :
    exec (.emergencyFallingEdge line) s = .next ((s.setLine line false).setEmergency line) := by
  have hp' : (s.setLine line false).phase = .running := by cases line <;> exact hp
  exact congrArg Host.Outcome.next ((if_pos h).trans (if_pos hp'))

/-- R113: an edge while the state is set adds its line and hands the notice again. -/
theorem State.setEmergency_again (he : s.faults.emergency.set = true) (line : EmLine) :
    s.setEmergency line =
      State.notice
        { s with faults := { s.faults with emergency :=
          ⟨true, s.faults.emergency.estop || line == .estop, s.faults.emergency.wallTrip || line == .wallTrip,
            s.faults.emergency.time⟩ } }
        .emergency .system none line.code := by
  simp [State.setEmergency, he]

/-- R107, R113, R114: the first edge sets the state, and then the forces act and the stations are told. -/
theorem State.setEmergency_first (he : s.faults.emergency.set = false) (line : EmLine) :
    s.setEmergency line =
      (State.notice
        { s with faults := { s.faults with emergency :=
          ⟨true, s.faults.emergency.estop || line == .estop, s.faults.emergency.wallTrip || line == .wallTrip, s.now⟩ } }
        .emergency .system none line.code).applyForces.handCause .emergency .emergency := by
  simp [State.setEmergency, he]

/-- R115: the lines that are LOW, as CONDITION_PRESENT names them. -/
def State.lowLines (s : State) : Nat := (if s.estopHigh then 0 else 1) + if s.wallTripHigh then 0 else 2

theorem State.lowLines_eq : (!s.estopHigh).toNat + 2 * (!s.wallTripHigh).toNat = s.lowLines := by
  unfold State.lowLines
  cases s.estopHigh <;> cases s.wallTripHigh <;> rfl

theorem actClearEmergency_eq :
    actClearEmergency s =
      if s.faults.emergency.set = false then (s, .plain .ok)
      else if s.lowLines ≠ 0 then (s, .plain .conditionPresent s.lowLines)
      else (s.clearEmergency, .plain .ok) := by
  simp [actClearEmergency, State.lowLines_eq, refuse_eq, accept_eq]

end

end Sys2Proof.Machine

open Sys2Proof Sys2Proof.Machine in
/-- Settles O53: an edge by the line's level, the phase and the state it finds; a clear by the state and the lines. -/
theorem emergencyIsSetAndCleared : Obligations.EmergencyIsSetAndCleared := by
  unfold Obligations.EmergencyIsSetAndCleared
  refine ⟨?_, ?_⟩
  · intro line s high low code e estop wall
    have hhigh : s.lineHigh line = high := by cases line <;> rfl
    have hcode : line.code = code := by cases line <;> rfl
    refine ⟨rfl, fun h => ?_, fun h hp => ?_, fun h hp he => ?_, fun h hp he => ?_⟩
    · exact exec_emergencyFallingEdge_low (hhigh.trans h)
    · exact exec_emergencyFallingEdge_stopped (hhigh.trans h) hp
    · rw [exec_emergencyFallingEdge_running (hhigh.trans h) hp, State.setEmergency_again (by cases line <;> exact he), hcode]
      cases line <;> rfl
    · intro told forced
      rw [exec_emergencyFallingEdge_running (hhigh.trans h) hp, State.setEmergency_first (by cases line <;> exact he), hcode,
        State.applyForces_emergency (by cases line <;> rfl)]
      cases line <;> rfl
  · intro tag s hs lows
    refine ⟨fun he => Serves.of_actOf rfl hs ?_, fun he hl => Refuses.of_actOf rfl hs ?_,
      fun he hl => Serves.of_actOf rfl hs ?_⟩
    · exact actClearEmergency_eq.trans (if_pos he)
    · exact actClearEmergency_eq.trans ((if_neg (by simp [he])).trans (if_pos hl))
    · exact actClearEmergency_eq.trans ((if_neg (by simp [he])).trans (if_neg (not_not_intro hl)))
end

section
namespace Sys2Proof.Machine

/-! ## The guards of a completed scan (R87, R153 to R157) -/

/-- R94, R95: an evaluation of a VALID value counts what is out of band up to 32, and trips where the count reaches N. -/
theorem Guard.eval_valid (g : Guard) (threshold n : Nat) (out : Bool) :
    g.eval threshold n true out =
      if out then
        if n ≤ min 32 (g.count + 1) then (⟨0, some threshold⟩, true) else (⟨min 32 (g.count + 1), some threshold⟩, false)
      else (⟨0, some threshold⟩, false) := by
  cases out with
  | false => rfl
  | true => simp [Guard.eval, Config.guardEnd]

/-- R94: the guard of one place returned to 0, place by place. -/
theorem zeroAt_eq_mapIdx (l : List Guard) (n : Nat) :
    zeroAt l n = l.mapIdx fun k g => if k = n - 1 then { g with count := 0 } else g := by
  refine List.ext_getElem (by simp [zeroAt]) fun k h1 h2 => ?_
  simp only [zeroAt, List.getElem_modify, List.getElem_mapIdx, eq_comm (a := n - 1)]
  rfl

/-- R76, R77, R87: a point's code, by its kind and the two ends of the valid codes. -/
theorem scanPoint_eq (p : Point) (cal : Cal) (code : Nat) :
    scanPoint p cal code =
      if p.kind = .unused then .unused
      else if code < 9830 then .isOpen else if 57344 < code then .isOver else .valid (convert cal code) := by
  unfold scanPoint markOf
  refine if_congr Iff.rfl rfl ?_
  by_cases hopen : code < 9830
  · simp [Config.openBelow, hopen]
  · by_cases hover : 57344 < code <;> simp [Config.openBelow, Config.overAbove, hopen, hover]

theorem scanGuard_unread {r : PointReading} (h : ∀ v, r ≠ .valid v) (g : Guard) (threshold n : Nat) (out : Int → Bool) :
    scanGuard g threshold n r out = (g.zero, false) := by
  cases r with
  | valid v => exact absurd rfl (h v)
  | _ => rfl

section
variable {s : State}

/-- R155: the tilt guard of a point that has a baseline. -/
theorem State.tiltAt_baseline {k : Nat} {b : Int} (hk : (s.point (k + 1)).kind = .tilt)
    (hb : (s.point (k + 1)).baseline = some b) :
    s.tiltAt k =
      scanGuard (s.wall.tilt.getD k .rest) (s.point (k + 1)).limit s.site.settings.nTilt (s.scanned (k + 1)) fun v =>
        decide ((s.point (k + 1)).limit < (v - b).natAbs) := by
  simp only [State.tiltAt, hk, hb]

theorem State.tiltAt_rest {k : Nat}
    (h : (∀ v, s.scanned (k + 1) ≠ .valid v) ∨ (s.point (k + 1)).kind ≠ .tilt ∨ (s.point (k + 1)).baseline = none) :
    s.tiltAt k = ((s.wall.tilt.getD k .rest).zero, false) := by
  unfold State.tiltAt
  dsimp only
  split
  · next b hk hb => exact scanGuard_unread (by simpa [hk, hb] using h) _ _ _ _
  · rfl

/-- R157: the neighbour-rise guard of a point whose test baseline a station holds. -/
theorem State.riseAt_baseline {x : Station} {c : TestCtx} {k : Nat} {b : Int} (hx : x.ctx = some c)
    (hb : c.baselines.getD k none = some b) :
    s.riseAt x k =
      scanGuard (x.nbr.getD k .rest) c.cap.nbrLimit s.site.settings.nNeighbour (s.scanned (k + 1)) fun v =>
        decide ((c.cap.nbrLimit : Int) < v - b) := by
  simp only [State.riseAt, hx, hb]

theorem State.riseAt_rest {x : Station} {k : Nat}
    (h : (∀ v, s.scanned (k + 1) ≠ .valid v) ∨ x.ctx = none ∨ ∃ c, x.ctx = some c ∧ c.baselines.getD k none = none) :
    s.riseAt x k = ((x.nbr.getD k .rest).zero, false) := by
  cases hx : x.ctx with
  | none => simp only [State.riseAt, hx]
  | some c =>
    cases hb : c.baselines.getD k none with
    | none => simp only [State.riseAt, hx, hb]
    | some b =>
      rw [State.riseAt_baseline hx hb]
      refine scanGuard_unread (h.resolve_right ?_) _ _ _ _
      simp only [hx, reduceCtorEq, false_or]
      rintro ⟨d, hd, hnone⟩
      cases hd
      rw [hb] at hnone
      cases hnone

/-! ## The three events of the Wall Watch, while the part runs -/

theorem exec_scanComplete (h : s.phase = .running) (codes : List Nat) (wallFirst : Bool) :
    exec (.scanComplete codes wallFirst) s = .next
      (if wallFirst then (((s.publishScan codes).wallScan.riseScan .s1).riseScan .s2)
        else (((s.publishScan codes).riseScan .s1).riseScan .s2).wallScan) := by
  show execScanComplete codes wallFirst s = _
  rw [execScanComplete, State.event_running h]

theorem Point.tiltActive_iff {p : Point} :
    p.tiltActive = true ↔ p.kind = .tilt ∧ p.baseline ≠ none ∧ p.fresh = false := by
  simp [Point.tiltActive, Option.isSome_iff_ne_none, and_assoc]

theorem exec_wallTiltTrip (h : s.phase = .running) (p : Nat) :
    exec (.wallTiltTrip p) s = .next
      (if (s.point p).tiltActive then
        State.raise { s with wall := { s.wall with tilt := zeroAt s.wall.tilt p } } .tiltExceeded
      else s) :=
  State.event_running h _

theorem exec_neighbourRiseTrip (h : s.phase = .running) (st : Stn) (p : Nat) :
    exec (.neighbourRiseTrip st p) s = .next
      (if (s.stn st).ctx.any fun c => (c.baselines.getD (p - 1) none).isSome then
        (s.setStn st { s.stn st with nbr := zeroAt (s.stn st).nbr p }).addCause .neighbour st
      else s) :=
  State.event_running h _

end

end Sys2Proof.Machine

open Sys2Proof Sys2Proof.Machine in
/-- Settles O55: a scan published point by point, then each guard by its point's reading and baseline, then the two trips. -/
theorem scansAreJudged : Obligations.ScansAreJudged := by
  unfold Obligations.ScansAreJudged
  refine ⟨?_, fun _ => rfl, fun _ _ => rfl, ?_, ?_, ?_, ?_, ?_⟩
  · intro codes wallFirst s hrun value published
    have hpub : s.publishScan codes = published := by
      simp only [State.publishScan, scanPoint_eq]
      rfl
    rw [exec_scanComplete hrun, hpub]
  · intro s k b v hk hb hv
    rw [State.tiltAt_baseline hk hb, hv]
    exact (Guard.eval_valid _ _ _ _).trans (if_congr (by rw [decide_eq_true_iff, Int.abs_eq_natAbs, Nat.cast_lt]) rfl rfl)
  · intro s k unread
    exact ⟨State.tiltAt_rest, fun x => State.riseAt_rest⟩
  · intro s x c k b v hx hb hv
    rw [State.riseAt_baseline hx (by rw [List.getD_eq_getElem?_getD, hb]; rfl), hv]
    exact (Guard.eval_valid _ _ _ _).trans (if_congr decide_eq_true_iff rfl rfl)
  · intro s p hrun zeroed
    refine ⟨fun hk hb hf => ?_, fun h => ?_⟩
    · rw [exec_wallTiltTrip hrun, if_pos (Point.tiltActive_iff.2 ⟨hk, hb, hf⟩), zeroAt_eq_mapIdx]
    · rw [exec_wallTiltTrip hrun, if_neg]
      rw [Point.tiltActive_iff]
      rintro ⟨hk, hb, hf⟩
      simp [hk, hb, hf] at h
  · intro s st p hrun zeroed held
    refine ⟨fun h => ?_, fun h => ?_⟩
    · rw [exec_neighbourRiseTrip hrun, if_neg (by simpa [held] using h)]
    · rw [exec_neighbourRiseTrip hrun, if_pos h, zeroAt_eq_mapIdx]
end

section
namespace Sys2Proof.Machine

/-! ## Items by index (R194 to R196) -/

/-- R195, R196: an item is refused by its own range, or for an index seen before it. -/
theorem itemFailure_none_iff {ok : Nat → Nat → Bool} {seen : List Nat} {items : List (Nat × Nat)} :
    itemFailure ok seen items = none ↔
      (∀ p ∈ items, ok p.1 p.2 = true) ∧ (items.map (·.1)).Nodup ∧ ∀ p ∈ items, p.1 ∉ seen := by
  induction items generalizing seen with
  | nil => simp [itemFailure]
  | cons p rest ih =>
    obtain ⟨i, v⟩ := p
    by_cases h : ok i v = true ∧ i ∉ seen
    · have hstep : itemFailure ok seen ((i, v) :: rest) = itemFailure ok (i :: seen) rest := by simp [itemFailure, h]
      rw [hstep, ih, List.forall_mem_cons, List.forall_mem_cons, List.map_cons, List.nodup_cons]
      simp only [List.mem_map, List.mem_cons, h.1, h.2, not_false_eq_true, true_and, not_or, not_exists, not_and]
      constructor
      · rintro ⟨hok, hnodup, hnew⟩
        exact ⟨hok, ⟨fun q hq => (hnew q hq).1, hnodup⟩, fun q hq => (hnew q hq).2⟩
      · rintro ⟨hok, ⟨hne, hnodup⟩, hnew⟩
        exact ⟨hok, hnodup, fun q hq => ⟨hne q hq, hnew q hq⟩⟩
    · have hstep : itemFailure ok seen ((i, v) :: rest) = some i := by simp_all [itemFailure]
      rw [hstep]
      simp only [reduceCtorEq, false_iff]
      rintro ⟨hok, -, hnew⟩
      exact h ⟨hok _ List.mem_cons_self, hnew _ List.mem_cons_self⟩

theorem itemFailure_append {ok : Nat → Nat → Bool} {front : List (Nat × Nat)} (hok : ∀ q ∈ front, ok q.1 q.2 = true)
    (hnodup : (front.map (·.1)).Nodup) {seen : List Nat} (hnew : ∀ q ∈ front, q.1 ∉ seen) (rest : List (Nat × Nat)) :
    itemFailure ok seen (front ++ rest) = itemFailure ok ((front.map (·.1)).reverse ++ seen) rest := by
  induction front generalizing seen with
  | nil => rfl
  | cons p front ih =>
    obtain ⟨i, v⟩ := p
    rw [List.forall_mem_cons] at hok hnew
    rw [List.map_cons, List.nodup_cons] at hnodup
    have hstep : itemFailure ok seen ((i, v) :: (front ++ rest)) = itemFailure ok (i :: seen) (front ++ rest) := by
      simp [itemFailure, hok.1, hnew.1]
    rw [List.cons_append, hstep, ih hok.2 hnodup.2]
    · simp
    · intro q hq hmem
      rcases List.mem_cons.1 hmem with hi | hseen
      · exact hnodup.1 (List.mem_map.2 ⟨q, hq, hi⟩)
      · exact hnew.2 q hq hseen

/-- A value lies in the range that a table gives its index, numbered from 1. -/
def WithinTable (table : List (Nat × Nat)) (k v : Nat) : Prop :=
  1 ≤ k ∧ k ≤ table.length ∧ (table.getD (k - 1) (0, 0)).1 ≤ v ∧ v ≤ (table.getD (k - 1) (0, 0)).2

/-- R194: the ranges of the limits. -/
def limitRanges : List (Nat × Nat) :=
  [(100, 30000), (100, 30000), (1, 1000), (100, 10000), (0, 60000), (0, 60000), (0, 60000), (0, 60000), (0, 60000),
   (0, 60000), (0, 60000), (0, 60000), (1, 720), (1, 5000), (50, 100), (0, 100), (10, 100), (0, 0xFFFFF), (0, 0x3F)]

/-- R196: the ranges of the settings. -/
def settingRanges : List (Nat × Nat) :=
  [(1, 500), (1, 1000), (1, 1000), (0, 20), (1000, 30000), (0, 5000), (1, 2000), (0, 100), (1, 30), (60, 1800),
   (5, 300), (1, 255), (1, 30000), (1, 2000), (0, 2000), (0, 300), (1, 10000), (1, 1000), (1, 32), (1, 32), (1, 32),
   (1, 32), (1, 32), (1, 32), (1, 32), (0, 3), (0, 3), (0, 3), (0, 3), (0, 4)]

theorem limitInRange_iff {k v : Nat} : limitInRange k v = true ↔ WithinTable limitRanges k v := by
  by_cases hk : k ≤ 19
  · interval_cases k <;> simp [limitInRange, inRange, WithinTable, limitRanges] <;> omega
  · obtain ⟨m, rfl⟩ : ∃ m, k = m + 20 := ⟨k - 20, by omega⟩
    simp [limitInRange, WithinTable, limitRanges]

theorem settingInRange_iff {k v : Nat} : settingInRange k v = true ↔ WithinTable settingRanges k v := by
  by_cases hk : k ≤ 30
  · interval_cases k <;> simp [settingInRange, inRange, WithinTable, settingRanges]
  · obtain ⟨m, rfl⟩ : ∃ m, k = m + 31 := ⟨k - 31, by omega⟩
    simp [settingInRange, WithinTable, settingRanges]

/-! ## The cross checks of SET_LIMITS (R195) -/

/-- The first failing check of a list whose checks are a map of one test. -/
theorem firstRefusal_map (l : List Nat) (ok : Nat → Bool) (r : Resp) (f : Nat → Nat) :
    firstRefusal (l.map fun n => (ok n, r, f n)) = (l.find? fun n => !ok n).map fun n => (r, f n) := by
  simp only [firstRefusal, List.find?_map, Option.map_map]
  rfl

/-- R195: a rating below the proof load of the test a station runs. -/
def Station.overRating (x : Station) (rating : Nat) : Bool := x.ctx.any fun c => decide (rating < c.pp)

theorem Station.overRating_iff {x : Station} {rating : Nat} :
    x.overRating rating = true ↔ ∃ c, x.ctx = some c ∧ rating < c.pp := by
  simp [Station.overRating, Option.any_eq_true]

section
variable {s : State}

/-- R195: the first row, numbered from 0, whose locked and reserved sums are above its ceiling. -/
def State.rowAbove (s : State) (l : Limits) : Option Nat :=
  (List.range 8).find? fun r => decide (l.ceilings.getD r 0 < (s.row (r + 1)).locked + (s.row (r + 1)).reserved)

theorem State.limitsCross_eq (l : Limits) :
    s.limitsCross l =
      if s.s1.overRating l.rating1 then some (.busy, 1)
      else if s.s2.overRating l.rating2 then some (.busy, 2)
      else (s.rowAbove l).map fun r => (.outOfRange, r + 5) := by
  have hrows :
      firstRefusal ([1, 2, 3, 4, 5, 6, 7, 8].map fun r =>
        (decide ((s.row r).locked + (s.row r).reserved ≤ l.ceilings.getD (r - 1) 0), Resp.outOfRange, r + 4)) =
      (s.rowAbove l).map fun r => (.outOfRange, r + 5) := by
    rw [firstRefusal_map, show [1, 2, 3, 4, 5, 6, 7, 8] = (List.range 8).map (· + 1) from rfl, List.find?_map,
      Option.map_map]
    simp only [← decide_not, not_le, Function.comp_def, Nat.add_sub_cancel]
    rfl
  unfold State.limitsCross
  dsimp only
  rw [List.cons_append, List.cons_append, List.nil_append]
  cases h1 : s.s1.overRating l.rating1 with
  | true => exact firstRefusal_fail (congrArg not h1) _
  | false =>
    refine (firstRefusal_pass (congrArg not h1) _).trans ?_
    cases h2 : s.s2.overRating l.rating2 with
    | true => exact firstRefusal_fail (congrArg not h2) _
    | false => exact (firstRefusal_pass (congrArg not h2) _).trans hrows

theorem actSetLimits_locked (h : s.site.locked = true) (items : List (Nat × Nat)) :
    actSetLimits items s = (s, .plain .limitsLocked) := by
  simp [actSetLimits, h, refuse_eq]

theorem actSetLimits_item (h : s.site.locked = false) {items : List (Nat × Nat)} {k : Nat}
    (hk : itemFailure limitInRange [] items = some k) : actSetLimits items s = (s, .plain .outOfRange k) := by
  simp [actSetLimits, h, hk, refuse_eq]

theorem actSetLimits_crossed (h : s.site.locked = false) {items : List (Nat × Nat)}
    (hitems : itemFailure limitInRange [] items = none) (hne : items ≠ []) {r : Resp × Nat}
    (hr : s.limitsCross (s.site.limits.writeAll items) = some r) : actSetLimits items s = (s, .plain r.1 r.2) := by
  simp [actSetLimits, h, hitems, hne, hr, refuse_eq]

theorem actSetLimits_written (h : s.site.locked = false) {items : List (Nat × Nat)}
    (hitems : itemFailure limitInRange [] items = none) (hne : items ≠ [])
    (hr : s.limitsCross (s.site.limits.writeAll items) = none) :
    actSetLimits items s =
      (State.applyMasks { s with site := { s.site with limits := s.site.limits.writeAll items } }, .plain .ok) := by
  simp [actSetLimits, h, hitems, hne, hr, accept_eq]

/-! ## The settings written (R196) -/

/-- R189: the watch a window code starts or stops. -/
theorem State.watchFromSettings_eq :
    s.watchFromSettings =
      if s.site.settings.linkWindow = 1 then .running 2 else if s.site.settings.linkWindow = 2 then .running 5
      else if s.site.settings.linkWindow = 3 then .running 20 else if s.site.settings.linkWindow = 4 then .running 60
      else .stopped := by
  unfold State.watchFromSettings windowSeconds
  split
  · next w hw => split at hw <;> simp_all
  · next hw => split at hw <;> simp_all

theorem State.writeSettings_eq (t : Settings) :
    s.writeSettings t =
      { s with
        site := { s.site with settings := t }
        grout := { s.grout with flow := { s.grout.flow with lowered := s.grout.flow.lowered ||
          (decide (t.leakLimit < s.site.settings.leakLimit) && decide (t.leakLimit ≤ s.grout.flow.stray)) } }
        link := if t.linkWindow = s.site.settings.linkWindow then s.link else
          { s.link with watch :=
            if t.linkWindow = 1 then .running 2 else if t.linkWindow = 2 then .running 5
            else if t.linkWindow = 3 then .running 20 else if t.linkWindow = 4 then .running 60 else .stopped } } := by
  simp only [State.writeSettings, State.watchFromSettings_eq]
  split <;> rfl

/-! ## The masks applied (R101) -/

/-- The bits of a group are those of its flags. -/
theorem groupBits_getLsbD : ∀ g ≤ 6, ∀ i < 20,
    ((groupBits g).getLsbD i = true ↔ ∃ f ∈ Flag.all, f.group = g ∧ f.bit = i) := by
  decide

theorem ne_zero_iff_getLsbD {w : Nat} {x : BitVec w} : x ≠ 0#w ↔ ∃ i < w, x.getLsbD i = true := by
  constructor
  · intro h
    by_contra hno
    refine h (BitVec.eq_of_getLsbD_eq fun i hi => ?_)
    have hbit : ¬x.getLsbD i = true := fun hx => hno ⟨i, hi, hx⟩
    simpa using hbit
  · rintro ⟨i, -, hx⟩ rfl
    simp at hx

/-- R101: a group shows a set flag that is not masked. -/
theorem State.groupSeen_iff {g : Nat} (hg : g ≤ 6) :
    s.faults.det &&& ~~~s.site.limits.combMask &&& groupBits g ≠ 0#20 ↔
      ∃ f ∈ Flag.all, f.group = g ∧ s.flag f = true ∧ s.site.limits.combMask.getLsbD f.bit = false := by
  rw [ne_zero_iff_getLsbD]
  simp only [BitVec.getLsbD_and, BitVec.getLsbD_not, Bool.and_eq_true, Bool.not_eq_true', decide_eq_true_eq]
  constructor
  · rintro ⟨i, hi, ⟨hdet, -, hmask⟩, hgroup⟩
    obtain ⟨f, hf, hfg, rfl⟩ := (groupBits_getLsbD g hg i hi).1 hgroup
    exact ⟨f, hf, hfg, hdet, hmask⟩
  · rintro ⟨f, hf, hfg, hdet, hmask⟩
    have hbit : f.bit < 20 := by
      cases f with
      | overload st | loadOpen st | loadOver st | encoderRange st => cases st <;> decide
      | _ => decide
    exact ⟨f.bit, hbit, ⟨hdet, hbit, hmask⟩, (groupBits_getLsbD g hg f.bit hbit).2 ⟨f, hf, hfg, rfl⟩⟩

/-- Bits set group by group: a bit of the fold was set before, or its group asks for it. -/
theorem foldl_twoPow_getLsbD {P : Nat → Prop} [DecidablePred P] {gs : List Nat} (hgs : ∀ g ∈ gs, 1 ≤ g) {k : Nat}
    (hk1 : 1 ≤ k) (hk6 : k ≤ 6) (c : BitVec 6) :
    (gs.foldl (fun c g => if P g then c ||| BitVec.twoPow 6 (g - 1) else c) c).getLsbD (k - 1) = true ↔
      c.getLsbD (k - 1) = true ∨ k ∈ gs ∧ P k := by
  induction gs generalizing c with
  | nil => simp
  | cons g gs ih =>
    rw [List.forall_mem_cons] at hgs
    have hsame : g - 1 = k - 1 ↔ g = k := by omega
    have hlt : k - 1 < 6 := by omega
    rw [List.foldl_cons, ih hgs.2]
    by_cases hp : P g
    · simp only [hp, if_true, BitVec.getLsbD_or, BitVec.getLsbD_twoPow, Bool.or_eq_true, Bool.and_eq_true,
        decide_eq_true_eq, hsame, List.mem_cons]
      grind
    · simp only [hp, if_false, List.mem_cons]
      grind

/-- R101: the combined flags after new masks are applied. -/
theorem State.applyMasks_combined :
    ∃ comb : BitVec 6,
      s.applyMasks = State.judgeTrip { s with faults := { s.faults with comb := comb } } ∧
      ∀ g, 1 ≤ g → g ≤ 6 →
        (comb.getLsbD (g - 1) = true ↔
          s.combined g = true ∨
            ∃ f ∈ Flag.all, f.group = g ∧ s.flag f = true ∧ s.site.limits.combMask.getLsbD f.bit = false) := by
  refine ⟨_, rfl, fun g h1 h6 => ?_⟩
  have hmem : g ∈ [1, 2, 3, 4, 5, 6] := by interval_cases g <;> decide
  rw [foldl_twoPow_getLsbD (by decide) h1 h6, State.groupSeen_iff h6]
  simp only [hmem, true_and]
  rfl

end

end Sys2Proof.Machine

open Sys2Proof Sys2Proof.Machine in
/-- Settles O58: the checks of each request in their order, the items by induction over the list, the ranges and the
written fields by index, and the masks bit by bit. -/
theorem limitsSettingsAndTagsAreWritten : Obligations.LimitsSettingsAndTagsAreWritten := by
  unfold Obligations.LimitsSettingsAndTagsAreWritten
  refine ⟨?_, ?_, ?_, ?_, ?_, fun _ _ => ⟨limitInRange_iff, settingInRange_iff⟩, ?_, ?_,
    fun _ => State.applyMasks_combined⟩
  · intro tag items s hs i l
    refine ⟨fun hl => Refuses.of_actOf rfl hs (actSetLimits_locked (s := s.taken i) hl items),
      fun hl => ⟨fun k hk => Refuses.of_actOf rfl hs (actSetLimits_item (s := s.taken i) hl hk),
        fun hitems => ⟨fun hnil => ?_, fun hne => ?_⟩⟩⟩
    · subst hnil
      refine Serves.of_actOf rfl hs ?_
      simp [actOf, i, actSetLimits, hl, itemFailure, accept_eq]
    · intro held1 held2 above
      have h1 : (s.taken i).s1.overRating l.rating1 = true ↔ held1 := Station.overRating_iff
      have h2 : (s.taken i).s2.overRating l.rating2 = true ↔ held2 := Station.overRating_iff
      have hcross : (s.taken i).limitsCross ((s.taken i).site.limits.writeAll items) =
          if held1 then some (.busy, 1) else if held2 then some (.busy, 2) else above.map fun r => (.outOfRange, r + 5) := by
        refine (State.limitsCross_eq l).trans ?_
        simp only [h1, h2]
        rfl
      refine ⟨fun hh1 => ?_, fun hh1 hh2 => ?_, fun hh1 hh2 => ⟨fun r hr => ?_, fun hnone => ?_⟩⟩
      · exact Refuses.of_actOf rfl hs
          (actSetLimits_crossed (s := s.taken i) hl hitems hne (r := (.busy, 1)) (by rw [hcross, if_pos hh1]))
      · exact Refuses.of_actOf rfl hs
          (actSetLimits_crossed (s := s.taken i) hl hitems hne (r := (.busy, 2)) (by rw [hcross, if_neg hh1, if_pos hh2]))
      · exact Refuses.of_actOf rfl hs
          (actSetLimits_crossed (s := s.taken i) hl hitems hne (r := (.outOfRange, r + 5))
            (by rw [hcross, if_neg hh1, if_neg hh2, hr]; rfl))
      · exact Serves.of_actOf rfl hs
          (actSetLimits_written (s := s.taken i) hl hitems hne (by rw [hcross, if_neg hh1, if_neg hh2, hnone]; rfl))
  · exact fun tag s hs => Serves.of_actOf rfl hs rfl
  · intro tag items s hs i old t f
    have ht : (s.taken i).site.settings.writeAll items = t := rfl
    refine ⟨fun k hk => Refuses.of_actOf rfl hs ?_, fun hitems => ⟨fun hj => Refuses.of_actOf rfl hs ?_,
      fun hj hm => Refuses.of_actOf rfl hs ?_, fun hj hm => ?_⟩⟩
    · simp [actOf, i, actSetSettings, hk]
    · simp only [actOf, i, actSetSettings, hitems]
      rw [ht, if_pos hj]
    · simp only [actOf, i, actSetSettings, hitems]
      rw [ht, if_neg (by omega), if_pos hm]
    · intro lowered window
      refine Serves.of_actOf rfl hs ?_
      simp only [actOf, i, actSetSettings, hitems]
      rw [ht, if_neg (by omega), if_neg (by omega), accept_eq]
      exact congrArg (·, Answer.plain .ok) (State.writeSettings_eq t)
  · intro tag w v s hs
    refine ⟨fun hw => Refuses.of_actOf rfl hs ?_, fun h1 h4 => Serves.of_actOf rfl hs ?_⟩
    · have hout : inRange 1 4 w = false := inRange_false (by omega)
      simp [actOf, actSetTag, hout]
    · have hin : inRange 1 4 w = true := inRange_iff.2 ⟨h1, h4⟩
      simp [actOf, actSetTag, hin, accept_eq]
  · intro ok items
    refine ⟨by simp [itemFailure_none_iff], ?_⟩
    rintro front ⟨i, v⟩ back rfl hok hnodup hbad
    rw [itemFailure_append hok hnodup (by simp)]
    simp only [itemFailure, List.append_nil, List.contains_eq_mem, List.mem_reverse]
    rw [if_neg]
    simpa [imp_iff_not_or, or_comm] using hbad
  · intro l v
    refine ⟨rfl, rfl, rfl, rfl, rfl, rfl, rfl, rfl, rfl, fun r h1 h8 => ?_, rfl, rfl⟩
    interval_cases r <;> rfl
  · exact fun _ _ => ⟨rfl, rfl, rfl, rfl, rfl, rfl, rfl, rfl, rfl, rfl, rfl, rfl, rfl, rfl, rfl, rfl, rfl, rfl, rfl, rfl,
      rfl, rfl, rfl, rfl, rfl, rfl, rfl, rfl, rfl, rfl⟩
end

section
namespace Sys2Proof.Machine

/-! ## Rounding and sampling (R76 to R78) -/

theorem roundHalfUp_bounds (n : Nat) {d : Nat} (hd : 0 < d) :
    2 * (roundHalfUp n d * d) ≤ 2 * n + d ∧ 2 * n + d < 2 * (roundHalfUp n d * d) + 2 * d := by
  have hlow := Nat.div_mul_le_self (2 * n + d) (2 * d)
  have hhigh := Nat.lt_div_mul_add (a := 2 * n + d) (b := 2 * d) (by omega)
  unfold roundHalfUp
  rw [Nat.mul_left_comm] at hlow hhigh
  exact ⟨hlow, hhigh⟩

/-- Rounded half away from zero: within half of the divisor, and at the half on the far side of zero. -/
theorem roundAway_nearest (num : Int) {den : Nat} (hd : 0 < den) :
    2 * |roundAway num den * den - num| ≤ den ∧
      (2 * |roundAway num den * den - num| = den → |num| < |roundAway num den| * den) := by
  have hcast (n : Nat) : ((roundHalfUp n den : Nat) : Int) * den = ((roundHalfUp n den * den : Nat) : Int) := by push_cast; rfl
  unfold roundAway
  split
  · next hn =>
    have hb := roundHalfUp_bounds num.toNat hd
    rw [Nat.abs_cast, abs_of_nonneg hn, hcast]
    generalize roundHalfUp num.toNat den * den = q at hb ⊢
    rcases abs_cases ((q : Int) - num) with ⟨he, _⟩ | ⟨he, _⟩ <;> rw [he] <;> omega
  · next hn =>
    have hb := roundHalfUp_bounds (-num).toNat hd
    rw [abs_neg, Nat.abs_cast, abs_of_neg (show num < 0 by omega), neg_mul, hcast]
    generalize roundHalfUp (-num).toNat den * den = q at hb ⊢
    rcases abs_cases (-(q : Int) - num) with ⟨he, _⟩ | ⟨he, _⟩ <;> rw [he] <;> omega

theorem clamp_eq {lo hi : Int} (h : lo ≤ hi) (z : Int) : clamp lo hi z = max lo (min hi z) := by
  unfold clamp
  split
  · omega
  · split <;> omega

theorem pushWindow_eq (win : List Int) (v : Int) :
    pushWindow win v = (if 16 ≤ win.length then win.tail else win) ++ [v] :=
  (apply_ite (· ++ [v]) (16 ≤ win.length) win.tail win).symm

/-- R76, R78: one sample of a channel, by the two ends of the valid codes. -/
theorem Channel.sample_eq (c : Channel) (cal : Cal) (code : Nat) :
    c.sample cal code =
      if code < 9830 then { c with mark := some .isOpen }
      else if 57344 < code then { c with mark := some .isOver }
      else { win := (if 16 ≤ c.win.length then c.win.tail else c.win) ++ [convert cal code], mark := some .valid } := by
  simp only [Channel.sample, markOf, Config.openBelow, Config.overAbove, pushWindow_eq]
  by_cases hopen : code < 9830
  · simp only [hopen, if_true]
  · by_cases hover : 57344 < code
    · simp only [hopen, hover, if_true, if_false]
    · simp only [hopen, hover, if_false]

/-- R94, R95: one evaluation, where `P` says that a VALID value is out of band. -/
theorem Guard.eval_eq (g : Guard) (threshold n : Nat) {valid out : Bool} {P : Prop} [Decidable P]
    (hP : (valid && out) = true ↔ P) :
    let count := if P then min 32 (g.count + 1) else 0
    g.eval threshold n valid out =
      (⟨if P ∧ n ≤ count then 0 else count, some threshold⟩, decide (P ∧ n ≤ count)) := by
  unfold Guard.eval
  by_cases h : P
  · by_cases hn : n ≤ min 32 (g.count + 1) <;> simp [hP.2 h, h, hn, Config.guardEnd]
  · simp [h, show (valid && out) = false from Bool.not_eq_true _ ▸ fun hv => h (hP.1 hv)]

/-- R94: what is not VALID, or not out of band, returns the count to 0. -/
theorem Guard.eval_rest (g : Guard) (threshold n : Nat) {valid out : Bool} (h : (valid && out) = false) :
    g.eval threshold n valid out = (⟨0, some threshold⟩, false) := by
  simp [Guard.eval, h]

/-- R94: a VALID value out of band counts, below N. -/
theorem Guard.eval_counted {g : Guard} {n : Nat} (threshold : Nat) {valid out : Bool} (hv : valid = true) (ho : out = true)
    (hn : min 32 (g.count + 1) < n) :
    g.eval threshold n valid out = (⟨min 32 (g.count + 1), some threshold⟩, false) := by
  subst hv ho
  exact (g.eval_valid threshold n true).trans ((if_pos rfl).trans (if_neg (Nat.not_le.2 hn)))

/-- R95: the count that reaches N trips, and returns to 0. -/
theorem Guard.eval_tripped {g : Guard} {n : Nat} (threshold : Nat) {valid out : Bool} (hv : valid = true) (ho : out = true)
    (hn : n ≤ min 32 (g.count + 1)) : g.eval threshold n valid out = (⟨0, some threshold⟩, true) := by
  subst hv ho
  exact (g.eval_valid threshold n true).trans ((if_pos rfl).trans (if_pos hn))

section
variable {s : State}

theorem State.judgeMark_eq (code : Nat) (isOpen isOver : Flag) :
    s.judgeMark code isOpen isOver =
      if code < 9830 then s.raise isOpen else if 57344 < code then s.raise isOver else s := by
  simp only [State.judgeMark, markOf, Config.openBelow, Config.overAbove]
  by_cases hopen : code < 9830
  · simp only [hopen, if_true]
  · by_cases hover : 57344 < code
    · simp only [hopen, hover, if_true, if_false]
    · simp only [hopen, hover, if_false]

/-! ## A sample of a channel, while the part runs -/

/-- The load channel of a stressing station. -/
def loadChan : Stn → Chan
  | .s1 => .load1
  | .s2 => .load2

theorem exec_sample_load (h : s.phase = .running) (st : Stn) (code : Nat) (first : Bool) :
    exec (.sample (loadChan st) code first) s = .next (s.loadSample st code first) := by
  cases st
  · exact State.event_running h _
  · exact State.event_running h _

theorem exec_sample_tension (h : s.phase = .running) (code : Nat) (first : Bool) :
    exec (.sample .tension code first) s = .next (s.tensionSample code) := State.event_running h _

theorem exec_sample_pressure (h : s.phase = .running) (code : Nat) (first : Bool) :
    exec (.sample .pressure code first) s = .next (s.pressureSample code first) := State.event_running h _

/-! ## The jack overload guard at a sample (R96) -/

theorem State.overloadSample_idle {st : Stn} (hc : (s.stn st).ctx = none) : s.overloadSample st = s := by
  simp only [State.overloadSample, hc]

theorem State.overloadSample_of_eval {st : Stn} {c : TestCtx} (hc : (s.stn st).ctx = some c) {g : Guard} {trips : Bool}
    (he : (s.stn st).ovl.eval (min (s.rating st) (c.pp + 50)) s.site.settings.nOverload
      ((s.stn st).load.mark == some .valid) (decide (min (s.rating st) (c.pp + 50) < (s.stn st).runLoad)) = (g, trips)) :
    s.overloadSample st =
      if trips then (s.setStn st { s.stn st with ovl := g }).overloadTrip st else s.setStn st { s.stn st with ovl := g } := by
  simp only [State.overloadSample, hc, he]

theorem State.overloadTrip_of_ctx {st : Stn} {c : TestCtx} (hc : (s.stn st).ctx = some c) :
    s.overloadTrip st =
      (if (s.stn st).state = .unloading then s
      else s.setStn st
        { s.stn st with
          state := .fault, pump := { (s.stn st).pump with cmd := 0 }, relCmd := false
          ctx := some { c with motion := none, decision := some (c.decision.getD (.aborted .overload)) } }).raise
        (.overload st) := by
  refine congrArg (State.raise · _) ?_
  split
  · next hx => exact (congrArg (s.setStn st) (Station.overload_unloading hx)).trans (State.setStn_self s st)
  · next hx => exact congrArg (s.setStn st) (Station.overload_of_ctx hc hx)

/-! ## The winch guards at a sample in PAYING (R120, R121) -/

/-- R121: the tension is VALID and at the jam threshold or above. -/
abbrev Winch.tight (w : Winch) (t : Settings) : Prop := w.tension.mark = some .valid ∧ t.jamTension ≤ w.tension.level

/-- R121: the tension is VALID and at the slack threshold or below, from 200 cm on. -/
abbrev Winch.loose (w : Winch) (t : Settings) : Prop :=
  w.tension.mark = some .valid ∧ 200 ≤ w.paid ∧ w.tension.level ≤ t.slackTension

/-- R94: the counts after the evaluation, before a trip returns them to 0. -/
abbrev Winch.jamCount (w : Winch) (t : Settings) : Nat := if w.tight t then min 32 (w.jam.count + 1) else 0

abbrev Winch.slackCount (w : Winch) (t : Settings) : Nat := if w.loose t then min 32 (w.slack.count + 1) else 0

abbrev Winch.jams (w : Winch) (t : Settings) : Prop := w.tight t ∧ t.nJam ≤ w.jamCount t

abbrev Winch.slacks (w : Winch) (t : Settings) : Prop := w.loose t ∧ t.nSlack ≤ w.slackCount t

/-- R95: the slack threshold last evaluated. -/
abbrev Winch.slackSeen (w : Winch) (t : Settings) : Option Nat :=
  if 200 ≤ w.paid then some t.slackTension else w.slack.last

theorem Winch.guards_eq (w : Winch) (t : Settings) :
    w.guards t =
      ({ w with
          jam := ⟨if w.jams t then 0 else w.jamCount t, some t.jamTension⟩
          slack := ⟨if w.slacks t then 0 else w.slackCount t, w.slackSeen t⟩ },
        decide (w.jams t), decide (w.slacks t)) := by
  have hjam : (w.tension.mark == some .valid && decide (t.jamTension ≤ w.tension.level)) = true ↔ w.tight t := by simp
  unfold Winch.guards
  dsimp only
  rw [Guard.eval_eq _ _ _ hjam]
  by_cases hlen : 200 ≤ w.paid
  · have hslack : (w.tension.mark == some .valid && decide (w.tension.level ≤ t.slackTension)) = true ↔ w.loose t := by
      simp [hlen]
    rw [if_pos (show Config.slackFrom ≤ w.paid from hlen), Guard.eval_eq _ _ _ hslack]
    simp only [Winch.slackSeen, hlen, if_true]
  · have hloose : ¬w.loose t := fun h => hlen h.2.1
    rw [if_neg (show ¬Config.slackFrom ≤ w.paid from hlen)]
    simp only [Winch.slackSeen, Winch.slacks, Winch.slackCount, hlen, hloose, if_false, false_and, decide_false, Guard.zero]

/-- R120: a run in PAYING ended at a sample, its guards returned to 0 after their evaluation. -/
def State.payEnded (s : State) (r : Run) (reason : RunEnd) : State :=
  { s with winch :=
    { s.winch with
      state := .stopping, run := some { r with reason := some reason, halt := none, brakeSamples := 0 }
      jam := ⟨0, some s.site.settings.jamTension⟩, slack := ⟨0, s.winch.slackSeen s.site.settings⟩ } }

/-- R120, R121: the length first, then the jam, then the slack. -/
theorem State.paySample_eq (hs : s.winch.state = .paying) {r : Run} (hr : s.winch.run = some r) :
    s.paySample =
      if (r.target : Int) ≤ s.winch.paid then s.payEnded r .reached
      else if s.winch.jams s.site.settings then s.payEnded r .jammed
      else if s.winch.slacks s.site.settings then s.payEnded r .slack
      else
        { s with winch :=
          { s.winch with
            jam := ⟨s.winch.jamCount s.site.settings, some s.site.settings.jamTension⟩
            slack := ⟨s.winch.slackCount s.site.settings, s.winch.slackSeen s.site.settings⟩ } } := by
  have hended (reason : RunEnd) :
      State.endRun { s with winch := (s.winch.guards s.site.settings).1 } reason none = s.payEnded r reason := by
    rw [State.endRun_paying (s := { s with winch := (s.winch.guards s.site.settings).1 }) hs, Winch.guards_eq]
    simp only [hr]
    rfl
  have hreached : (s.winch.guards s.site.settings).1.reached = decide ((r.target : Int) ≤ s.winch.paid) := by
    simp [Winch.reached, Winch.guards, hr]
  unfold State.paySample
  dsimp only
  rw [hended, hended, hended, hreached, Winch.guards_eq]
  refine if_congr decide_eq_true_iff rfl ?_
  by_cases hj : s.winch.jams s.site.settings
  · exact (if_pos (decide_eq_true hj)).trans (if_pos hj).symm
  · refine (if_neg (mt of_decide_eq_true hj)).trans (Eq.trans ?_ (if_neg hj).symm)
    by_cases hl : s.winch.slacks s.site.settings
    · exact (if_pos (decide_eq_true hl)).trans (if_pos hl).symm
    · refine (if_neg (mt of_decide_eq_true hl)).trans (Eq.trans ?_ (if_neg hl).symm)
      rw [if_neg hj, if_neg hl]

theorem Winch.note_idle {w : Winch} (h : w.run = none) : w.note = w := by
  obtain ⟨⟩ := w
  cases h
  rfl

/-! ## The grout guards at a sample (R136, R139) -/

theorem Grout.note_eq (g : Grout) :
    g.note =
      { g with pass := g.pass.map fun p =>
        { p with
          peakPressure := if g.pressure.win = [] then p.peakPressure else max p.peakPressure g.pressure.level
          pauseSamples := if g.state = .paused then p.pauseSamples + 1 else p.pauseSamples
          noFlow := p.noFlow.map fun q => (q.1 + 1, q.2) } } := by
  cases hp : g.pass with
  | none => simp [Grout.note, Grout.raisePeak, hp]
  | some p => simp [Grout.note, Grout.raisePeak, hp]

theorem State.refusalSample_of_eval {p : Pass} (hp : s.grout.pass = some p) (hs : s.grout.state = .pumping) {g : Guard}
    {trips : Bool}
    (he : s.grout.refusal.eval p.refusal s.site.settings.nRefusal (s.grout.pressure.mark == some .valid)
      (decide (p.refusal ≤ s.grout.pressure.level)) = (g, trips)) :
    s.refusalSample =
      if trips then State.endPass { s with grout := { s.grout with refusal := g } } .refusal
      else { s with grout := { s.grout with refusal := g } } := by
  simp only [State.refusalSample, hs, hp, he]

theorem State.refusalSample_rest (h : s.grout.state ≠ .pumping ∨ s.grout.pass = none) : s.refusalSample = s := by
  unfold State.refusalSample
  split
  · next p hs hp => simp [hs, hp] at h
  · rfl

theorem State.overpressureSample_none (hp : s.grout.pass = none) : s.overpressureSample = s := by
  simp [State.overpressureSample, hp]

theorem State.overpressureSample_of_eval {p : Pass} (hp : s.grout.pass = some p) {g : Guard} {trips : Bool}
    (he : s.grout.overp.eval s.site.limits.maxPressure s.site.settings.nOverpressure
      (s.grout.pressure.mark == some .valid) (decide (s.site.limits.maxPressure ≤ s.grout.pressure.level)) = (g, trips)) :
    s.overpressureSample =
      if trips then State.overpressureTrip { s with grout := { s.grout with overp := g } }
      else { s with grout := { s.grout with overp := g } } := by
  simp only [State.overpressureSample, hp, Option.isSome_some, if_true, he]

end

/-- A value that is VALID and out of band is neither of the two that return a count to 0. -/
theorem valid_and_false {m : Option Mark} {a b : Nat} (h : m ≠ some .valid ∨ b < a) :
    (m == some .valid && decide (a ≤ b)) = false := by
  rcases h with h | h <;> simp [h]

end Sys2Proof.Machine

open Sys2Proof Sys2Proof.Machine in
/-- Settles O39: a sample published channel by channel, the rounding, and then each guard by one evaluation. -/
theorem samplePublishesAndTheStationActs : Obligations.SamplePublishesAndTheStationActs := by
  unfold Obligations.SamplePublishesAndTheStationActs
  refine ⟨?_, ?_, fun num den hd => roundAway_nearest num hd, fun _ _ => ⟨rfl, rfl, rfl⟩, ?_, ?_, ?_, ?_, ?_⟩
  · intro s code first hrun taken judged cal
    refine ⟨fun st => ?_, fun hw => ?_, fun hw => ?_, fun hg => ?_, fun hg => ?_⟩
    · intro chan
      have hchan : chan = loadChan st := by cases st <;> rfl
      rw [hchan, exec_sample_load hrun]
      refine ⟨fun he => by simp [State.loadSample, he], fun he => ?_⟩
      intro x u
      have hu : (s.modStn st (·.publish (s.cal st.code) code)).judgeMark code (.loadOpen st) (.loadOver st) = u := by
        rw [State.judgeMark_eq]
        simp only [State.modStn, Station.publish, Channel.sample_eq, pushWindow_eq]
        rfl
      simp only [State.loadSample, he, if_true, hu]
    · rw [exec_sample_tension hrun, State.tensionSample, hw]
      rfl
    · rw [exec_sample_tension hrun]
      simp only [State.tensionSample, hw, if_true, State.judgeMark_eq, Channel.sample_eq]
      rfl
    · rw [exec_sample_pressure hrun, State.pressureSample, hg]
      rfl
    · rw [exec_sample_pressure hrun]
      simp only [State.pressureSample, hg, if_true, State.judgeMark_eq, Channel.sample_eq]
      rfl
  · intro cal code span c
    unfold convert
    exact if_congr Iff.rfl (clamp_eq (by omega) _) (clamp_eq (by omega) _)
  · intro s st x rating
    refine ⟨State.overloadSample_idle, fun c hc => ?_⟩
    intro limit n counted
    have hlimit : min (s.rating st) (c.pp + 50) = limit := by cases st <;> rfl
    refine ⟨fun h => ?_, fun hv hl hn => ?_, fun hv hl hn => ?_, State.overloadTrip_of_ctx hc⟩
    · refine (State.overloadSample_of_eval hc (Guard.eval_rest _ _ _ (valid_and_false ?_))).trans ?_
      · exact h.imp id fun hl => Nat.lt_succ_of_le (hlimit ▸ hl)
      · rw [hlimit]
        rfl
    · rw [← hlimit] at hl
      rw [State.overloadSample_of_eval hc (Guard.eval_counted _ (beq_iff_eq.2 hv) (decide_eq_true hl) hn), hlimit]
      rfl
    · rw [← hlimit] at hl
      rw [State.overloadSample_of_eval hc (Guard.eval_tripped _ (beq_iff_eq.2 hv) (decide_eq_true hl) hn), hlimit]
      rfl
  · intro s r hst hr w t level tight loose jamCount slackCount jams slacks slackSeen noted ended
    have hpay := (State.winchSample_paying hst hr).trans
      (State.paySample_eq (s := { s with winch := { w with run := some noted } }) hst rfl)
    exact ⟨fun hlen => hpay.trans (if_pos hlen), fun hlen =>
      ⟨fun hj => hpay.trans ((if_neg (Int.not_le.2 hlen)).trans (if_pos hj)),
        fun hj hl => hpay.trans ((if_neg (Int.not_le.2 hlen)).trans ((if_neg hj).trans (if_pos hl))),
        fun hj hl => hpay.trans ((if_neg (Int.not_le.2 hlen)).trans ((if_neg hj).trans (if_neg hl)))⟩⟩
  · intro s hst hr
    simp [State.winchSample, Winch.note_idle hr, hst]
  · intro s first hst g note v
    simp only [State.groutSample, hst, if_false, Grout.note_eq]
    rfl
  · intro s g top refusal overp r o
    refine ⟨fun h => State.refusalSample_rest (.inl h),
      fun h => ⟨State.refusalSample_rest (.inr h), State.overpressureSample_none h⟩,
      fun p hp => ⟨fun hst => ⟨fun h => ?_, fun hv hl => ⟨fun hn => ?_, fun hn => ?_⟩⟩, fun h => ?_,
        fun hv hl => ⟨fun hn => ?_, fun hn => ?_⟩⟩⟩
    · exact State.refusalSample_of_eval hp hst (Guard.eval_rest _ _ _ (valid_and_false h))
    · exact State.refusalSample_of_eval hp hst (Guard.eval_counted _ (beq_iff_eq.2 hv) (decide_eq_true hl) hn)
    · exact State.refusalSample_of_eval hp hst (Guard.eval_tripped _ (beq_iff_eq.2 hv) (decide_eq_true hl) hn)
    · exact State.overpressureSample_of_eval hp (Guard.eval_rest _ _ _ (valid_and_false h))
    · exact State.overpressureSample_of_eval hp (Guard.eval_counted _ (beq_iff_eq.2 hv) (decide_eq_true hl) hn)
    · exact State.overpressureSample_of_eval hp (Guard.eval_tripped _ (beq_iff_eq.2 hv) (decide_eq_true hl) hn)
end

section
namespace Sys2Proof.Machine

/-! ## The parts of the snapshots (R91 to R181) -/

section
variable {s : State}

/-- R157: the neighbour-rise guards that exist, listed by their points. -/
theorem Station.riseGuards_eq (x : Station) :
    x.riseGuards =
      ((List.range 16).filter fun k => x.ctx.any fun c => (c.baselines.getD k none).isSome).map fun k =>
        (k + 1, x.nbr.getD k .rest) := by
  rw [← List.filterMap_eq_map, List.filterMap_filter]
  refine congrArg (List.filterMap · _) (funext fun k => if_congr ?_ rfl rfl)
  cases x.ctx <;> rfl

/-- R162: what a station's test holds in a row, as a list that is empty or one reservation. -/
def Station.heldIn (x : Station) (n r : Nat) : List (List WField) :=
  match x.ctx with
  | none => []
  | some c => if c.shape = .full ∧ c.seatDone = false ∧ c.row = r then [[.u8 n, .u16 c.anchor, .u16 c.pp]] else []

theorem State.reservation_eq (st : Stn) (r : Nat) :
    s.reservation st r = ((s.stn st).heldIn (Stn.code st) r).flatten := by
  unfold State.reservation Station.heldIn
  cases (s.stn st).ctx with
  | none => rfl
  | some c =>
    by_cases h : c.shape = .full ∧ c.seatDone = false ∧ c.row = r
    · simp [h]
    · simp [h]

theorem Station.heldIn_cases (x : Station) (n r : Nat) : x.heldIn n r = [] ∨ ∃ f l, x.heldIn n r = [f :: l] := by
  unfold Station.heldIn
  split
  · exact .inl rfl
  · split
    · exact .inr ⟨_, _, rfl⟩
    · exact .inl rfl

/-- R162: one row with the reservations of the two stations. -/
theorem State.rowFields_eq (r : Nat) :
    s.rowFields r =
      [.u16 (s.ceiling r), .u16 (s.row r).locked, .u16 (s.row r).reserved,
        .u16 (s.ceiling r - ((s.row r).locked + (s.row r).reserved)),
        .u8 (s.s1.heldIn 1 r ++ s.s2.heldIn 2 r).length] ++ (s.s1.heldIn 1 r ++ s.s2.heldIn 2 r).flatten := by
  have h1 : s.reservation .s1 r = (s.s1.heldIn 1 r).flatten := State.reservation_eq .s1 r
  have h2 : s.reservation .s2 r = (s.s2.heldIn 2 r).flatten := State.reservation_eq .s2 r
  rcases s.s1.heldIn_cases 1 r with e1 | ⟨f1, l1, e1⟩ <;> rcases s.s2.heldIn_cases 2 r with e2 | ⟨f2, l2, e2⟩ <;>
    simp [State.rowFields, h1, h2, e1, e2]

/-- R134: a request is eligible where a port holds its anchor. -/
theorem State.eligible_eq (q : GroutReq) : s.eligible q = s.grout.ports.any fun p => p == some q.anchor := by
  simp [State.eligible, State.portOf, List.findIdx?_isSome]

/-- R172: the block of the oldest record: that of a next slot that is not ERASED, and else the first of the ring that is
not EMPTY. -/
theorem Archive.oldest_full {a : Archive} (h : (slotAt a.slots a.nextSlot).isSome = true) :
    a.oldest = some ((a.nextSlot - 1) / 128 + 1) := if_pos h

theorem Archive.oldest_ring {a : Archive} (h : slotAt a.slots a.nextSlot = none) :
    a.oldest =
      ((List.range 8).find? fun k => a.block (((a.nextSlot - 1) / 128 + 1 + k) % 8 + 1) != .empty).map fun k =>
        ((a.nextSlot - 1) / 128 + 1 + k) % 8 + 1 := by
  have hfull : a.isFull = false := by simp [Archive.isFull, h]
  simp only [Archive.oldest, hfull, Bool.false_eq_true, if_false, List.find?_map]
  rfl

/-- R172: a ring of EMPTY blocks has no oldest record. -/
theorem Archive.oldest_none {a : Archive} (h : slotAt a.slots a.nextSlot = none)
    (hempty : ∀ b, 1 ≤ b → b ≤ 8 → a.block b = .empty) : a.oldest = none := by
  rw [Archive.oldest_ring h, Option.map_eq_none_iff, List.find?_range_eq_none]
  intro k _
  have hblock : a.block (((a.nextSlot - 1) / 128 + 1 + k) % 8 + 1) = .empty := hempty _ (by omega) (by omega)
  simp [hblock]

theorem Archive.oldest_first {a : Archive} (h : slotAt a.slots a.nextSlot = none) {k : Nat} (hk : k < 8)
    (hfull : a.block (((a.nextSlot - 1) / 128 + 1 + k) % 8 + 1) ≠ .empty)
    (hfirst : ∀ j, j < k → a.block (((a.nextSlot - 1) / 128 + 1 + j) % 8 + 1) = .empty) :
    a.oldest = some (((a.nextSlot - 1) / 128 + 1 + k) % 8 + 1) := by
  have hfind : ((List.range 8).find? fun j => a.block (((a.nextSlot - 1) / 128 + 1 + j) % 8 + 1) != .empty) = some k :=
    List.find?_range_eq_some.2 ⟨bne_iff_ne.2 hfull, List.mem_range.2 hk, fun j hj => by simp [hfirst j hj]⟩
  rw [Archive.oldest_ring h, hfind]
  rfl

/-- R178: a level compared with the floor, as one test on numbers. -/
theorem decide_le_eq_ble (a b : Nat) : decide (a ≤ b) = a.ble b := by
  rw [Bool.eq_iff_iff, decide_eq_true_iff, Nat.ble_eq]

end

end Sys2Proof.Machine

open Sys2Proof Sys2Proof.Machine in
/-- Settles O21: each paged query answers its snapshot, and each snapshot, part by part, shows the fields of its rule. -/
theorem pagedQueriesAnswerTheirSnapshot : Obligations.PagedQueriesAnswerTheirSnapshot := by
  unfold Obligations.PagedQueriesAnswerTheirSnapshot
  refine ⟨?_, ?_, ?_, ?_, ?_, ?_⟩
  · intro tag p s answers
    refine ⟨?_, ?_, ?_, ?_, ?_, ?_, ?_, ?_, ?_, ?_, ?_, ?_, ?_, ?_, ?_⟩
    all_goals exact fun hs => Serves.of_actOf rfl hs rfl
  · intro s t bit guard rises
    have hguard (active : Bool) (g : Guard) (n : Nat) : guardFields active g n = guard active g n := by
      simp only [guardFields, WField.flag_eq, guard]
      cases g.last <;> rfl
    have hrises (x : Station) :
        WField.list (fun p : Nat × Guard => .u8 p.1 :: guard true p.2 s.site.settings.nNeighbour) x.riseGuards =
          rises x := by
      simp [WField.list, Station.riseGuards_eq, List.flatMap_map, rises, t]
    simp only [guardList, hguard, hrises]
    rfl
  · intro s r x ceiling holds held
    exact State.rowFields_eq r
  · intro s bit one e emergency force pump release seat paying motor
    have hseat (x : Station) :
        [WField.either x.seat.isSome, .u8 ((x.seat.map fun p => secondsLeft p.total p.samples).getD 0)] = seat x := by
      simp only [seat]
      cases x.seat <;> rfl
    simp only [outputFields, hseat, pumpFields, WField.flag_eq]
    simp only [List.append_assoc]
    rfl
  · intro s one mark level channel encoder
    have hmark (m : Option Mark) : markField m = mark m := by
      cases m with
      | none => rfl
      | some m => cases m <;> rfl
    refine ⟨Config.drumDirHigh s.draws, ?_⟩
    simp only [inputFields, Channel.fields, Encoder.fields, hmark]
    rfl
  · intro s bit one opt time word signed level rank group kind runEnd passEnd valve e w g t l
    have hopt {α : Type} (f : α → List WField) : WField.opt f = fun o => opt (o.map f) := by
      funext o
      cases o <;> rfl
    have hflag (b : Bool) : WField.flag b = bit b := WField.flag_eq b
    have hgroup (k : Nat) {flags : List Flag} (h : (Flag.all.filter fun f => f.group == k) = flags) :
        groupFields s k = group k flags := by
      simp only [groupFields, h, hflag]
      rfl
    have hwords (l : List Nat) : WField.list (fun a => [.u16 a]) l = .u8 l.length :: l.map .u16 := by
      simp [WField.list, List.map_eq_flatMap]
    refine ⟨?_, ?_, ?_, ?_, ⟨Archive.oldest_full, Archive.oldest_none, fun hnext k hk => Archive.oldest_first hnext hk, ?_⟩,
      ?_, rfl, ?_⟩
    · have hlines : s.faults.emergency.estop.toNat + 2 * s.faults.emergency.wallTrip.toNat =
          (if e.estop then 1 else 0) + if e.wallTrip then 2 else 0 := by
        simp only [e]
        cases s.faults.emergency.estop <;> cases s.faults.emergency.wallTrip <;> rfl
      simp only [faultFields, List.flatMap_cons, List.flatMap_nil, List.append_nil, hflag, hlines, hgroup 1 rfl,
        hgroup 2 rfl, hgroup 3 rfl, hgroup 4 rfl, hgroup 5 rfl, hgroup 6 rfl, List.append_assoc]
      delta recordFields
      simp only [hopt]
      rfl
    · delta winchFields runFields
      simp only [hopt, hflag]
      rfl
    · delta groutFields passFields
      simp only [hopt, hflag, hwords, State.eligible_eq, word, Option.map_map, List.append_assoc,
        List.cons_append, List.nil_append]
      rfl
    · intro k hk p rise
      simp only [State.pointFields, Station.riseFields, hopt, hflag]
      rfl
    · delta archiveFields Archive.blockFields
      simp only [hopt, hflag, ← List.countP_eq_length_filter]
      rfl
    · simp only [limitFields, hflag]
      rfl
    · intro levelOf waits calls ranked shown
      delta noticeSetFields noticeFields
      simp only [hopt, hflag, WField.list, State.attn, decide_le_eq_ble]
      rfl
end

section
namespace Sys2Proof.Machine

/-! ## The board of the Guard Unit (R98 to R106) -/

/-- R98, R100, R106: the flags and TRIP, with what they are judged from: the phase and the two masks. -/
structure Board where
  phase : Phase
  det : BitVec 20
  comb : BitVec 6
  trip : Bool
  combMask : BitVec 20
  tripMask : BitVec 6

/-- The board of a state. -/
def State.board (s : State) : Board where
  phase := s.phase
  det := s.faults.det
  comb := s.faults.comb
  trip := s.faults.trip
  combMask := s.site.limits.combMask
  tripMask := s.site.limits.tripMask

/-- R100, R101: a set flag that is not masked has its combined flag set. -/
def Board.FlagsSound (b : Board) : Prop :=
  ∀ f ∈ Flag.all, b.det.getLsbD f.bit = true → b.combMask.getLsbD f.bit = false → b.comb.getLsbD (f.group - 1) = true

/-- R106: what the combined flags and the trip mask ask of TRIP. -/
def Board.line (b : Board) : Bool := decide (b.comb &&& ~~~b.tripMask ≠ 0#6)

/-- R106: TRIP judged again; outside running it stays as it is. -/
def Board.judged (b : Board) : Board := if b.phase = .running then { b with trip := b.line } else b

/-- R107: outside running TRIP is deasserted. -/
def Board.TripRests (b : Board) : Prop := b.phase ≠ .running → b.trip = false

/-- R106, R107: TRIP stands as it is judged. -/
def Board.TripSound (b : Board) : Prop := (b.phase = .running → b.trip = b.line) ∧ b.TripRests

/-- The two invariants, each kept under a condition of its own, so that one walk over the commands serves both. -/
def Board.Sound (fl tr : Prop) (b : Board) : Prop := (fl → b.FlagsSound) ∧ (tr → b.TripSound)

/-- What a change of the flags or the masks leaves, before TRIP is judged again. -/
def Board.Unjudged (fl tr : Prop) (b : Board) : Prop := (fl → b.FlagsSound) ∧ (tr → b.TripRests)

theorem State.flagsSound_iff (s : State) : s.flagsSound ↔ s.board.FlagsSound := Iff.rfl

theorem State.tripSound_iff (s : State) : s.tripSound ↔ s.board.TripSound := Iff.rfl

section
variable {fl tr : Prop} {b : Board}

/-- The flags sound after a change of the board, and TRIP still as it was. -/
theorem Board.Sound.unjudged {c : Board} (h : b.Sound fl tr) (hf : b.FlagsSound → c.FlagsSound)
    (hp : c.phase = b.phase := by rfl) (ht : c.trip = b.trip := by rfl) : c.Unjudged fl tr := by
  obtain ⟨hflags, htrip⟩ := h
  refine ⟨fun k => hf (hflags k), fun k hc => ?_⟩
  obtain ⟨-, hrests⟩ := htrip k
  exact ht.trans (hrests (hp ▸ hc))

theorem Board.Unjudged.judged (h : b.Unjudged fl tr) : b.judged.Sound fl tr := by
  obtain ⟨hflags, hrests⟩ := h
  unfold Board.judged
  split
  · next hrun => exact ⟨hflags, fun _ => ⟨fun _ => rfl, fun hp => absurd hrun hp⟩⟩
  · next hrun => exact ⟨hflags, fun k => ⟨fun hp => absurd hp hrun, hrests k⟩⟩

end

/-! ## The flag words bit by bit (R98, R103) -/

theorem Flag.bit_lt (f : Flag) : f.bit < 20 := by
  cases f with
  | overload st | loadOpen st | loadOver st | encoderRange st => cases st <;> decide
  | _ => decide

theorem Flag.bit_injective {f g : Flag} (h : f.bit = g.bit) : f = g := by
  have hall : ∀ f ∈ Flag.all, ∀ g ∈ Flag.all, f.bit = g.bit → f = g := by decide
  exact hall f f.mem_all g g.mem_all h

theorem Flag.group_sub_lt (f : Flag) : f.group - 1 < 6 := by
  have := f.group_range
  omega

/-- R103: a combined flag that is cleared is that of its group alone. -/
theorem comb_cleared_iff {comb : BitVec 6} {f : Flag} {g : Nat} (hg : 1 ≤ g) :
    (comb &&& ~~~BitVec.twoPow 6 (g - 1)).getLsbD (f.group - 1) = true ↔
      comb.getLsbD (f.group - 1) = true ∧ f.group ≠ g := by
  have hlt := f.group_sub_lt
  have hsame : f.group - 1 = g - 1 ↔ f.group = g := by
    have := f.group_range
    omega
  simp [hlt, hsame]

section
variable {fl tr : Prop} {s : State}

theorem State.judgeTrip_board (s : State) : s.judgeTrip.board = s.board.judged := by
  by_cases hrun : s.phase = .running
  · have hb : s.board.judged = { s.board with trip := s.tripJudged } := if_pos hrun
    rw [hb]
    by_cases hsame : s.tripJudged = s.faults.trip
    · rw [State.judgeTrip_same hsame, hsame]
      rfl
    · cases hline : s.tripJudged with
      | true =>
        rw [State.judgeTrip_asserted hrun hline (by simpa [hline] using Ne.symm hsame)]
        obtain ⟨a, b, g, hforced⟩ := State.applyForces_shape { s with faults := { s.faults with trip := true } }
        obtain ⟨a', b', w, g', n, hhanded⟩ := State.handCause_shape
          { s with faults := { s.faults with trip := true }, s1 := a, s2 := b, grout := g } .trip .trip
        simp only [State.assertTrip, hforced, hhanded]
        rfl
      | false =>
        rw [State.judgeTrip_deasserted hrun hline (by simpa [hline] using Ne.symm hsame)]
        obtain ⟨a, b, g, hdropped⟩ := State.dropCause_shape { s with faults := { s.faults with trip := false } } .trip
        obtain ⟨r, g', n, hserved⟩ := State.arbiter_shape
          { s with faults := { s.faults with trip := false }, s1 := a, s2 := b, grout := g }
        simp only [State.deassertTrip, hdropped, hserved]
        rfl
  · have hb : s.board.judged = s.board := if_neg hrun
    rw [hb, State.judgeTrip, if_pos hrun]

theorem State.judgeTrip_sound (h : s.board.Unjudged fl tr) : s.judgeTrip.board.Sound fl tr :=
  s.judgeTrip_board ▸ h.judged

/-- R99, R100: a latched flag that is not masked brings its combined flag with it. -/
theorem State.latched_flagsSound (h : s.board.FlagsSound) (f : Flag) : (s.latched f).board.FlagsSound := by
  intro g hg hdet hmask
  have hdet' : s.flag g = true ∨ g = f := by
    have hbit : s.flag g = true ∨ g.bit = f.bit := by
      simpa [State.board, State.latched, State.flag, g.bit_lt] using hdet
    exact hbit.imp_right Flag.bit_injective
  have hold : s.flag g = true → s.faults.comb.getLsbD (g.group - 1) = true := fun hset => h g hg hset hmask
  show (s.latched f).faults.comb.getLsbD (g.group - 1) = true
  have hlt := g.group_sub_lt
  rcases hdet' with hset | rfl
  · unfold State.latched
    dsimp only
    split
    · exact hold hset
    · simp [hold hset]
  · have hoff : s.site.limits.combMask.getLsbD g.bit = false := hmask
    simp [State.latched, hoff, hlt]

@[simp] theorem State.raise_sound {f : Flag} (h : s.board.Sound fl tr) : (s.raise f).board.Sound fl tr := by
  have hlatched : (s.latched f).board.Unjudged fl tr := h.unjudged fun hf => State.latched_flagsSound hf f
  cases hlive : s.groupLive f.group with
  | false => rwa [State.raise_dead hlive]
  | true =>
    rw [State.raise_live hlive]
    split <;> exact State.judgeTrip_sound hlatched

/-- R102: clearing a flag asks for no combined flag. -/
@[simp] theorem State.clearFlag_sound {f : Flag} (h : s.board.Sound fl tr) : (s.clearFlag f).board.Sound fl tr := by
  obtain ⟨hflags, htrip⟩ := h
  refine ⟨fun k g hg hdet hmask => hflags k g hg ?_ hmask, htrip⟩
  have hleft : (s.faults.det &&& ~~~BitVec.twoPow 20 f.bit).getLsbD g.bit = true := hdet
  rw [BitVec.getLsbD_and, Bool.and_eq_true] at hleft
  exact hleft.1

/-- R103: a combined flag is cleared where no flag of its group is set. -/
theorem State.clearCombined_sound {g : Nat} (h : s.board.Sound fl tr) (hg : 1 ≤ g)
    (hclear : ∀ f ∈ Flag.all, f.group = g → s.flag f = false) : (s.clearCombined g).board.Sound fl tr := by
  refine State.judgeTrip_sound (h.unjudged fun hflags f hf hdet hmask => ?_)
  refine (comb_cleared_iff hg).2 ⟨hflags f hf hdet hmask, fun hfg => ?_⟩
  have hset : s.flag f = true := hdet
  simp [hclear f hf hfg] at hset

/-- R93: a group cleared with its flags. -/
theorem State.clearGroupFlags_unjudged {g : Nat} (h : s.board.Unjudged fl tr) (h1 : 1 ≤ g) (h6 : g ≤ 6) :
    (s.clearGroupFlags g).board.Unjudged fl tr := by
  obtain ⟨hflags, hrests⟩ := h
  refine ⟨fun k f hf hdet hmask => ?_, hrests⟩
  obtain ⟨hset, hout⟩ : s.faults.det.getLsbD f.bit = true ∧ (groupBits g).getLsbD f.bit = false := by
    simpa [State.board, State.clearGroupFlags, f.bit_lt] using hdet
  refine (comb_cleared_iff h1).2 ⟨hflags k f hf hset hmask, fun hfg => ?_⟩
  have hin := (groupBits_getLsbD g h6 f.bit f.bit_lt).2 ⟨f, hf, hfg, rfl⟩
  simp [hin] at hout

/-- R101: under new masks the combined flags are judged afresh from the flags. -/
theorem State.applyMasks_sound (h : tr → s.board.TripRests) : s.applyMasks.board.Sound fl tr := by
  obtain ⟨comb, happlied, hbits⟩ := s.applyMasks_combined
  rw [happlied]
  refine State.judgeTrip_sound ⟨fun _ f hf hdet hmask => ?_, h⟩
  obtain ⟨h1, h6⟩ := f.group_range
  exact (hbits f.group h1 h6).2 (.inr ⟨f, hf, rfl, hdet, hmask⟩)

end

end Sys2Proof.Machine
end

section
namespace Sys2Proof.Machine

/-! ## Operations that leave the board as it is

`(rfl)` has simp take each of the first equations as a rewriting step of its own, which it can record where it discharges
the hypothesis of a rule about raises. -/

section
variable (s : State) (st : Stn)

@[simp] theorem State.setStn_board (x : Station) : (s.setStn st x).board = s.board := by cases st <;> rfl

@[simp] theorem State.modStn_board (f : Station → Station) : (s.modStn st f).board = s.board := s.setStn_board st _

@[simp] theorem State.modCtx_board (f : TestCtx → TestCtx) : (s.modCtx st f).board = s.board := s.modStn_board st _

@[simp] theorem State.modEntry_board (id : Nat) (f : Entry → Entry) : (s.modEntry id f).board = s.board := (rfl)

@[simp] theorem State.modRow_board (r : Nat) (f : Row → Row) : (s.modRow r f).board = s.board := (rfl)

@[simp] theorem State.modGrout_board (f : Grout → Grout) : (s.modGrout f).board = s.board := (rfl)

@[simp] theorem State.notice_board (k : NoticeKind) (o : Origin) (a : Option Nat) (d : Nat) :
    (s.notice k o a d).board = s.board := (rfl)

@[simp] theorem State.endCondition_board (k : NoticeKind) (o : Origin) : (s.endCondition k o).board = s.board := (rfl)

@[simp] theorem State.setLine_board (line : EmLine) (high : Bool) : (s.setLine line high).board = s.board := by
  cases line <;> rfl

@[simp] theorem State.withGrout_board (g : Grout) : ({ s with grout := g } : State).board = s.board := (rfl)

@[simp] theorem State.withWinch_board (w : Winch) : ({ s with winch := w } : State).board = s.board := (rfl)

@[simp] theorem State.withWall_board (w : Wall) : ({ s with wall := w } : State).board = s.board := (rfl)

@[simp] theorem State.withArchive_board (a : Archive) : ({ s with archive := a } : State).board = s.board := (rfl)

@[simp] theorem State.withLink_board (l : Link) : ({ s with link := l } : State).board = s.board := (rfl)

/-! Causes, runs, passes and the forces. -/

@[simp] theorem State.applyForces_board : s.applyForces.board = s.board := by
  obtain ⟨a, b, g, h⟩ := s.applyForces_shape
  rw [h]
  rfl

@[simp] theorem State.hold_board : (s.hold st).board = s.board := by
  obtain ⟨a, b, n, h⟩ := s.hold_shape st
  rw [h]
  rfl

@[simp] theorem State.addCause_board (c : Cause) : (s.addCause c st).board = s.board := by
  obtain ⟨a, b, n, h⟩ := s.addCause_shape c st
  rw [h]
  rfl

@[simp] theorem State.thawCauses_board : (s.thawCauses st).board = s.board := s.modCtx_board st _

@[simp] theorem State.takeDecision_board (d : Decision) : (s.takeDecision st d).board = s.board := s.modStn_board st _

@[simp] theorem State.endRun_board (r : RunEnd) (c : Option HaltCause) : (s.endRun r c).board = s.board := by
  obtain ⟨w, h⟩ := s.endRun_shape r c
  rw [h]
  rfl

@[simp] theorem State.addPassCause_board (c : Cause) : (s.addPassCause c).board = s.board := by
  obtain ⟨g, h⟩ := s.addPassCause_shape c
  rw [h]
  rfl

@[simp] theorem State.handCause_board (c : Cause) (k : HaltCause) : (s.handCause c k).board = s.board := by
  obtain ⟨a, b, w, g, n, h⟩ := s.handCause_shape c k
  rw [h]
  rfl

@[simp] theorem State.dropCause_board (c : Cause) : (s.dropCause c).board = s.board := by
  obtain ⟨a, b, g, h⟩ := s.dropCause_shape c
  rw [h]
  rfl

@[simp] theorem State.arbiter_board : s.arbiter.board = s.board := by
  obtain ⟨r, g, n, h⟩ := s.arbiter_shape
  rw [h]
  rfl

@[simp] theorem State.completePass_board : s.completePass.board = s.board := by
  obtain ⟨r, g, n, h⟩ := s.completePass_shape
  rw [h]
  rfl

@[simp] theorem State.endPass_board (e : PassEnd) : (s.endPass e).board = s.board := by
  obtain ⟨r, g, n, h⟩ := s.endPass_shape e
  rw [h]
  rfl

/-- R113: the emergency state is no part of what TRIP is judged from. -/
@[simp] theorem State.setEmergency_board (line : EmLine) : (s.setEmergency line).board = s.board := by
  unfold State.setEmergency
  dsimp only
  split
  · rw [State.handCause_board, State.applyForces_board]
    rfl
  · rfl

@[simp] theorem State.clearEmergency_board : s.clearEmergency.board = s.board := by
  unfold State.clearEmergency
  dsimp only
  rw [State.arbiter_board, State.endCondition_board, State.dropCause_board]
  rfl

/-! The stressing stations. -/

@[simp] theorem State.beginStep_board : (s.beginStep st).board = s.board := by
  unfold State.beginStep
  split
  · rfl
  · dsimp only
    split <;> simp

@[simp] theorem State.restartStep_board : (s.restartStep st).board = s.board := by
  unfold State.restartStep
  split
  · rfl
  · split <;> simp

@[simp] theorem State.completeStep_board : (s.completeStep st).board = s.board := by
  unfold State.completeStep
  split
  · rfl
  · dsimp only
    split <;> simp

@[simp] theorem State.releaseDone_board : (s.releaseDone st).board = s.board := by
  unfold State.releaseDone
  dsimp only
  split
  · simp
  · split
    · split <;> simp
    · simp

@[simp] theorem State.endTest_board : (s.endTest st).board = s.board := by
  unfold State.endTest
  dsimp only
  split
  · rfl
  · split <;> simp

@[simp] theorem State.seatEvent_board : (s.seatEvent st).board = s.board := by
  unfold State.seatEvent
  split
  · rfl
  · dsimp only
    split
    · simp
    · split <;> simp

@[simp] theorem State.holdEnd_board : (s.holdEnd st).board = s.board := by
  unfold State.holdEnd
  dsimp only
  split
  · simp
  · split
    · simp
    · simp
    · split <;> simp
    all_goals simp

@[simp] theorem State.creepReading_board : (s.creepReading st).board = s.board := by
  unfold State.creepReading
  dsimp only
  split
  · rfl
  · split <;> simp

@[simp] theorem State.holdSample_board : (s.holdSample st).board = s.board := by
  unfold State.holdSample
  split
  · rfl
  · dsimp only
    split
    · split <;> split <;> simp
    · split <;> simp
    · split <;> simp
    · rfl

@[simp] theorem State.targetReached_board : (s.targetReached st).board = s.board := by simp [State.targetReached]

@[simp] theorem State.rampSample_board (c : TestCtx) (m : Motion) : (s.rampSample st c m).board = s.board := by
  unfold State.rampSample
  dsimp only
  split <;> split
  any_goals split
  all_goals simp

@[simp] theorem State.releaseSample_board (c : TestCtx) : (s.releaseSample st c).board = s.board := by
  unfold State.releaseSample
  dsimp only
  split
  · split <;> simp
  · split <;> simp

@[simp] theorem State.endStroke_board : (s.endStroke st).board = s.board := by
  unfold State.endStroke
  dsimp only
  split <;> simp

@[simp] theorem State.stationSample_board : (s.stationSample st).board = s.board := by
  unfold State.stationSample
  dsimp only
  split
  · rfl
  · split
    · simp
    · split <;> simp

@[simp] theorem State.startTest_board (e : Entry) (slot : Nat) (p : Plan) : (s.startTest st e slot p).board = s.board := by
  unfold State.startTest
  dsimp only
  split <;> simp

@[simp] theorem State.rebase_board : (s.rebase st).board = s.board := by
  unfold State.rebase
  split <;> simp

@[simp] theorem State.riseScan_board : (s.riseScan st).board = s.board := by
  unfold State.riseScan
  dsimp only
  split <;> simp

/-! Self-tests, the winch and the manifold. -/

@[simp] theorem State.startSelftest_board (g : TestedGuard) : (s.startSelftest g).board = s.board := by
  cases g <;> simp [State.startSelftest]

@[simp] theorem State.leaveSelftest_board (passed : Bool) (g : TestedGuard) :
    (s.leaveSelftest passed g).board = s.board := by
  cases g <;> simp [State.leaveSelftest]

@[simp] theorem State.refusalSample_board : s.refusalSample.board = s.board := by
  unfold State.refusalSample
  split
  · dsimp only
    split <;> simp
  · rfl

@[simp] theorem State.paySample_board : s.paySample.board = s.board := by
  unfold State.paySample
  dsimp only
  split
  · simp
  · split
    · simp
    · split <;> simp

@[simp] theorem State.winchTrip_board (r : RunEnd) : (s.winchTrip r).board = s.board := by
  simp [State.winchTrip, State.noteWinch_eq]

@[simp] theorem State.completeRun_board : s.completeRun.board = s.board := by
  unfold State.completeRun
  split <;> rfl

@[simp] theorem State.closeAnchor_board (e : Entry) : (s.closeAnchor e).board = s.board := by
  unfold State.closeAnchor
  dsimp only
  split <;> rfl

@[simp] theorem State.drainSelector_board (sel : Nat) : (s.drainSelector sel).board = s.board := by
  unfold State.drainSelector
  split <;> rfl

@[simp] theorem State.writeSettings_board (t : Settings) : (s.writeSettings t).board = s.board := by
  rw [s.writeSettings_eq]
  rfl

@[simp] theorem State.resumeLink_board : s.resumeLink.board = s.board := by
  simp [State.resumeLink]

/-! The site minute. -/

@[simp] theorem visitPost_board (acc : State × List Nat) (id : Nat) : (visitPost acc id).1.board = acc.1.board := by
  unfold visitPost
  dsimp only
  split
  · rfl
  · split
    · rfl
    · split
      · rfl
      · split
        · rfl
        · exact State.arbiter_board _

theorem foldl_visitPost_board (ids : List Nat) (acc : State × List Nat) :
    (ids.foldl visitPost acc).1.board = acc.1.board := by
  induction ids generalizing acc with
  | nil => rfl
  | cons id rest ih => rw [List.foldl_cons, ih, visitPost_board]

@[simp] theorem visitCure_board (id : Nat) : (visitCure s id).board = s.board := by
  unfold visitCure
  split
  · rfl
  · split <;> rfl

theorem foldl_visitCure_board (ids : List Nat) (s : State) : (ids.foldl visitCure s).board = s.board := by
  induction ids generalizing s with
  | nil => rfl
  | cons id rest ih => rw [List.foldl_cons, ih, visitCure_board]

@[simp] theorem State.judgeWaiting_board (w : List Nat) : (s.judgeWaiting w).board = s.board := by
  unfold State.judgeWaiting
  cases w with
  | nil => rfl
  | cons id rest => dsimp only; split <;> rfl

@[simp] theorem State.siteMinute_board : s.siteMinute.board = s.board := by
  unfold State.siteMinute State.scheduler
  dsimp only
  split
  · rw [State.judgeWaiting_board, foldl_visitCure_board, foldl_visitPost_board, State.withGrout_board]
  · rfl

@[simp] theorem State.setTime_board (time : Nat) : (s.setTime time).board = s.board := by
  unfold State.setTime
  dsimp only
  split
  · exact State.siteMinute_board _
  · rfl

/-! Resets. -/

@[simp] theorem State.readLines_board : s.readLines.board = s.board := by
  unfold State.readLines
  split <;> rfl

end

end Sys2Proof.Machine
end

section
namespace Sys2Proof.Machine

/-! ## Operations that may raise a fault -/

section
variable {fl tr : Prop} {s : State} {st : Stn}

/-- R111: a self-test that fails raises SELFTEST_FAILED. -/
@[simp] theorem State.endSelftest_sound {g : TestedGuard} {tripAt : Option Nat} (h : s.board.Sound fl tr) :
    (s.endSelftest g tripAt).board.Sound fl tr := by
  unfold State.endSelftest
  extract_lets passed record faults recorded left told judged
  have htold : told.board = s.board := State.leaveSelftest_board recorded passed g
  have hjudged : judged.board.Sound fl tr := by
    simp only [judged]
    split <;> simp [htold, h]
  split <;> simp [hjudged]

@[simp] theorem State.selfNext_sound {g : TestedGuard} {self : SelfTest} {r : Option Bool} (h : s.board.Sound fl tr) :
    (s.selfNext g self r).board.Sound fl tr := by
  cases r with
  | none => exact h
  | some _ => exact State.endSelftest_sound h

@[simp] theorem State.selfLoad_sound (h : s.board.Sound fl tr) : (s.selfLoad st).board.Sound fl tr := by
  unfold State.selfLoad
  split <;> simp [h]

@[simp] theorem State.selfPressure_sound (h : s.board.Sound fl tr) : s.selfPressure.board.Sound fl tr := by
  unfold State.selfPressure
  split <;> simp [h]

@[simp] theorem State.selfTension_sound (h : s.board.Sound fl tr) : s.selfTension.board.Sound fl tr := by
  unfold State.selfTension
  split <;> simp [h]

@[simp] theorem State.overloadTrip_sound (h : s.board.Sound fl tr) : (s.overloadTrip st).board.Sound fl tr := by
  simp [State.overloadTrip, h]

@[simp] theorem State.overloadSample_sound (h : s.board.Sound fl tr) : (s.overloadSample st).board.Sound fl tr := by
  unfold State.overloadSample
  dsimp only
  split
  · exact h
  · split <;> simp [h]

@[simp] theorem State.overpressureTrip_sound (h : s.board.Sound fl tr) : s.overpressureTrip.board.Sound fl tr := by
  simp [State.overpressureTrip, h]

@[simp] theorem State.overpressureSample_sound (h : s.board.Sound fl tr) : s.overpressureSample.board.Sound fl tr := by
  unfold State.overpressureSample
  dsimp only
  split
  · split <;> simp [h]
  · exact h

@[simp] theorem State.groutSample_sound {guardFirst : Bool} (h : s.board.Sound fl tr) :
    (s.groutSample guardFirst).board.Sound fl tr := by
  unfold State.groutSample
  dsimp only
  split
  · simp [h]
  · split <;> simp [h]

@[simp] theorem State.winchSample_sound (h : s.board.Sound fl tr) : s.winchSample.board.Sound fl tr := by
  unfold State.winchSample
  dsimp only
  split <;> simp [h]

@[simp] theorem State.judgeMark_sound {code : Nat} {isOpen isOver : Flag} (h : s.board.Sound fl tr) :
    (s.judgeMark code isOpen isOver).board.Sound fl tr := by
  unfold State.judgeMark
  split <;> simp [h]

@[simp] theorem State.loadSample_sound {code : Nat} {guardFirst : Bool} (h : s.board.Sound fl tr) :
    (s.loadSample st code guardFirst).board.Sound fl tr := by
  unfold State.loadSample
  dsimp only
  split
  · split
    · simp [h]
    · split <;> simp [h]
  · exact h

@[simp] theorem State.tensionSample_sound {code : Nat} (h : s.board.Sound fl tr) :
    (s.tensionSample code).board.Sound fl tr := by
  unfold State.tensionSample
  split <;> simp [State.formPaid, h]

@[simp] theorem State.pressureSample_sound {code : Nat} {guardFirst : Bool} (h : s.board.Sound fl tr) :
    (s.pressureSample code guardFirst).board.Sound fl tr := by
  unfold State.pressureSample
  split <;> simp [h]

@[simp] theorem State.encoderEdge_sound {line : EncLine} (h : s.board.Sound fl tr) :
    (s.encoderEdge st line).board.Sound fl tr := by
  unfold State.encoderEdge State.encoderMoves
  extract_lets enc moved invert n
  have hmoved : moved.board.Sound fl tr := by simpa [moved] using h
  split
  · split <;> simp [hmoved]
  · exact hmoved

@[simp] theorem State.strayPulse_sound (h : s.board.Sound fl tr) : s.strayPulse.board.Sound fl tr := by
  unfold State.strayPulse
  dsimp only
  split <;> simp [h]

@[simp] theorem State.wallScan_sound (h : s.board.Sound fl tr) : s.wallScan.board.Sound fl tr := by
  unfold State.wallScan
  dsimp only
  split <;> split <;> simp [h]

@[simp] theorem State.appendTorn_sound {anchor number slot : Nat} (h : s.board.Sound fl tr) :
    (s.appendTorn anchor number slot).board.Sound fl tr := by
  simp [State.appendTorn, h]

@[simp] theorem State.watchExpires_sound {window : Nat} (h : s.board.Sound fl tr) :
    (s.watchExpires window).board.Sound fl tr := by
  simp [State.watchExpires, h]

/-- R92, R93: the flags of a disabled station go with its combined flag, and TRIP is judged on what is left. -/
@[simp] theorem State.setStations_sound {e : Enables} (h : s.board.Sound fl tr) : (s.setStations e).board.Sound fl tr := by
  unfold State.setStations
  extract_lets was site written s1Off s2Off wOff gOff judged
  have h0 : written.board.Unjudged fl tr := h.unjudged id
  have h1 : s1Off.board.Unjudged fl tr := by
    simp only [s1Off]
    split
    · exact State.clearGroupFlags_unjudged h0 (by decide) (by decide)
    · exact h0
  have h2 : s2Off.board.Unjudged fl tr := by
    simp only [s2Off]
    split
    · exact State.clearGroupFlags_unjudged h1 (by decide) (by decide)
    · exact h1
  have h3 : wOff.board.Unjudged fl tr := by
    simp only [wOff]
    split
    · exact State.clearGroupFlags_unjudged h2 (by decide) (by decide)
    · exact h2
  have h4 : gOff.board.Unjudged fl tr := by
    simp only [gOff]
    split
    · exact State.clearGroupFlags_unjudged h3 (by decide) (by decide)
    · exact h3
  have hjudged : judged.board.Sound fl tr := State.judgeTrip_sound h4
  split
  · rwa [State.arbiter_board]
  · exact hjudged

end

/-! ## Resets and start-up -/

section
variable {fl tr : Prop} {s : State}

/-- What a reset leaves of the board: the flags sound, and TRIP deasserted. -/
def Board.Reset (fl tr : Prop) (b : Board) : Prop := (fl → b.FlagsSound) ∧ (tr → b.trip = false)

theorem Board.Sound.cut {b : Board} (h : s.board.Sound fl tr) (hb : b = { s.board with trip := false }) :
    b.Reset fl tr := by
  obtain ⟨hflags, -⟩ := h
  subst hb
  exact ⟨hflags, fun _ => rfl⟩

/-- Outside running a sound board has TRIP deasserted. -/
theorem Board.Sound.reset_of_stopped (h : s.board.Sound fl tr) (hp : s.phase ≠ .running) : s.board.Reset fl tr := by
  obtain ⟨hflags, htrip⟩ := h
  exact ⟨hflags, fun k => (htrip k).2 hp⟩

theorem Board.Reset.sound {b : Board} (h : b.Reset fl tr) (hp : b.phase ≠ .running) : b.Sound fl tr := by
  obtain ⟨hflags, htrip⟩ := h
  exact ⟨hflags, fun k => ⟨fun hrun => absurd hrun hp, fun _ => htrip k⟩⟩

/-- R104: a POWER or PIN reset clears every flag, and a COMMAND reset none. -/
theorem State.clearByCause_reset (h : s.board.Reset fl tr) : s.clearByCause.board.Reset fl tr := by
  obtain ⟨hflags, htrip⟩ := h
  have cleared (u : State) (hdet : u.faults.det = 0#20) : u.board.FlagsSound := fun f _ hset _ => by
    simp [State.board, hdet] at hset
  unfold State.clearByCause
  dsimp only
  split <;> split
  · exact ⟨fun _ => cleared _ rfl, htrip⟩
  · exact ⟨fun _ => cleared _ rfl, htrip⟩
  · exact ⟨hflags, htrip⟩
  · exact ⟨hflags, htrip⟩

theorem State.clearByCause_phase (s : State) : s.clearByCause.phase = s.phase := by
  unfold State.clearByCause
  dsimp only
  split <;> split <;> rfl

/-- R199, R200: start-up begins with TRIP deasserted, and a lost clock raises its flag. -/
theorem State.beginStartUp_sound (h : s.board.Reset fl tr) : s.beginStartUp.board.Sound fl tr := by
  unfold State.beginStartUp
  extract_lets gathered started cleared cut emptied told clocked
  have hphase : told.phase ≠ .running := by
    have hp : cleared.phase = .startUp := started.clearByCause_phase
    simp [told, emptied, hp]
  have hstarted : started.board.Reset fl tr := h
  have htold : told.board.Sound fl tr := Board.Reset.sound (State.clearByCause_reset hstarted) hphase
  show clocked.board.Sound fl tr
  simp only [clocked]
  split
  · unfold State.loseClock
    exact State.raise_sound (s := { told with site := { told.site with clock := 0, clockValid := false } }) htold
  · exact htold

theorem State.leaveReset_sound (h : s.board.Reset fl tr) : s.leaveReset.board.Sound fl tr := by
  unfold State.leaveReset
  split
  · exact Board.Reset.sound (b := ({ s with phase := .inReset } : State).board) h (by simp [State.board])
  · exact State.beginStartUp_sound h

@[simp] theorem State.commandReset_sound (h : s.board.Sound fl tr) : s.commandReset.board.Sound fl tr :=
  State.leaveReset_sound (h.cut rfl)

@[simp] theorem State.finishErase_sound {ok : Bool} (h : s.board.Sound fl tr) : (s.finishErase ok).board.Sound fl tr := by
  unfold State.finishErase
  split
  · exact h
  · dsimp only
    split <;> simp [h]

/-- R106, R200: the part runs with TRIP as it is judged. -/
theorem State.endStartUp_sound {ok : Bool} (h : s.board.Sound fl tr) : (s.endStartUp ok).board.Sound fl tr := by
  have hread : (s.finishErase ok).readLines.board.Sound fl tr := by simp [h]
  obtain ⟨hflags, -⟩ := hread
  unfold State.endStartUp
  dsimp only
  split <;> exact ⟨hflags, fun _ => ⟨fun _ => rfl, fun hp => absurd rfl hp⟩⟩

end

end Sys2Proof.Machine
end

section
namespace Sys2Proof.Machine

/-! ## The blocks of the requests -/

section
variable {fl tr : Prop} {s : State}

theorem withStation_board (s : State) (station : Nat) {act : Stn → State × Answer}
    (hact : ∀ st, (act st).1.board = s.board) : (withStation station s act).1.board = s.board := by
  unfold withStation
  split
  · rfl
  · split
    · exact hact _
    · rfl

theorem actHoldTest_board (s : State) (station : Nat) : (actHoldTest station s).1.board = s.board := by
  refine withStation_board s station fun st => ?_
  split <;> simp

theorem actResumeTest_board (s : State) (station rebase : Nat) : (actResumeTest station rebase s).1.board = s.board := by
  unfold actResumeTest
  split
  · rfl
  · refine withStation_board s station fun st => ?_
    dsimp only
    (repeat' split) <;> simp

theorem actAbortTest_board (s : State) (station : Nat) : (actAbortTest station s).1.board = s.board := by
  refine withStation_board s station fun st => ?_
  (repeat' split) <;> simp

theorem actAdjustTest_board (s : State) (station : Nat) (plo ext : RawOption) :
    (actAdjustTest station plo ext s).1.board = s.board := by
  unfold actAdjustTest
  (iterate 2 (split; · rfl))
  refine withStation_board s station fun st => ?_
  dsimp only
  (iterate 6 (split; · rfl))
  exact s.modCtx_board st _

theorem actSetCalibration_board (s : State) (sel : Nat) (zero : Int) (span signed invert : Nat) :
    (actSetCalibration sel zero span signed invert s).1.board = s.board := by
  unfold actSetCalibration
  dsimp only
  (iterate 6 (split; · rfl))
  exact State.drainSelector_board _ _

/-- R102, R93. -/
theorem actClearFault_sound (h : s.board.Sound fl tr) (group code : Nat) :
    (actClearFault group code s).1.board.Sound fl tr := by
  unfold actClearFault
  (repeat' split) <;> simp [h]

/-- R103: the group is cleared where it has no lowest set flag. -/
theorem actClearGroup_sound (h : s.board.Sound fl tr) (group : Nat) : (actClearGroup group s).1.board.Sound fl tr := by
  unfold actClearGroup
  split
  · exact h
  · next hrange =>
    split
    · exact h
    · next hlowest =>
      split
      · exact h
      · have hclear : ∀ f ∈ Flag.all, f.group = group → s.flag f = false := by
          simpa [State.lowestSet] using hlowest
        have hpos : 1 ≤ group := (inRange_iff.1 (by simpa using hrange)).1
        have hcleared := State.clearCombined_sound h hpos hclear
        dsimp only
        split <;> simp [hcleared]

/-- R101: the limits are written, and both masks applied. -/
theorem actSetLimits_sound (h : s.board.Sound fl tr) (items : List (Nat × Nat)) :
    (actSetLimits items s).1.board.Sound fl tr := by
  have hwritten (l : Limits) :
      (State.applyMasks { s with site := { s.site with limits := l } }).board.Sound fl tr := by
    obtain ⟨-, htrip⟩ := h
    exact State.applyMasks_sound fun k => (htrip k).2
  unfold actSetLimits
  split
  · exact h
  · split
    · exact h
    · split
      · exact h
      · dsimp only
        split
        · exact h
        · exact hwritten _

/-- The block of every request keeps the flags sound and TRIP judged: four of them may change the board, and the others
leave it as it is. -/
theorem actOf_sound (h : s.board.Sound fl tr) (i : Instr) : (actOf i s).1.board.Sound fl tr := by
  have keeps {r : State × Answer} (hr : r.1.board = s.board) : r.1.board.Sound fl tr := hr ▸ h
  cases i with
  | clearFault _ g c => exact actClearFault_sound h g c
  | clearGroup _ g => exact actClearGroup_sound h g
  | setLimits _ items => exact actSetLimits_sound h items
  | setStations _ a b c d =>
    show (actSetStations a b c d s).1.board.Sound fl tr
    unfold actSetStations
    split <;> simp [h]
  | holdTest _ station => exact keeps (actHoldTest_board s station)
  | resumeTest _ station rebase => exact keeps (actResumeTest_board s station rebase)
  | abortTest _ station => exact keeps (actAbortTest_board s station)
  | adjustTest _ station plo ext => exact keeps (actAdjustTest_board s station plo ext)
  | setCalibration _ sel zero span signed invert => exact keeps (actSetCalibration_board s sel zero span signed invert)
  | startTest | runSelftest | clearEmergency | winchStop | assignPort | groutRequest | groutStop | groutPause
    | groutResume | closeAnchor | setSettings | setTime | resumeLink =>
    refine keeps ?_
    dsimp only [actOf, actStartTest, actRunSelftest, actClearEmergency, actWinchStop, actAssignPort, actGroutRequest,
      actGroutStop, actGroutPause, actGroutResume, actCloseAnchor, actSetSettings, actSetTime, actResumeLink]
    (repeat' split) <;> simp [State.setPort, State.joinQueue, State.resumePass]
  | takeNotice | setNoticeLevel | declare | amend | void | loadPlan | winchRun | releasePort | groutCancel | setPoint
    | baseline | markExported | eraseOldest | setTag =>
    refine keeps ?_
    dsimp only [actOf, actTakeNotice, actSetNoticeLevel, actDeclare, actAmend, actVoid, actLoadPlan, actWinchRun,
      actReleasePort, actGroutCancel, actSetPoint, actBaseline, actMarkExported, actEraseOldest, actSetTag]
    (repeat' split) <;> rfl
  | reset | lockLimits | unknownKind | byteReceived | receiverGap | replySent | linkWatchExpiry | powerReset
    | pinReset | startUpEnd | emergencyFallingEdge | sample | holdEnd | creepReading | rampTimeout
    | wholeSecond | releaseDutyEnd | seatPulseEnd | encoderEdge | drumPulse | flowPulse | noFlowTime | noFlow
    | siteMinute | scanComplete | jackOverloadTrip | groutRefusalTrip | groutOverpressureTrip | winchJamTrip
    | winchSlackTrip | neighbourRiseTrip | wallTiltTrip | selftestFail | brakeIntervalExpiry | arbiterServe
    | valveTravelEnd | pauseExpired | appendEnd | eraseEnd | emergencyLineRise | pwmPeriodStart
    | siteClockSecond | resetPinRelease => exact h
  | _ => exact keeps (congrArg State.board (actOf_query rfl s))

/-! ## The link -/

theorem State.answer_sound {kind tag : Nat} {i : Instr} (h : s.board.Sound fl tr) :
    (s.answer kind tag (actOf i)).board.Sound fl tr := by
  unfold State.answer
  split
  · exact h
  · exact actOf_sound h i

theorem takeFrame_sound (h : s.board.Sound fl tr) (f : Frame) : (takeFrame f s).board.Sound fl tr := by
  unfold takeFrame
  split
  · exact h
  · split
    · exact State.answer_sound h
    · exact h

theorem State.frameArrives_sound {f : Frame} {take : State → State} (h : s.board.Sound fl tr)
    (ht : ∀ u : State, u.board.Sound fl tr → (take u).board.Sound fl tr) :
    (s.frameArrives f take).board.Sound fl tr := by
  unfold State.frameArrives
  split
  · exact h
  · extract_lets watched link joined
    have hw : watched.board.Sound fl tr := by
      simp only [watched]
      split
      · rw [s.restartWatch_eq]; exact h
      · exact h
    split
    · exact hw
    · split
      · exact ht joined hw
      · exact hw

theorem State.nextFrame_sound (h : s.board.Sound fl tr) : s.nextFrame.board.Sound fl tr := by
  have hq : ({ s with link := { s.link with queue := s.link.queue.tail, reply := none } } : State).board.Sound fl tr := h
  unfold State.nextFrame
  dsimp only
  split
  · exact hq
  · exact takeFrame_sound hq _

end

/-! ## Every command -/

section
variable {fl tr : Prop} {s t : State}

theorem State.sound_of_next {u : State} (ht : (.next u : Host.Outcome State Fault Refusal) = .next t)
    (hu : u.board.Sound fl tr) : t.board.Sound fl tr := by
  injection ht with ht
  exact ht ▸ hu

/-- An event acts while the part runs, and else leaves the state as it is. -/
theorem State.event_sound {f : State → State} (h : s.board.Sound fl tr) (ht : s.event f = .next t)
    (hf : (f s).board.Sound fl tr) : t.board.Sound fl tr := by
  unfold State.event at ht
  refine State.sound_of_next ht ?_
  split
  · exact hf
  · exact h

/-- Every command keeps the flags sound and TRIP judged. -/
theorem exec_sound (i : Instr) (h : s.board.Sound fl tr) (ht : exec i s = .next t) : t.board.Sound fl tr := by
  by_cases hi : i.isRequest = true
  · rw [exec_request hi] at ht
    exact State.sound_of_next ht (State.frameArrives_sound h fun _ hu => State.answer_sound hu)
  cases i with
  | unknownKind kind tag body =>
    exact State.sound_of_next ht (State.frameArrives_sound h fun _ hu => takeFrame_sound hu _)
  | byteReceived b stopError =>
    unfold exec execByteReceived at ht
    refine State.event_sound h ht ?_
    dsimp only
    split
    · exact h
    · split
      · exact h
      · exact State.frameArrives_sound h fun _ hu => takeFrame_sound hu _
  | receiverGap =>
    unfold exec execReceiverGap at ht
    exact State.event_sound h ht h
  | replySent =>
    unfold exec execReplySent at ht
    refine State.event_sound h ht ?_
    split
    · exact h
    · split
      · exact State.commandReset_sound h
      · exact State.nextFrame_sound h
  | linkWatchExpiry =>
    unfold exec execLinkWatchExpiry at ht
    refine State.event_sound h ht ?_
    split <;> simp [h]
  | powerReset up lost => exact State.sound_of_next ht (State.leaveReset_sound (h.cut rfl))
  | pinReset => exact State.sound_of_next ht (State.leaveReset_sound (h.cut rfl))
  | resetPinRelease =>
    refine State.sound_of_next ht ?_
    split
    · next hp => exact State.leaveReset_sound (h.reset_of_stopped (by simp [hp]))
    · exact h
  | startUpEnd ok =>
    refine State.sound_of_next ht ?_
    split
    · exact State.endStartUp_sound h
    · exact h
  | emergencyFallingEdge line =>
    refine State.sound_of_next ht ?_
    dsimp only
    (repeat' split) <;> simp [h]
  | emergencyLineRise line => exact State.sound_of_next ht (by simp [h])
  | sample chan code guardFirst =>
    unfold exec execSample at ht
    refine State.event_sound h ht ?_
    cases chan <;> simp [h]
  | holdEnd st =>
    unfold exec execHoldEnd at ht
    refine State.event_sound h ht ?_
    split <;> simp [h]
  | creepReading st =>
    unfold exec execCreepReading at ht
    refine State.event_sound h ht ?_
    split <;> simp [h]
  | rampTimeout st =>
    unfold exec execRampTimeout at ht
    refine State.event_sound h ht ?_
    split <;> simp [h]
  | wholeSecond st =>
    unfold exec execWholeSecond at ht
    exact State.event_sound h ht (by simp [h])
  | releaseDutyEnd st =>
    unfold exec execReleaseDutyEnd at ht
    exact State.event_sound h ht (by simp [h])
  | seatPulseEnd st =>
    unfold exec execSeatPulseEnd at ht
    refine State.event_sound h ht ?_
    split <;> simp [h]
  | encoderEdge st line =>
    refine State.sound_of_next ht ?_
    split <;> simp [State.encoderMoves, h]
  | drumPulse dirHigh =>
    unfold exec execDrumPulse at ht
    exact State.event_sound h ht h
  | flowPulse period =>
    unfold exec execFlowPulse at ht
    refine State.event_sound h ht ?_
    dsimp only
    (repeat' split) <;> simp [h]
  | noFlowTime =>
    unfold exec execNoFlowTime at ht
    refine State.event_sound h ht ?_
    split <;> exact h
  | noFlow =>
    unfold exec execNoFlow at ht
    refine State.event_sound h ht ?_
    split <;> simp [h]
  | siteMinute =>
    unfold exec execSiteMinute at ht
    refine State.event_sound h ht ?_
    split <;> simp [h]
  | scanComplete codes wallFirst =>
    have hp : (s.publishScan codes).board.Sound fl tr := h
    unfold exec execScanComplete at ht
    refine State.event_sound h ht ?_
    dsimp only
    split <;> simp [hp]
  | jackOverloadTrip st =>
    unfold exec execJackOverloadTrip at ht
    refine State.event_sound h ht ?_
    split <;> simp [h]
  | groutRefusalTrip =>
    unfold exec execGroutRefusalTrip at ht
    refine State.event_sound h ht ?_
    split <;> simp [h]
  | groutOverpressureTrip =>
    unfold exec execGroutOverpressureTrip at ht
    refine State.event_sound h ht ?_
    dsimp only
    split <;> simp [h]
  | winchJamTrip =>
    unfold exec execWinchJamTrip at ht
    refine State.event_sound h ht ?_
    (repeat' split) <;> simp [h]
  | winchSlackTrip =>
    unfold exec execWinchSlackTrip at ht
    refine State.event_sound h ht ?_
    split <;> simp [h]
  | neighbourRiseTrip st point =>
    unfold exec execNeighbourRiseTrip at ht
    refine State.event_sound h ht ?_
    split <;> simp [h]
  | wallTiltTrip point =>
    unfold exec execWallTiltTrip at ht
    refine State.event_sound h ht ?_
    dsimp only
    split <;> simp [h]
  | selftestFail guard =>
    unfold exec execSelftestFail at ht
    refine State.event_sound h ht ?_
    (repeat' split) <;> simp [h]
  | brakeIntervalExpiry =>
    unfold exec execBrakeIntervalExpiry at ht
    refine State.event_sound h ht ?_
    split <;> simp [h]
  | arbiterServe =>
    unfold exec execArbiterServe at ht
    exact State.event_sound h ht (by simp [h])
  | valveTravelEnd port =>
    unfold exec execValveTravelEnd at ht
    refine State.event_sound h ht ?_
    dsimp only
    (repeat' split) <;> simp [State.enterPumping, h]
  | pauseExpired =>
    unfold exec execPauseExpired at ht
    refine State.event_sound h ht ?_
    split <;> simp [h]
  | appendEnd ok =>
    unfold exec execAppendEnd at ht
    refine State.event_sound h ht ?_
    split
    · split
      · exact h
      · exact State.appendTorn_sound h
    all_goals exact h
  | eraseEnd ok =>
    unfold exec execEraseEnd at ht
    refine State.event_sound h ht ?_
    dsimp only
    split
    · (repeat' split) <;> simp [h]
    all_goals exact h
  | pwmPeriodStart =>
    unfold exec execPwmPeriodStart at ht
    exact State.event_sound h ht h
  | siteClockSecond =>
    refine State.sound_of_next ht ?_
    dsimp only
    (repeat' split)
    · exact h
    · rw [State.siteMinute_board]
      exact h
    · exact h
  | _ => exact absurd rfl hi

/-- A step runs one command, and every command keeps the flags sound and TRIP judged. -/
theorem step_sound (h : s.board.Sound fl tr) (ht : step s = .next t) : t.board.Sound fl tr := by
  unfold step at ht
  split at ht
  · exact State.sound_of_next ht h
  · next c rest _ => exact exec_sound c (s := { s with pending := rest }) h ht

end

end Sys2Proof.Machine

open Sys2Proof.Machine in
/-- Settles O8: the flags and TRIP are judged from a small part of the state, the board, which every command keeps sound. -/
theorem stepKeepsFlagsAndTripJudged : Obligations.StepKeepsFlagsAndTripJudged := by
  unfold Obligations.StepKeepsFlagsAndTripJudged
  refine ⟨fun s t hs ht => ?_, fun s t hs ht => ?_⟩
  · obtain ⟨hflags, -⟩ := step_sound (fl := True) (tr := False) ⟨fun _ => s.flagsSound_iff.1 hs, False.elim⟩ ht
    exact t.flagsSound_iff.2 (hflags trivial)
  · obtain ⟨-, htrip⟩ := step_sound (fl := False) (tr := True) ⟨False.elim, fun _ => s.tripSound_iff.1 hs⟩ ht
    exact t.tripSound_iff.2 (htrip trivial)
end

section
namespace Sys2Proof.Machine

/-! ## RUN_SELFTEST (R109) -/

theorem TestedGuard.ofCode_none {n : Nat} (h : n = 0 ∨ 4 < n) : TestedGuard.ofCode n = none := by
  unfold TestedGuard.ofCode
  split
  case h_5 => rfl
  all_goals omega

@[simp] theorem TestedGuard.ofCode_stn (st : Stn) : TestedGuard.ofCode st.code = some (.overload st) := by
  cases st <;> rfl

section
variable {s : State}

theorem actRunSelftest_unlisted {n : Nat} (h : TestedGuard.ofCode n = none) :
    actRunSelftest n s = (s, .plain .outOfRange 1) := by
  simp [actRunSelftest, h]

/-- R109: the checks in their order, for a guard that can be tested. -/
theorem actRunSelftest_listed {n : Nat} {g : TestedGuard} (h : TestedGuard.ofCode n = some g) :
    actRunSelftest n s =
      if s.testEnabled g = false then (s, .plain .disabled)
      else if s.testIdle g = false then (s, .plain .busy)
      else if s.faults.emergency.set = true then (s, .plain .emergency)
      else (s.startSelftest g, .plain .accepted) := by
  simp [actRunSelftest, h]

/-- R109: RUN_SELFTEST as a request, its guard's enable and idleness read off the state. -/
theorem runSelftest_serves {tag n : Nat} {g : TestedGuard} {enabled idle : Bool} {effect : State → State}
    (hs : s.accepts (.runSelftest tag n)) (hg : TestedGuard.ofCode n = some g)
    (he : (s.taken (.runSelftest tag n)).testEnabled g = enabled) (hi : (s.taken (.runSelftest tag n)).testIdle g = idle)
    (heffect : (s.taken (.runSelftest tag n)).startSelftest g = effect (s.taken (.runSelftest tag n))) :
    (enabled = false → Refuses (.runSelftest tag n) s .disabled) ∧
    (enabled = true → idle = false → Refuses (.runSelftest tag n) s .busy) ∧
    (enabled = true → idle = true → s.faults.emergency.set = true → Refuses (.runSelftest tag n) s .emergency) ∧
    (enabled = true → idle = true → s.faults.emergency.set = false →
      Serves (.runSelftest tag n) s effect (.plain .accepted)) := by
  subst he hi
  refine ⟨fun hen => Refuses.of_actOf rfl hs ?_, fun hen hidle => Refuses.of_actOf rfl hs ?_,
    fun hen hidle hem => Refuses.of_actOf rfl hs ?_, fun hen hidle hem => Serves.of_actOf rfl hs ?_⟩
  all_goals refine (actRunSelftest_listed hg).trans ?_
  · simp [hen, refuse_eq]
  · simp [hen, hidle, refuse_eq]
  · simp [hen, hidle, hem, refuse_eq]
  · simp [hen, hidle, hem, heffect]

/-! ## The end of a self-test (R111, R134) -/

theorem State.selfOf_overload {st : Stn} (h : (s.stn st).state = .selftest) :
    s.selfOf (.overload st) = (s.stn st).self := if_pos h

theorem State.selfOf_overload_none {st : Stn} (h : (s.stn st).state ≠ .selftest) : s.selfOf (.overload st) = none :=
  if_neg h

theorem exec_selftestFail_unlisted {n : Nat} (hrun : s.phase = .running) (h : TestedGuard.ofCode n = none) :
    exec (.selftestFail n) s = .next s := by
  show execSelftestFail n s = _
  rw [execSelftestFail, State.event_running hrun, h]

theorem exec_selftestFail {n : Nat} {g : TestedGuard} (hrun : s.phase = .running) (hg : TestedGuard.ofCode n = some g) :
    exec (.selftestFail n) s = .next (if (s.selfOf g).isSome then s.endSelftest g none else s) := by
  show execSelftestFail n s = _
  rw [execSelftestFail, State.event_running hrun, hg]

theorem exec_selftestFail_outside {n : Nat} {g : TestedGuard} (hrun : s.phase = .running)
    (hg : TestedGuard.ofCode n = some g) (ht : s.selfOf g = none) : exec (.selftestFail n) s = .next s := by
  simp [exec_selftestFail hrun hg, ht]

theorem exec_selftestFail_testing {n : Nat} {g : TestedGuard} {t : SelfTest} (hrun : s.phase = .running)
    (hg : TestedGuard.ofCode n = some g) (ht : s.selfOf g = some t) :
    exec (.selftestFail n) s = .next (s.endSelftest g none) := by
  simp [exec_selftestFail hrun hg, ht]

/-- R111: the state after the record of a self-test is written. -/
def State.selfRecorded (s : State) (n : Nat) (r : SelfRecord) : State :=
  { s with faults := { s.faults with records := s.faults.records.set (n - 1) (some r) } }

/-- R111: the end of a test of the overload guard, its standing set by how it ended. -/
theorem State.endSelftest_overload (st : Stn) (tripAt : Option Nat) :
    let told := ((s.selfRecorded st.code ⟨tripAt.isSome, tripAt, s.now⟩).setStn st
      { s.stn st with
        state := .idle, self := none, ovl := { (s.stn st).ovl with count := 0 }, passed := tripAt.isSome }).notice
      .selftestDone st.origin none (detail2 st.code (if tripAt.isSome then 1 else 2))
    s.endSelftest (.overload st) tripAt = if tripAt.isSome then told else told.raise .selftestFailed := by
  cases st <;> rfl

theorem State.endSelftest_overpressure (tripAt : Option Nat) :
    let told := State.notice
      { s.selfRecorded 3 ⟨tripAt.isSome, tripAt, s.now⟩ with grout :=
        { s.grout with state := .idle, self := none, overp := { s.grout.overp with count := 0 } } }
      .selftestDone .g none (detail2 3 (if tripAt.isSome then 1 else 2))
    s.endSelftest .overpressure tripAt = (if tripAt.isSome then told else told.raise .selftestFailed).arbiter := rfl

theorem State.endSelftest_jam (tripAt : Option Nat) :
    let told := State.notice
      { s.selfRecorded 4 ⟨tripAt.isSome, tripAt, s.now⟩ with winch :=
        { s.winch with state := .idle, self := none, jam := { s.winch.jam with count := 0 } } }
      .selftestDone .w none (detail2 4 (if tripAt.isSome then 1 else 2))
    s.endSelftest .jam tripAt = if tripAt.isSome then told else told.raise .selftestFailed := rfl

/-! ## A sample in SELFTEST (R110) -/

/-- R110: every sample of a self-test counts; the guard trips at its N, and the test fails at N + 4. -/
theorem selfSample_eq {t : SelfTest} {g : Guard} {threshold n : Nat} (h32 : n ≤ 32) :
    selfSample t g threshold n =
      if n ≤ g.count + 1 then (⟨t.count + 1, some (t.count + 1), true⟩, ⟨0, some threshold⟩, some true)
      else ({ t with count := t.count + 1 }, ⟨g.count + 1, some threshold⟩,
        if n + 4 ≤ t.count + 1 then some false else none) := by
  by_cases htrip : n ≤ g.count + 1
  · have heval := Guard.eval_tripped threshold (valid := true) (out := true) rfl rfl (le_min h32 htrip)
    simp [selfSample, heval, htrip]
  · have hmin : min 32 (g.count + 1) = g.count + 1 := by omega
    have heval := Guard.eval_counted (g := g) (n := n) threshold (valid := true) (out := true) rfl rfl (by omega)
    simp [selfSample, heval, htrip, hmin]

theorem State.selfNext_eq (g : TestedGuard) (t : SelfTest) (r : Option Bool) :
    s.selfNext g t r = if r = none then s else s.endSelftest g t.tripSeen := by
  cases r <;> rfl

theorem State.selfLoad_testing {st : Stn} {t : SelfTest} (hst : (s.stn st).state = .selftest)
    (ht : (s.stn st).self = some t) :
    let r := selfSample t (s.stn st).ovl (s.rating st) s.site.settings.nOverload
    s.selfLoad st =
      State.selfNext (s.setStn st { s.stn st with self := some r.1, ovl := r.2.1 }) (.overload st) r.1 r.2.2 := by
  simp only [State.selfLoad, State.selfOf_overload hst, ht]
  rfl

theorem State.selfPressure_testing {t : SelfTest} (hst : s.grout.state = .selftest) (ht : s.grout.self = some t) :
    let r := selfSample t s.grout.overp s.site.limits.maxPressure s.site.settings.nOverpressure
    s.selfPressure =
      State.selfNext { s with grout := { s.grout with self := some r.1, overp := r.2.1 } } .overpressure r.1 r.2.2 := by
  simp only [State.selfPressure, State.selfOf_overpressure hst, ht]

theorem State.selfTension_testing {t : SelfTest} (hst : s.winch.state = .selftest) (ht : s.winch.self = some t) :
    let r := selfSample t s.winch.jam s.site.settings.jamTension s.site.settings.nJam
    s.selfTension = State.selfNext { s with winch := { s.winch with self := some r.1, jam := r.2.1 } } .jam r.1 r.2.2 := by
  simp only [State.selfTension, State.selfOf_jam hst, ht]

theorem State.winchSample_testing (hst : s.winch.state = .selftest) (hr : s.winch.run = none) :
    s.winchSample = s.selfTension := by
  simp [State.winchSample, Winch.note_idle hr, hst]

end

end Sys2Proof.Machine

open Sys2Proof Sys2Proof.Machine in
/-- Settles O52: the request guard by guard, then each way a test ends, then the sample that feeds the guard. -/
theorem selftestRunsAndEnds : Obligations.SelftestRunsAndEnds := by
  unfold Obligations.SelftestRunsAndEnds
  refine ⟨?_, ?_, ?_, ?_, ?_, ?_⟩
  · intro tag g s hs i fresh go
    refine ⟨fun hg => ?_, ?_, ?_, ?_⟩
    · exact Refuses.of_actOf rfl hs (actRunSelftest_unlisted (TestedGuard.ofCode_none hg))
    · rintro st rfl
      exact runSelftest_serves hs (TestedGuard.ofCode_stn st) (by cases st <;> rfl) (by cases st <;> rfl)
        (by cases st <;> rfl)
    · rintro rfl
      exact runSelftest_serves hs (g := .overpressure) rfl rfl rfl rfl
    · rintro rfl
      exact runSelftest_serves hs (g := .jam) rfl rfl rfl rfl
  · intro s hrun failed
    refine ⟨fun g hg => ?_, fun st hst => ?_, fun hst => ?_, fun hst => ?_, fun st t hst ht => ?_, fun t hst ht => ?_,
      fun t hst ht => ?_⟩
    · exact exec_selftestFail_unlisted hrun (TestedGuard.ofCode_none hg)
    · exact exec_selftestFail_outside hrun (TestedGuard.ofCode_stn st) (State.selfOf_overload_none hst)
    · exact exec_selftestFail_outside hrun rfl (State.selfOf_overpressure_none hst)
    · exact exec_selftestFail_outside hrun rfl (State.selfOf_jam_none hst)
    · rw [exec_selftestFail_testing hrun (TestedGuard.ofCode_stn st) ((State.selfOf_overload hst).trans ht),
        State.endSelftest_overload]
      rfl
    · rw [exec_selftestFail_testing hrun (g := .overpressure) rfl ((State.selfOf_overpressure hst).trans ht),
        State.endSelftest_overpressure]
      rfl
    · rw [exec_selftestFail_testing hrun (g := .jam) rfl ((State.selfOf_jam hst).trans ht), State.endSelftest_jam]
      rfl
  · intro s k passed
    exact ⟨fun st => State.endSelftest_overload st (some k), State.endSelftest_overpressure (some k),
      State.endSelftest_jam (some k)⟩
  · exact fun t g threshold n _ h32 _ => selfSample_eq h32
  · intro s t fed
    refine ⟨fun st hst ht => ?_, fun hst ht => ?_, fun hst ht => ?_⟩
    · intro rating r
      have hrating : s.rating st = rating := by cases st <;> rfl
      rw [State.selfLoad_testing hst ht, State.selfNext_eq, hrating]
    · rw [State.selfPressure_testing hst ht, State.selfNext_eq]
    · rw [State.selfTension_testing hst ht, State.selfNext_eq]
  · exact fun s => ⟨fun first hst => if_pos hst, State.winchSample_testing⟩
end

section
namespace Sys2Proof.Machine

/-! ## The arbiter (R134, R135) -/

section
variable {s : State}

theorem State.arbiterReady_iff (s : State) :
    s.arbiterReady = true ↔
      s.grout.state = .idle ∧ s.grout.pass = none ∧ s.site.enables.g = true ∧ s.faults.trip = false ∧
        s.faults.emergency.set = false ∧ s.link.lost = false ∧ s.combined 4 = false := by
  simp [State.arbiterReady, and_assoc]

theorem State.eligible_iff (s : State) (r : GroutReq) : s.eligible r = true ↔ s.portOf r.anchor ≠ none := by
  simp [State.eligible, Option.isSome_iff_ne_none]

theorem State.arbiter_unready (h : ¬s.arbiterReady = true) : s.arbiter = s := if_neg h

theorem State.arbiter_of_none_eligible (h : ∀ r ∈ s.grout.queue, s.portOf r.anchor = none) : s.arbiter = s := by
  have hfind : s.grout.queue.find? s.eligible = none := by
    simpa [State.eligible] using h
  simp [State.arbiter, hfind]

/-- R134: the request that is served, its port and its entry looked up. -/
theorem State.arbiter_of_find {r : GroutReq} {port : Nat} {e : Entry} (h : s.arbiterReady = true)
    (hr : s.grout.queue.find? s.eligible = some r) (hp : s.portOf r.anchor = some port)
    (he : s.entry r.anchor = some e) : s.arbiter = s.serve r port e := by
  simp [State.arbiter, h, hr, hp, he]

/-- R134: all that the arbiter can do: nothing, or the service of one request that has a port. -/
theorem State.arbiter_cases (s : State) :
    s.arbiter = s ∨ ∃ r port e, s.portOf r.anchor = some port ∧ s.arbiter = s.serve r port e := by
  unfold State.arbiter
  split
  · split
    · exact .inl rfl
    · split
      · next hp _ => exact .inr ⟨_, _, _, hp, rfl⟩
      · exact .inl rfl
  · exact .inl rfl

@[simp] theorem Grout.judgeFlow_queue (g : Grout) : g.judgeFlow.queue = g.queue := by
  obtain ⟨f, hf⟩ := g.judgeFlow_flow
  rw [hf]

theorem State.serve_queue (s : State) (r : GroutReq) (port : Nat) (e : Entry) :
    (s.serve r port e).grout.queue = s.grout.queue.eraseP fun q => q.anchor == r.anchor := by
  simp [State.serve, Grout.modValve]

/-- R130, R134: a request whose anchor has no port stays in the queue. -/
theorem State.mem_arbiter_queue {q : GroutReq} (hq : q ∈ s.grout.queue) (hp : s.portOf q.anchor = none) :
    q ∈ s.arbiter.grout.queue := by
  rcases s.arbiter_cases with h | ⟨r, port, e, hr, h⟩
  · rwa [h]
  · have hne : q.anchor ≠ r.anchor := fun heq => by simp [heq, hr] at hp
    rw [h, State.serve_queue]
    exact (List.mem_eraseP_of_neg (by simpa using hne)).2 hq

/-- R133, R135: the first request of an anchor leaves the queue. -/
theorem eraseP_anchor {front back : List GroutReq} {q : GroutReq} {a : Nat} (hq : q.anchor = a)
    (hfront : ∀ r ∈ front, r.anchor ≠ a) :
    (front ++ q :: back).eraseP (fun r => r.anchor == a) = front ++ back := by
  rw [List.eraseP_append_right _ (by simpa using hfront), List.eraseP_cons_of_pos (by simpa using hq)]

/-- R135: the Register change of a served request, field by field. -/
theorem Entry.served_eq (e : Entry) (r : GroutReq) (port start : Nat) :
    e.served r port start =
      { e with
        pass := some ⟨r.kind, port, start⟩, interrupted := none
        stage := if r.kind = .primary then .grouting else e.stage
        postDue := if r.kind = .post then false else e.postDue } := by
  unfold Entry.served
  cases hk : r.kind <;> simp

/-- R135: the state a service builds, for a request with no earlier one of its anchor before it. -/
theorem State.serve_eq {front back : List GroutReq} {r : GroutReq} (hq : s.grout.queue = front ++ r :: back)
    (hfront : ∀ q ∈ front, q.anchor ≠ r.anchor) (port : Nat) (e : Entry) :
    s.serve r port e =
      State.notice
        { s with
          reg := s.reg.map fun x => if x.decl.id == r.anchor then x.served r port s.site.clock else x
          grout :=
            ({ s.grout with
                queue := front ++ back, pass := some (.ofRequest r port s.site.clock e), state := .starting
                refusal := s.grout.refusal.zero, overp := s.grout.overp.zero }.modValve port Valve.openCmd).judgeFlow }
        .passStarted .g (some r.anchor) (detail2 r.kind.code port) := by
  rw [← eraseP_anchor (back := back) rfl hfront, ← hq]
  rfl

end

end Sys2Proof.Machine

open Sys2Proof Sys2Proof.Machine in
/-- Settles O47: the arbiter does nothing unready or without an eligible request; else the first eligible request is the
one `find?` gives, and its service is read off field by field. -/
theorem arbiterServesTheOldestEligible : Obligations.ArbiterServesTheOldestEligible := by
  unfold Obligations.ArbiterServesTheOldestEligible
  intro s ready
  refine ⟨fun hrun => State.event_running hrun _, fun h => State.arbiter_unready (h ∘ s.arbiterReady_iff.1),
    State.arbiter_of_none_eligible, fun front r back port e hready hq hfront hport he hother => ?_⟩
  have hfind : s.grout.queue.find? s.eligible = some r := by
    rw [hq, List.find?_append, List.find?_eq_none.2 fun q hmem => by simp [State.eligible, hfront q hmem],
      List.find?_cons_of_pos ((s.eligible_iff r).2 (by simp [hport]))]
    rfl
  intro post pass served after
  rw [State.arbiter_of_find (s.arbiterReady_iff.2 hready) hfind hport he, State.serve_eq hq hother]
  simp only [Entry.served_eq]
  rfl
end

section
namespace Sys2Proof.Machine

/-! ## Ports (R129, R130) -/

section
variable {s : State} {port a : Nat}

theorem State.portActive_iff (s : State) (port : Nat) :
    s.portActive port = true ↔ ∃ p, s.grout.pass = some p ∧ p.port = port := by
  simp [State.portActive, Option.any_eq_true]

theorem State.portActive_false (h : ∀ p, s.grout.pass = some p → p.port ≠ port) : s.portActive port = false :=
  Bool.eq_false_iff.2 fun hact => let ⟨p, hp, heq⟩ := (s.portActive_iff port).1 hact; h p hp heq

theorem State.portAnchor_of_getElem? {x : Option Nat} (h : s.grout.ports[port - 1]? = some x) : s.portAnchor port = x := by
  simp [State.portAnchor, List.getD_eq_getElem?_getD, h]

/-- R129, R130: the ports are 1 to 6. -/
theorem port_outOfRange (h : port = 0 ∨ 6 < port) : inRange 1 6 port = false :=
  inRange_false (h.imp_left fun h0 => by omega)

/-- R130: an empty port emptied again. -/
theorem State.setPort_none_of_empty (h : s.grout.ports[port - 1]? = some none) : s.setPort port none = s := by
  have hset : s.grout.ports.set (port - 1) none = s.grout.ports := by
    obtain ⟨hlt, hnone⟩ := List.getElem?_eq_some_iff.1 h
    rw [← hnone, List.set_getElem_self]
  rw [State.setPort, hset]

theorem actReleasePort_outOfRange (h : port = 0 ∨ 6 < port) : actReleasePort port s = (s, .plain .outOfRange 1) := by
  simp [actReleasePort, port_outOfRange h]

/-- R130: a port that exists. -/
theorem actReleasePort_listed (h1 : 1 ≤ port) (h6 : port ≤ 6) :
    actReleasePort port s = if s.portActive port then (s, .plain .busy) else (s.setPort port none, .plain .ok) := by
  simp [actReleasePort, inRange_iff.2 ⟨h1, h6⟩]

theorem actAssignPort_outOfRange (h : port = 0 ∨ 6 < port) : actAssignPort port a s = (s, .plain .outOfRange 1) := by
  simp [actAssignPort, port_outOfRange h]

section
variable (h1 : 1 ≤ port) (h6 : port ≤ 6)

include h1 h6

theorem actAssignPort_active (h : s.portActive port = true) : actAssignPort port a s = (s, .plain .busy) := by
  simp [actAssignPort, inRange_iff.2 ⟨h1, h6⟩, h]

variable (hfree : s.portActive port = false)

include hfree

theorem actAssignPort_unknown (he : s.entry a = none) : actAssignPort port a s = (s, .plain .noSuchAnchor) := by
  simp [actAssignPort, inRange_iff.2 ⟨h1, h6⟩, hfree, he]

variable (he : s.entry a ≠ none)

include he

/-- R129: a port that holds an anchor already. -/
theorem actAssignPort_taken {b : Nat} (hb : s.portAnchor port = some b) :
    actAssignPort port a s = if b = a then (s, .plain .ok) else (s, .plain .busy b) := by
  simp [actAssignPort, inRange_iff.2 ⟨h1, h6⟩, hfree, he, hb]

/-- R129: an empty port, for an anchor that another port holds. -/
theorem actAssignPort_duplicate (hb : s.portAnchor port = none) {q : Nat} (hq : s.portOf a = some q) :
    actAssignPort port a s = (s, .plain .duplicate q) := by
  simp [actAssignPort, inRange_iff.2 ⟨h1, h6⟩, hfree, he, hb, hq]

theorem actAssignPort_accepts (hb : s.portAnchor port = none) (hq : s.portOf a = none) :
    actAssignPort port a s = ((s.setPort port (some a)).arbiter, .plain .ok) := by
  simp [actAssignPort, inRange_iff.2 ⟨h1, h6⟩, hfree, he, hb, hq]

end
end

end Sys2Proof.Machine

open Sys2Proof Sys2Proof.Machine in
/-- Settles O45: the port's number, then the port of the active pass, then the port emptied; LINK_LOST holds the kind
back. -/
theorem releasePortEmptiesThePort : Obligations.ReleasePortEmptiesThePort := by
  unfold Obligations.ReleasePortEmptiesThePort
  intro tag port s i
  refine ⟨fun hs => ⟨fun hport => ?_, fun p h1 h6 hp hport => ?_, fun hfree h1 h6 => ?_⟩,
    fun hrun hr hq hl => State.request_lost hrun hr hq hl rfl rfl _, fun q => State.mem_arbiter_queue⟩
  · exact Refuses.of_actOf rfl hs (actReleasePort_outOfRange hport)
  · have hact : s.portActive port = true := (s.portActive_iff port).2 ⟨p, hp, hport⟩
    exact Refuses.of_actOf rfl hs ((actReleasePort_listed h1 h6).trans (if_pos hact))
  · have hact : ¬s.portActive port = true := Bool.eq_false_iff.1 (State.portActive_false hfree)
    have heq : actReleasePort port (s.taken i) = ((s.taken i).setPort port none, .plain .ok) :=
      (actReleasePort_listed h1 h6).trans (if_neg hact)
    refine ⟨Serves.of_actOf rfl hs heq, fun hnone => Serves.of_actOf rfl hs (heq.trans ?_)⟩
    rw [State.setPort_none_of_empty (s := s.taken i) hnone]
end

section
namespace Sys2Proof.Machine

/-! ## The grout queue (R131 to R133) -/

/-- R132: the checks of GROUT_REQUEST before the anchor is looked up. -/
def State.groutReady (s : State) (a : Nat) : Option (Resp × Nat) :=
  firstRefusal
    [(s.site.enables.g, .disabled, 0), (decide (s.grout.queue.length < Config.groutPlaces), .full, 0),
     (!s.queued a && !s.passActive a, .duplicate, 0)]

/-- R132: the checks of GROUT_REQUEST on the entry found. -/
def State.groutFits (s : State) (a : Nat) (e : Entry) : Option (Resp × Nat) :=
  firstRefusal
    [(e.stage == .placed, .wrongStage, 0), (decide (e.primaryPasses < Config.maxAttempts), .attemptsExhausted, 0),
     ((s.portOf a).isSome, .noPort, 0), (s.site.clockValid, .clockUnset, 0)]

section
variable {s : State} {a : Nat}

theorem actGroutRequest_unready {r : Resp × Nat} (h : s.groutReady a = some r) :
    actGroutRequest a s = (s, .plain r.1 r.2) := by
  unfold State.groutReady at h
  simp only [actGroutRequest, h, refuse_eq]

theorem actGroutRequest_unknown (h : s.groutReady a = none) (he : s.entry a = none) :
    actGroutRequest a s = (s, .plain .noSuchAnchor) := by
  unfold State.groutReady at h
  simp only [actGroutRequest, h, he, refuse_eq]

theorem actGroutRequest_unfit (h : s.groutReady a = none) {e : Entry} (he : s.entry a = some e) {r : Resp × Nat}
    (hfit : s.groutFits a e = some r) : actGroutRequest a s = (s, .plain r.1 r.2) := by
  unfold State.groutReady at h
  unfold State.groutFits at hfit
  simp only [actGroutRequest, h, he, hfit, refuse_eq]

theorem actGroutRequest_accepts (h : s.groutReady a = none) {e : Entry} (he : s.entry a = some e)
    (hfit : s.groutFits a e = none) :
    actGroutRequest a s = ((s.joinQueue a .primary).arbiter, .plain .ok (s.grout.queue.length + 1)) := by
  unfold State.groutReady at h
  unfold State.groutFits at hfit
  simp only [actGroutRequest, h, he, hfit, accept_eq]

theorem actGroutCancel_active (h : s.passActive a = true) : actGroutCancel a s = (s, .plain .busy) := by
  simp [actGroutCancel, h]

theorem actGroutCancel_absent (h : s.passActive a = false) (hq : s.queued a = false) :
    actGroutCancel a s = (s, .plain .wrongStage) := by
  simp [actGroutCancel, h, hq]

theorem actGroutCancel_queued (h : s.passActive a = false) (hq : s.queued a = true) :
    actGroutCancel a s =
      ({ s with grout := { s.grout with queue := s.grout.queue.eraseP fun q => q.anchor == a } }, .plain .ok) := by
  simp [actGroutCancel, h, hq]

end

end Sys2Proof.Machine

open Sys2Proof Sys2Proof.Machine in
/-- Settles O46: each of the three requests, check by check. -/
theorem portsAndTheGroutQueue : Obligations.PortsAndTheGroutQueue := by
  unfold Obligations.PortsAndTheGroutQueue
  intro tag port a s assign request cancel active queued full primaries
  refine ⟨fun hs => ⟨fun hport => ?_, fun h1 h6 => ⟨fun hact => ?_, fun hfree => ?_⟩⟩, fun hs => ?_, fun hs => ?_⟩
  · exact Refuses.of_actOf rfl hs (actAssignPort_outOfRange hport)
  · exact Refuses.of_actOf rfl hs (actAssignPort_active h1 h6 ((s.portActive_iff port).2 hact))
  · have hfree : (s.taken assign).portActive port = false := State.portActive_false hfree
    refine ⟨fun he => ?_, fun he => ⟨fun hb => ?_, fun b hb hne => ?_, fun hb => ⟨fun q hq => ?_, fun hq => ?_⟩⟩⟩
    · exact Refuses.of_actOf rfl hs (actAssignPort_unknown h1 h6 hfree he)
    all_goals have hb : (s.taken assign).portAnchor port = _ := State.portAnchor_of_getElem? hb
    · exact Serves.of_actOf rfl hs ((actAssignPort_taken h1 h6 hfree he hb).trans (if_pos rfl))
    · exact Refuses.of_actOf rfl hs ((actAssignPort_taken h1 h6 hfree he hb).trans (if_neg hne))
    · exact Refuses.of_actOf rfl hs (actAssignPort_duplicate h1 h6 hfree he hb hq)
    · exact Serves.of_actOf rfl hs (actAssignPort_accepts h1 h6 hfree he hb hq)
  · have hunready {r : Resp} (h : (s.taken request).groutReady a = some (r, 0)) : Refuses request s r :=
      Refuses.of_actOf rfl hs (actGroutRequest_unready h)
    refine ⟨fun hg => hunready (firstRefusal_fail hg _), fun hg => ⟨fun hfull => ?_, fun hroom => ⟨fun hdup => ?_,
      fun hq hp => ?_⟩⟩⟩
    · exact hunready ((firstRefusal_pass hg _).trans (firstRefusal_fail (decide_eq_false (Nat.not_lt.2 hfull)) _))
    all_goals
      have hroom : decide (s.grout.queue.length < Config.groutPlaces) = true := decide_eq_true (Nat.not_le.1 hroom)
    · refine hunready ((firstRefusal_pass hg _).trans ((firstRefusal_pass hroom _).trans (firstRefusal_fail ?_ _)))
      rcases hdup with hdup | hdup
      · simp [(s.queued_iff a).2 hdup]
      · simp [(s.passActive_iff a).2 hdup]
    have hready : (s.taken request).groutReady a = none := by
      have hnew : (!s.queued a && !s.passActive a) = true := by
        simp [Bool.eq_false_iff.2 (hq ∘ (s.queued_iff a).1), Bool.eq_false_iff.2 (hp ∘ (s.passActive_iff a).1)]
      exact (firstRefusal_pass hg _).trans ((firstRefusal_pass hroom _).trans
        ((firstRefusal_pass hnew _).trans firstRefusal_nil))
    refine ⟨fun he => Refuses.of_actOf rfl hs (actGroutRequest_unknown hready he), fun e he => ?_⟩
    have hunfit {r : Resp} (h : s.groutFits a e = some (r, 0)) : Refuses request s r :=
      Refuses.of_actOf rfl hs (actGroutRequest_unfit hready he h)
    refine ⟨fun hst => hunfit (firstRefusal_fail (beq_eq_false_iff_ne.2 hst) _), fun hst => ⟨fun hmax => ?_,
      fun hmax => ⟨fun hport => ?_, fun hport => ⟨fun hclock => ?_, fun hclock => ?_⟩⟩⟩⟩
    all_goals have hst : (e.stage == .placed) = true := beq_iff_eq.2 hst
    · exact hunfit ((firstRefusal_pass hst _).trans (firstRefusal_fail (decide_eq_false (Nat.not_lt.2 hmax)) _))
    all_goals have hmax : decide (e.primaryPasses < Config.maxAttempts) = true := decide_eq_true hmax
    · exact hunfit ((firstRefusal_pass hst _).trans ((firstRefusal_pass hmax _).trans
        (firstRefusal_fail (by simp [hport]) _)))
    all_goals have hport : (s.portOf a).isSome = true := Option.isSome_iff_ne_none.2 hport
    · exact hunfit ((firstRefusal_pass hst _).trans ((firstRefusal_pass hmax _).trans
        ((firstRefusal_pass hport _).trans (firstRefusal_fail hclock _))))
    · have hfit : s.groutFits a e = none := (firstRefusal_pass hst _).trans ((firstRefusal_pass hmax _).trans
        ((firstRefusal_pass hport _).trans ((firstRefusal_pass hclock _).trans firstRefusal_nil)))
      exact Serves.of_actOf rfl hs (actGroutRequest_accepts hready he hfit)
  · have hidle (h : ¬active) : (s.taken cancel).passActive a = false := Bool.eq_false_iff.2 (h ∘ (s.passActive_iff a).1)
    refine ⟨fun hact => ?_, fun hact hq => ?_, fun front q back hact hqueue hq hfront => ?_⟩
    · exact Refuses.of_actOf rfl hs (actGroutCancel_active ((s.passActive_iff a).2 hact))
    · exact Refuses.of_actOf rfl hs
        (actGroutCancel_absent (hidle hact) (Bool.eq_false_iff.2 (hq ∘ (s.queued_iff a).1)))
    · have hqueued : s.queued a = true := (s.queued_iff a).2 ⟨q, by simp [hqueue], hq⟩
      refine Serves.of_actOf rfl hs ((actGroutCancel_queued (hidle hact) hqueued).trans ?_)
      rw [State.taken_grout, hqueue, eraseP_anchor hq hfront]
end

section
namespace Sys2Proof.Machine

/-! ## Stopping, pausing, resuming (R140 to R143) -/

section
variable {s : State}

theorem actGroutStop_disabled (h : s.site.enables.g = false) : actGroutStop s = (s, .plain .disabled) := by
  simp [actGroutStop, h]

theorem actGroutPause_disabled (h : s.site.enables.g = false) : actGroutPause s = (s, .plain .disabled) := by
  simp [actGroutPause, h]

theorem actGroutResume_disabled (h : s.site.enables.g = false) : actGroutResume s = (s, .plain .disabled) := by
  simp [actGroutResume, h]

/-- R141: a pass already paused takes the cause only. -/
theorem State.addPassCause_paused {p : Pass} (hp : s.grout.pass = some p) (k : Cause) (hg : s.grout.state = .paused) :
    s.addPassCause k = { s with grout := { s.grout with pass := some { p with causes := p.causes.add k } } } := by
  simp [State.addPassCause, hp, hg]

section
variable (hg : s.site.enables.g = true)

include hg

theorem actGroutStop_idle (h : s.grout.state = .idle ∨ s.grout.state = .selftest) :
    actGroutStop s = (s, .plain .wrongStage) := by
  rcases h with h | h <;> simp [actGroutStop, hg, h]

theorem actGroutStop_active (h : s.grout.state = .starting ∨ s.grout.state = .pumping ∨ s.grout.state = .paused) :
    actGroutStop s = (s.endPass .stopped, .plain .ok) := by
  rcases h with h | h | h <;> simp [actGroutStop, hg, h]

theorem actGroutStop_ending (h : s.grout.state = .ending) : actGroutStop s = (s, .plain .ok) := by
  simp [actGroutStop, hg, h]

theorem actGroutPause_inactive (h : s.grout.state = .idle ∨ s.grout.state = .selftest ∨ s.grout.state = .ending) :
    actGroutPause s = (s, .plain .wrongStage) := by
  rcases h with h | h | h <;> simp [actGroutPause, hg, h]

theorem actGroutPause_active (h : s.grout.state = .starting ∨ s.grout.state = .pumping ∨ s.grout.state = .paused) :
    actGroutPause s = (s.addPassCause .host, .plain .ok) := by
  rcases h with h | h | h <;> simp [actGroutPause, hg, h]

theorem actGroutResume_unpaused (h : s.grout.state ≠ .paused) : actGroutResume s = (s, .plain .wrongStage) := by
  simp [actGroutResume, hg, h]

/-- R143: a paused pass: a condition cause, then the GROUT combined flag, else the pass goes on. -/
theorem actGroutResume_paused (h : s.grout.state = .paused) {p : Pass} (hp : s.grout.pass = some p) :
    actGroutResume s =
      if p.causes.hasCondition then (s, .plain .conditionPresent p.causes.bits)
      else if s.combined 4 then (s, .plain .faulted) else (s.resumePass p, .plain .ok) := by
  simp [actGroutResume, hg, h, hp]

end
end

end Sys2Proof.Machine

open Sys2Proof Sys2Proof.Machine in
/-- Settles O48: the three requests with G disabled, then each by the state of the manifold and its pass. -/
theorem passesStopPauseAndResume : Obligations.PassesStopPauseAndResume := by
  unfold Obligations.PassesStopPauseAndResume
  intro tag s stop pause resume st
  refine ⟨fun hg => ⟨fun hs => ?_, fun hs => ?_, fun hs => ?_⟩, fun hg => ⟨fun hs => ?_, fun hs => ?_, fun hs => ?_⟩⟩
  · exact Refuses.of_actOf rfl hs (actGroutStop_disabled hg)
  · exact Refuses.of_actOf rfl hs (actGroutPause_disabled hg)
  · exact Refuses.of_actOf rfl hs (actGroutResume_disabled hg)
  · exact ⟨fun hst => Refuses.of_actOf rfl hs (actGroutStop_idle hg hst),
      fun hst => Serves.of_actOf rfl hs (actGroutStop_active hg hst),
      fun hst => Serves.of_actOf rfl hs (actGroutStop_ending hg hst)⟩
  · have hact (h : st = .starting ∨ st = .pumping ∨ st = .paused) :
        actOf pause (s.taken pause) = ((s.taken pause).addPassCause .host, .plain .ok) :=
      actGroutPause_active (s := s.taken pause) hg h
    refine ⟨fun hst => Refuses.of_actOf rfl hs (actGroutPause_inactive hg hst), fun p hp => ⟨fun hst => ?_,
      fun hst => ?_⟩⟩
    · refine Serves.of_actOf rfl hs ((hact (or_assoc.1 (.inl hst))).trans ?_)
      rw [State.addPassCause_running (s := s.taken pause) hp .host hst]
      rfl
    · refine Serves.of_actOf rfl hs ((hact (.inr (.inr hst))).trans ?_)
      rw [State.addPassCause_paused (s := s.taken pause) hp .host hst]
      rfl
  · refine ⟨fun hst => Refuses.of_actOf rfl hs (actGroutResume_unpaused hg hst), fun p hst hp => ⟨fun hc => ?_,
      fun ht he hl => ⟨fun hf => ?_, fun hf => ?_⟩⟩⟩
    all_goals have hact := actGroutResume_paused (s := s.taken resume) hg hst hp
    · exact Refuses.of_actOf rfl hs (hact.trans (if_pos (p.causes.hasCondition_iff.2 hc)))
    all_goals have hcalm : ¬p.causes.hasCondition = true := by simp [CauseSet.hasCondition_iff, ht, he, hl]
    · exact Refuses.of_actOf rfl hs (hact.trans ((if_neg hcalm).trans (if_pos hf)))
    · exact Serves.of_actOf rfl hs (hact.trans ((if_neg hcalm).trans (if_neg (Bool.eq_false_iff.1 hf))))
end

section
namespace Sys2Proof.Machine

/-! ## SET_POINT and BASELINE (R151 to R153) -/

theorem State.baselineStations_eq (s : State) (p : Nat) :
    s.baselineStations p = (if s.baselineHeld .s1 p then 1 else 0) + (if s.baselineHeld .s2 p then 2 else 0) := by
  unfold State.baselineStations
  cases s.baselineHeld .s1 p <;> cases s.baselineHeld .s2 p <;> rfl

theorem State.linkHolder_some {s : State} {p id q : Nat} (h : s.linkHolder p id = some q) :
    1 ≤ q ∧ q ≤ 16 ∧ q ≠ p ∧ (s.point q).linked = some id := by
  have hcarries := List.find?_some h
  have hmem := List.mem_of_find?_eq_some h
  simp only [Config.pointCount, List.mem_map, List.mem_range] at hmem
  obtain ⟨k, hk, rfl⟩ := hmem
  simp only [Bool.and_eq_true, bne_iff_ne, beq_iff_eq] at hcarries
  exact ⟨by omega, by omega, hcarries⟩

theorem State.linkHolder_eq_none_iff (s : State) (p id : Nat) :
    s.linkHolder p id = none ↔ ∀ q, 1 ≤ q → q ≤ 16 → q ≠ p → (s.point q).linked ≠ some id := by
  rw [State.linkHolder, List.find?_eq_none]
  simp only [Config.pointCount, List.mem_map, List.mem_range, Bool.and_eq_true, bne_iff_ne, beq_iff_eq, not_and]
  constructor
  · intro h q h1 h16
    exact h q ⟨q - 1, by omega, by omega⟩
  · rintro h q ⟨k, hk, rfl⟩
    exact h (k + 1) (by omega) (by omega)

theorem PointKind.ofCode_none {n : Nat} (h : n = 0 ∨ 3 < n) : PointKind.ofCode n = none := by
  rcases h with rfl | h
  · rfl
  · obtain ⟨m, rfl⟩ := Nat.exists_eq_add_of_le' h
    rfl

/-- R151 to R153: the monitor points are 1 to 16. -/
theorem point_outOfRange {p : Nat} (h : p = 0 ∨ 16 < p) : inRange 1 Config.pointCount p = false :=
  inRange_false (h.imp_left fun h0 => by omega)

theorem point_inRange {p : Nat} (h1 : 1 ≤ p) (h16 : p ≤ 16) : inRange 1 Config.pointCount p = true :=
  inRange_iff.2 ⟨h1, h16⟩

/-- A point rewritten and its tilt guard's count returned to 0. -/
theorem State.setWallPoint_zeroTilt (s : State) (p : Nat) (x : Point) :
    (s.setWallPoint p x).zeroTilt p =
      { s with
        wall :=
          ⟨s.wall.points.set (p - 1) x, s.wall.tilt.mapIdx fun k g => if k = p - 1 then { g with count := 0 } else g⟩ } := by
  rw [← zeroAt_eq_mapIdx]
  rfl

/-- R152 checks 4 to 6: the first of the checks on LINKED_ID and LIMIT that fails, for a kind. -/
def State.pointRefusal (s : State) (p : Nat) (k : PointKind) (linked limit : Nat) : Option (Resp × Nat) :=
  firstRefusal
    [(!(k == .loadCell && linked != 0) || inRange 1 65000 linked, .outOfRange, 3),
     (!(k == .loadCell && linked != 0) || (s.linkHolder p linked).isNone, .duplicate, (s.linkHolder p linked).getD 0),
     (k != .tilt || inRange 1 32000 limit, .outOfRange, 4)]

section
variable {s : State} {p kind linked limit : Nat}

theorem State.pointRefusal_unused : s.pointRefusal p .unused linked limit = none := rfl

theorem State.pointRefusal_loadCell_unlinked : s.pointRefusal p .loadCell 0 limit = none := rfl

theorem State.pointRefusal_loadCell_outOfRange (h : 65000 < linked) :
    s.pointRefusal p .loadCell linked limit = some (.outOfRange, 3) :=
  firstRefusal_fail (by simp [inRange_false (.inr h), Nat.ne_zero_of_lt h]) _

/-- R152: a load cell's linked id in its range is refused only for another point that carries it. -/
theorem State.pointRefusal_loadCell_linked (h0 : linked ≠ 0) (h : linked ≤ 65000) :
    s.pointRefusal p .loadCell linked limit = (s.linkHolder p linked).map fun q => (.duplicate, q) := by
  have hrange : inRange 1 65000 linked = true := inRange_iff.2 ⟨Nat.pos_of_ne_zero h0, h⟩
  cases hq : s.linkHolder p linked <;> simp [State.pointRefusal, firstRefusal, hrange, hq, h0]

theorem State.pointRefusal_tilt :
    s.pointRefusal p .tilt linked limit = if inRange 1 32000 limit then none else some (.outOfRange, 4) := by
  cases h : inRange 1 32000 limit <;> simp [State.pointRefusal, firstRefusal, h]

theorem actSetPoint_outOfRange (h : p = 0 ∨ 16 < p) : actSetPoint p kind linked limit s = (s, .plain .outOfRange 1) := by
  simp [actSetPoint, point_outOfRange h]

section
variable (h1 : 1 ≤ p) (h16 : p ≤ 16)

include h1 h16

theorem actSetPoint_busy (h : s.baselineStations p ≠ 0) :
    actSetPoint p kind linked limit s = (s, .plain .busy (s.baselineStations p)) := by
  simp [actSetPoint, point_inRange h1 h16, h]

variable (hfree : s.baselineStations p = 0)

include hfree

theorem actSetPoint_unlisted (h : PointKind.ofCode kind = none) :
    actSetPoint p kind linked limit s = (s, .plain .outOfRange 2) := by
  simp [actSetPoint, point_inRange h1 h16, hfree, h]

variable {k : PointKind} (hk : PointKind.ofCode kind = some k)

include hk

theorem actSetPoint_refuses {r : Resp × Nat} (h : s.pointRefusal p k linked limit = some r) :
    actSetPoint p kind linked limit s = (s, .plain r.1 r.2) := by
  unfold State.pointRefusal at h
  simp only [actSetPoint, point_inRange h1 h16, hfree, hk, h, refuse_eq, Bool.not_true, ne_eq, reduceIte,
    not_true_eq_false, Bool.false_eq_true]

/-- R152: the point is rewritten; one that is not TILT any more has its guard's count at 0. -/
theorem actSetPoint_accepts (h : s.pointRefusal p k linked limit = none) :
    actSetPoint p kind linked limit s =
      (if k = .tilt then s.setWallPoint p (pointOf (s.point p) k linked limit)
        else (s.setWallPoint p (pointOf (s.point p) k linked limit)).zeroTilt p, .plain .ok) := by
  unfold State.pointRefusal at h
  simp only [actSetPoint, point_inRange h1 h16, hfree, hk, h, accept_eq, Bool.not_true, ne_eq, reduceIte,
    not_true_eq_false, Bool.false_eq_true]

end

/-- R152: a TILT point set again keeps its baseline, and the time until its guard is active. -/
theorem pointOf_tilt (old : Point) :
    pointOf old .tilt linked limit =
      if old.kind = .tilt then ⟨.tilt, none, old.baseline, limit, old.fresh⟩ else ⟨.tilt, none, none, limit, false⟩ := by
  by_cases h : old.kind = .tilt <;> simp [pointOf, h]

variable {action : Nat}

theorem actBaseline_outOfRange (h : p = 0 ∨ 16 < p) : actBaseline p action s = (s, .plain .outOfRange 1) := by
  simp [actBaseline, point_outOfRange h]

section
variable (h1 : 1 ≤ p) (h16 : p ≤ 16)

include h1 h16

theorem actBaseline_unlisted (h : action = 0 ∨ 2 < action) : actBaseline p action s = (s, .plain .outOfRange 2) := by
  have haction : inRange 1 2 action = false := inRange_false (h.imp_left fun h0 => by omega)
  simp [actBaseline, point_inRange h1 h16, haction]

theorem actBaseline_untilted (hlo : 1 ≤ action) (hhi : action ≤ 2) (hk : (s.point p).kind ≠ .tilt) :
    actBaseline p action s = (s, .plain .wrongStage) := by
  simp [actBaseline, point_inRange h1 h16, inRange_iff.2 ⟨hlo, hhi⟩, hk]

variable (hk : (s.point p).kind = .tilt)

include hk

theorem actBaseline_clear : actBaseline p 2 s = (s.setBaseline p none, .plain .ok) := by
  simp [actBaseline, point_inRange h1 h16, show inRange 1 2 2 = true from rfl, hk]

theorem actBaseline_capture {v : Int} (hv : s.scanned p = .valid v) :
    actBaseline p 1 s = (s.setBaseline p (some v), .plain .ok s.fe.scanCount) := by
  simp [actBaseline, point_inRange h1 h16, show inRange 1 2 1 = true from rfl, hk, hv]

theorem actBaseline_unread (hv : ∀ v, s.scanned p ≠ .valid v) : actBaseline p 1 s = (s, .plain .conditionPresent p) := by
  cases hr : s.scanned p with
  | valid v => exact absurd hr (hv v)
  | _ => simp [actBaseline, point_inRange h1 h16, show inRange 1 2 1 = true from rfl, hk, hr]

end
end

end Sys2Proof.Machine

open Sys2Proof Sys2Proof.Machine in
/-- Settles O54: SET_POINT check by check and then kind by kind, BASELINE check by check and then by its action, and the
point that carries a linked id. -/
theorem pointsAndBaselinesAreSet : Obligations.PointsAndBaselinesAreSet := by
  unfold Obligations.PointsAndBaselinesAreSet
  refine ⟨fun tag p kind linked limit s hs => ?_, fun tag p action s hs => ?_, fun s p id q => State.linkHolder_some,
    State.linkHolder_eq_none_iff⟩
  · intro i held busy old write zeroed cleared
    have hbusy : (s.taken i).baselineStations p = busy := s.baselineStations_eq p
    have hcleared (u : State) (x : Point) : (u.setWallPoint p x).zeroTilt p = cleared u x := u.setWallPoint_zeroTilt p x
    refine ⟨fun hp => Refuses.of_actOf rfl hs (actSetPoint_outOfRange hp), fun h1 h16 => ⟨fun hb => ?_, fun hb => ?_⟩⟩
    · rw [← hbusy] at hb ⊢
      exact Refuses.of_actOf rfl hs (actSetPoint_busy h1 h16 hb)
    have hfree := hbusy.trans hb
    have hrefuses {k : PointKind} {r : Resp × Nat} (hk : PointKind.ofCode kind = some k)
        (h : s.pointRefusal p k linked limit = some r) : Refuses i s r.1 r.2 :=
      Refuses.of_actOf rfl hs (actSetPoint_refuses h1 h16 hfree hk h)
    have haccepts {k : PointKind} (hk : PointKind.ofCode kind = some k) (h : s.pointRefusal p k linked limit = none) :=
      actSetPoint_accepts (s := s.taken i) h1 h16 hfree hk h
    refine ⟨fun hk => Refuses.of_actOf rfl hs (actSetPoint_unlisted h1 h16 hfree (PointKind.ofCode_none hk)), ?_, ?_, ?_⟩
    · rintro rfl
      refine Serves.of_actOf rfl hs ((haccepts rfl State.pointRefusal_unused).trans ?_)
      rw [if_neg nofun, hcleared]
      rfl
    · rintro rfl
      refine ⟨fun hl => hrefuses rfl (State.pointRefusal_loadCell_outOfRange hl), fun hl =>
        ⟨fun q h0 hq => ?_, fun hq => ?_⟩⟩
      · have hdup := State.pointRefusal_loadCell_linked (s := s) (p := p) (limit := limit) h0 hl
        rw [hq] at hdup
        exact hrefuses rfl hdup
      · have hpass : s.pointRefusal p .loadCell linked limit = none := by
          by_cases h0 : linked = 0
          · rw [h0, State.pointRefusal_loadCell_unlinked]
          · rw [State.pointRefusal_loadCell_linked h0 hl, hq.resolve_left h0, Option.map_none]
        refine Serves.of_actOf rfl hs ((haccepts rfl hpass).trans ?_)
        rw [if_neg nofun, hcleared]
        rfl
    · rintro rfl
      refine ⟨fun hl => hrefuses (r := (.outOfRange, 4)) rfl ?_, fun hl hl' => ?_⟩
      · rw [State.pointRefusal_tilt, inRange_false (hl.imp_left fun h0 => by omega)]
        rfl
      · have hpass : s.pointRefusal p .tilt linked limit = none := by
          rw [State.pointRefusal_tilt, if_pos (inRange_iff.2 ⟨hl, hl'⟩)]
        refine Serves.of_actOf rfl hs ((haccepts rfl hpass).trans ?_)
        rw [if_pos rfl, pointOf_tilt]
        rfl
  · intro i zeroed write
    have hwrite (b : Option Int) : (s.taken i).setBaseline p b = write (s.taken i) b :=
      (s.taken i).setWallPoint_zeroTilt p _
    refine ⟨fun hp => Refuses.of_actOf rfl hs (actBaseline_outOfRange hp), fun h1 h16 =>
      ⟨fun ha => Refuses.of_actOf rfl hs (actBaseline_unlisted h1 h16 ha), fun hlo hhi =>
        ⟨fun hk => Refuses.of_actOf rfl hs (actBaseline_untilted h1 h16 hlo hhi hk), fun hk => ⟨?_, ?_, ?_⟩⟩⟩⟩
    · rintro rfl
      exact Serves.of_actOf rfl hs ((actBaseline_clear (s := s.taken i) h1 h16 hk).trans (by rw [hwrite]))
    · rintro rfl hv
      exact Refuses.of_actOf rfl hs (actBaseline_unread h1 h16 hk hv)
    · rintro v rfl hv
      exact Serves.of_actOf rfl hs ((actBaseline_capture (s := s.taken i) h1 h16 hk hv).trans (by rw [hwrite]; rfl))
end

section
namespace Sys2Proof.Machine

/-! ## The Archive's own changes (R163 to R168, R171, R173) -/

section
variable {a : Archive}

theorem Archive.isFull_iff (a : Archive) : a.isFull = true ↔ slotAt a.slots a.nextSlot ≠ none :=
  Option.isSome_iff_ne_none

theorem Archive.isFull_eq_false_iff (a : Archive) : a.isFull = false ↔ slotAt a.slots a.nextSlot = none :=
  Option.isSome_eq_false_iff.trans Option.isNone_iff_eq_none

theorem Archive.startAppend_eq (a : Archive) (r : Record) :
    a.startAppend r =
      { slots := setSlot a.slots a.nextSlot (.writing r)
        blocks := if a.nextSlot % 128 = 1 then a.blocks.set ((a.nextSlot - 1) / 128) .filling else a.blocks
        nextNumber := a.nextNumber + 1
        nextSlot := a.nextSlot % 1024 + 1
        activity := .appending r.decl.id a.nextNumber a.nextSlot } := by
  by_cases h : a.nextSlot % 128 = 1 <;>
    simp [Archive.startAppend, Archive.setBlock, isFirstSlot, blockOf, Config.blockSize, Config.slotCount, h]

theorem Archive.settle_eq (a : Archive) (slot : Nat) (x : Slot) :
    a.settle slot x =
      { a with
        slots := setSlot a.slots slot x
        blocks := if slot % 128 = 0 then a.blocks.set ((slot - 1) / 128) .full else a.blocks
        activity := .idle } := by
  by_cases h : slot % 128 = 0 <;>
    simp [Archive.settle, Archive.setBlock, isLastSlot, blockOf, Config.blockSize, h]

theorem Archive.block_of_getElem? {b : Nat} {x : BlockState} (h : a.blocks[b - 1]? = some x) : a.block b = x := by
  simp [Archive.block, List.getD_eq_getElem?_getD, h]

end

theorem Stage.closable_iff (x : Stage) :
    x.closable = true ↔ x = .locked ∨ x = .rejected ∨ x = .lockFault ∨ x = .voided := by
  cases x <;> decide

/-! ## CLOSE_ANCHOR (R166) -/

/-- R166: the checks of CLOSE_ANCHOR on the entry found. -/
def State.closeRefusal (s : State) (e : Entry) : Option (Resp × Nat) :=
  firstRefusal
    [(e.stage.closable, .wrongStage, 0), (s.site.clockValid, .clockUnset, 0), (s.archive.activity == .idle, .busy, 0),
     (decide (s.archive.nextNumber < Config.wordEnd), .archiveFull, 0),
     (!s.archive.isFull, .archiveFull, blockOf s.archive.nextSlot)]

section
variable {s : State} {anchor : Nat}

theorem actCloseAnchor_unknown (he : s.entry anchor = none) : actCloseAnchor anchor s = (s, .plain .noSuchAnchor) := by
  simp only [actCloseAnchor, he, refuse_eq]

variable {e : Entry}

theorem actCloseAnchor_refuses (he : s.entry anchor = some e) {r : Resp × Nat} (hr : s.closeRefusal e = some r) :
    actCloseAnchor anchor s = (s, .plain r.1 r.2) := by
  unfold State.closeRefusal at hr
  simp only [actCloseAnchor, he, hr, refuse_eq]

theorem actCloseAnchor_accepts (he : s.entry anchor = some e) (hr : s.closeRefusal e = none) :
    actCloseAnchor anchor s =
      (s.closeAnchor e, ⟨.accepted, 0, [.u32 s.archive.nextNumber, .u16 s.archive.nextSlot]⟩) := by
  unfold State.closeRefusal at hr
  simp only [actCloseAnchor, he, hr, accept_eq]

/-- R164, R166: an accepted close finds a record number left. -/
theorem State.nextNumber_lt_of_closeRefusal (hr : s.closeRefusal e = none) : s.archive.nextNumber < Config.wordEnd := by
  simp only [State.closeRefusal, firstRefusal, Option.map_eq_none_iff, List.find?_eq_none] at hr
  simpa using hr (decide (s.archive.nextNumber < Config.wordEnd), .archiveFull, 0) (by simp)

end

/-! ## The refusals of CLOSE_ANCHOR in their order (R166) -/

section
variable {s : State} {e : Entry}

theorem State.closeRefusal_stage (h : e.stage.closable = false) : s.closeRefusal e = some (.wrongStage, 0) :=
  firstRefusal_fail h _

variable (hstage : e.stage.closable = true)

include hstage

theorem State.closeRefusal_clock (h : s.site.clockValid = false) : s.closeRefusal e = some (.clockUnset, 0) :=
  (firstRefusal_pass hstage _).trans (firstRefusal_fail h _)

variable (hclock : s.site.clockValid = true)

include hclock

theorem State.closeRefusal_activity (h : s.archive.activity ≠ .idle) : s.closeRefusal e = some (.busy, 0) :=
  (firstRefusal_pass hstage _).trans ((firstRefusal_pass hclock _).trans (firstRefusal_fail (by simpa using h) _))

variable (hidle : s.archive.activity = .idle)

include hidle

theorem State.closeRefusal_number (h : Config.wordEnd ≤ s.archive.nextNumber) :
    s.closeRefusal e = some (.archiveFull, 0) := by
  simp [State.closeRefusal, firstRefusal, hstage, hclock, hidle, h]

variable (hnumber : s.archive.nextNumber < Config.wordEnd)

include hnumber

theorem State.closeRefusal_slot (h : s.archive.isFull = true) :
    s.closeRefusal e = some (.archiveFull, blockOf s.archive.nextSlot) := by
  simp [State.closeRefusal, firstRefusal, hstage, hclock, hidle, hnumber, h]

theorem State.closeRefusal_pass (h : s.archive.isFull = false) : s.closeRefusal e = none := by
  simp [State.closeRefusal, firstRefusal, hstage, hclock, hidle, hnumber, h]

end

/-- R164, R166, R173: the record formed and written, the entry CLOSING, and ARCHIVE_FULL where the ring has come round. -/
theorem State.closeAnchor_eq (s : State) (e : Entry) :
    s.closeAnchor e =
      (let a := s.archive.startAppend (Record.of e s.archive.nextNumber s.archive.nextSlot s.site.clock)
       let v : State := { s.modEntry e.decl.id Entry.closing with archive := a }
       if slotAt a.slots a.nextSlot ≠ none then v.notice .archiveFull .archive none (blockOf a.nextSlot) else v) := by
  simp only [← Archive.isFull_iff]
  rfl

/-! ## MARK_EXPORTED and ERASE_OLDEST (R170, R171) -/

section
variable {s : State} {anchor : Nat}

/-- R163, R170: the blocks are 1 to 8. -/
theorem block_inRange {b : Nat} (h1 : 1 ≤ b) (h8 : b ≤ 8) : inRange 1 Config.blockCount b = true := inRange_iff.2 ⟨h1, h8⟩

theorem block_outOfRange {b : Nat} (h : b = 0 ∨ 8 < b) : inRange 1 Config.blockCount b = false :=
  inRange_false (h.imp_left fun h0 => by omega)

theorem actMarkExported_outOfRange {b : Nat} (h : b = 0 ∨ 8 < b) : actMarkExported b s = (s, .plain .outOfRange 1) := by
  simp [actMarkExported, block_outOfRange h]

section
variable {b : Nat} (h1 : 1 ≤ b) (h8 : b ≤ 8)

include h1 h8

theorem actMarkExported_exported (h : s.archive.block b = .exported) : actMarkExported b s = (s, .plain .ok) := by
  simp [actMarkExported, block_inRange h1 h8, h]

theorem actMarkExported_full (h : s.archive.block b = .full) :
    actMarkExported b s = ({ s with archive := s.archive.setBlock b .exported }, .plain .ok) := by
  simp [actMarkExported, block_inRange h1 h8, h]

/-- R170: a block that is neither FULL nor EXPORTED is refused with its state. -/
theorem actMarkExported_refuses {x : BlockState} (h : s.archive.block b = x) (hfull : x ≠ .full) (hexp : x ≠ .exported) :
    actMarkExported b s = (s, .plain .wrongStage x.code) := by
  cases x with
  | full => exact absurd rfl hfull
  | exported => exact absurd rfl hexp
  | _ => simp [actMarkExported, block_inRange h1 h8, h]

end

theorem actEraseOldest_busy (h : s.archive.activity ≠ .idle) : actEraseOldest s = (s, .plain .busy) := by
  simp [actEraseOldest, h]

section
variable (hidle : s.archive.activity = .idle)

include hidle

theorem actEraseOldest_empty (ho : s.archive.oldest = none) : actEraseOldest s = (s, .plain .notExported) := by
  simp [actEraseOldest, hidle, ho]

theorem actEraseOldest_unexported {b : Nat} (ho : s.archive.oldest = some b) (hb : s.archive.block b ≠ .exported) :
    actEraseOldest s = (s, .plain .notExported b) := by
  simp [actEraseOldest, hidle, ho, hb]

theorem actEraseOldest_accepts {b : Nat} (ho : s.archive.oldest = some b) (hb : s.archive.block b = .exported) :
    actEraseOldest s =
      ({ s with archive := { s.archive.setBlock b .erasing with activity := .erasing b } }, .plain .accepted b) := by
  simp [actEraseOldest, hidle, ho, hb]

end

/-! ## The ends of an append and of an erase, while the part runs (R167, R168, R171) -/

section
variable (hrun : s.phase = .running) {n k b : Nat} {ok : Bool}

include hrun

theorem exec_appendEnd_done (ha : s.archive.activity = .appending anchor n k) {r : Record}
    (hr : slotAt s.archive.slots k = some (.writing r)) :
    exec (.appendEnd true) s = .next (s.appendDone anchor k r) := by
  simp only [exec, execAppendEnd, State.event_running hrun, ha, hr]

theorem exec_appendEnd_torn (ha : s.archive.activity = .appending anchor n k) :
    exec (.appendEnd false) s = .next (s.appendTorn anchor n k) := by
  simp only [exec, execAppendEnd, State.event_running hrun, ha]

theorem exec_appendEnd_none (ha : ∀ anchor n k, s.archive.activity ≠ .appending anchor n k) :
    exec (.appendEnd ok) s = .next s := by
  simp only [exec, execAppendEnd, State.event_running hrun]
  cases h : s.archive.activity with
  | appending anchor n k => exact absurd h (ha anchor n k)
  | _ => rfl

theorem exec_eraseEnd_erased (ha : s.archive.activity = .erasing b) :
    exec (.eraseEnd true) s =
      .next (if s.archive.isFull && !(s.archive.endErase b true).isFull then
        State.endCondition { s with archive := s.archive.endErase b true } .archiveFull .archive
      else { s with archive := s.archive.endErase b true }) := by
  simp [exec, execEraseEnd, State.event_running hrun, ha]

theorem exec_eraseEnd_failed (ha : s.archive.activity = .erasing b) :
    exec (.eraseEnd false) s = .next (State.raise { s with archive := s.archive.endErase b false } .archiveWrite) := by
  simp [exec, execEraseEnd, State.event_running hrun, ha]

theorem exec_eraseEnd_none (ha : ∀ b, s.archive.activity ≠ .erasing b) : exec (.eraseEnd ok) s = .next s := by
  simp only [exec, execEraseEnd, State.event_running hrun]
  cases h : s.archive.activity with
  | erasing b => exact absurd h (ha b)
  | _ => rfl

end
end

end Sys2Proof.Machine
end

section
namespace Sys2Proof.Machine

/-! ## Operations that leave the Archive as it is -/

section
variable (s : State) (st : Stn)

@[simp] theorem State.applyForces_archive : s.applyForces.archive = s.archive := by
  obtain ⟨a, b, g, h⟩ := s.applyForces_shape
  rw [h]

@[simp] theorem State.hold_archive : (s.hold st).archive = s.archive := by
  obtain ⟨a, b, n, h⟩ := s.hold_shape st
  rw [h]

@[simp] theorem State.addCause_archive (c : Cause) : (s.addCause c st).archive = s.archive := by
  obtain ⟨a, b, n, h⟩ := s.addCause_shape c st
  rw [h]

@[simp] theorem State.thawCauses_archive : (s.thawCauses st).archive = s.archive := s.modCtx_archive st _

@[simp] theorem State.takeDecision_archive (d : Decision) : (s.takeDecision st d).archive = s.archive :=
  s.modStn_archive st _

@[simp] theorem State.endRun_archive (r : RunEnd) (c : Option HaltCause) : (s.endRun r c).archive = s.archive := by
  obtain ⟨w, h⟩ := s.endRun_shape r c
  rw [h]

@[simp] theorem State.handCause_archive (c : Cause) (k : HaltCause) : (s.handCause c k).archive = s.archive := by
  obtain ⟨a, b, w, g, n, h⟩ := s.handCause_shape c k
  rw [h]

@[simp] theorem State.addPassCause_archive (c : Cause) : (s.addPassCause c).archive = s.archive := by
  obtain ⟨g, h⟩ := s.addPassCause_shape c
  rw [h]

@[simp] theorem State.dropCause_archive (c : Cause) : (s.dropCause c).archive = s.archive := by
  obtain ⟨a, b, g, h⟩ := s.dropCause_shape c
  rw [h]

@[simp] theorem State.arbiter_archive : s.arbiter.archive = s.archive := by
  obtain ⟨r, g, n, h⟩ := s.arbiter_shape
  rw [h]

@[simp] theorem State.completePass_archive : s.completePass.archive = s.archive := by
  obtain ⟨r, g, n, h⟩ := s.completePass_shape
  rw [h]

@[simp] theorem State.endPass_archive (e : PassEnd) : (s.endPass e).archive = s.archive := by
  obtain ⟨r, g, n, h⟩ := s.endPass_shape e
  rw [h]

@[simp] theorem State.judgeTrip_archive : s.judgeTrip.archive = s.archive := by
  obtain ⟨t, a, b, w, g, r, n, h⟩ := s.judgeTrip_shape
  rw [h]

@[simp] theorem State.raise_archive (f : Flag) : (s.raise f).archive = s.archive := by
  obtain ⟨d, c, t, a, b, w, g, r, n, h⟩ := s.raise_shape f
  rw [h]

@[simp] theorem State.setEmergency_archive (line : EmLine) : (s.setEmergency line).archive = s.archive := by
  simp [State.setEmergency, apply_ite State.archive]

@[simp] theorem State.clearEmergency_archive : s.clearEmergency.archive = s.archive := by simp [State.clearEmergency]

@[simp] theorem State.setStations_archive (e : Enables) : (s.setStations e).archive = s.archive := by
  simp [State.setStations, apply_ite State.archive]

/-! The stressing stations. -/

@[simp] theorem State.beginStep_archive : (s.beginStep st).archive = s.archive := by
  unfold State.beginStep
  dsimp only
  (repeat' split) <;> simp

@[simp] theorem State.restartStep_archive : (s.restartStep st).archive = s.archive := by
  unfold State.restartStep
  (repeat' split) <;> simp

@[simp] theorem State.completeStep_archive : (s.completeStep st).archive = s.archive := by
  unfold State.completeStep
  dsimp only
  (repeat' split) <;> simp

@[simp] theorem State.releaseDone_archive : (s.releaseDone st).archive = s.archive := by
  unfold State.releaseDone
  dsimp only
  (repeat' split) <;> simp

@[simp] theorem State.endTest_archive : (s.endTest st).archive = s.archive := by
  unfold State.endTest
  dsimp only
  (repeat' split) <;> simp

@[simp] theorem State.seatEvent_archive : (s.seatEvent st).archive = s.archive := by
  unfold State.seatEvent
  dsimp only
  (repeat' split) <;> simp

@[simp] theorem State.holdEnd_archive : (s.holdEnd st).archive = s.archive := by
  unfold State.holdEnd
  dsimp only
  (repeat' split) <;> simp

@[simp] theorem State.creepReading_archive : (s.creepReading st).archive = s.archive := by
  unfold State.creepReading
  dsimp only
  (repeat' split) <;> simp

@[simp] theorem State.holdSample_archive : (s.holdSample st).archive = s.archive := by
  unfold State.holdSample
  dsimp only
  (repeat' split) <;> simp

@[simp] theorem State.targetReached_archive : (s.targetReached st).archive = s.archive := by simp [State.targetReached]

@[simp] theorem State.rampSample_archive (c : TestCtx) (m : Motion) : (s.rampSample st c m).archive = s.archive := by
  unfold State.rampSample
  dsimp only
  (repeat' split) <;> simp

@[simp] theorem State.releaseSample_archive (c : TestCtx) : (s.releaseSample st c).archive = s.archive := by
  unfold State.releaseSample
  dsimp only
  (repeat' split) <;> simp

@[simp] theorem State.endStroke_archive : (s.endStroke st).archive = s.archive := by
  unfold State.endStroke
  dsimp only
  (repeat' split) <;> simp

@[simp] theorem State.stationSample_archive : (s.stationSample st).archive = s.archive := by
  unfold State.stationSample
  dsimp only
  (repeat' split) <;> simp

@[simp] theorem State.startTest_archive (e : Entry) (slot : Nat) (p : Plan) :
    (s.startTest st e slot p).archive = s.archive := by
  simp [State.startTest, apply_ite State.archive]

@[simp] theorem State.rebase_archive : (s.rebase st).archive = s.archive := by
  unfold State.rebase
  split <;> simp

@[simp] theorem State.encoderMoves_archive (line : EncLine) : (s.encoderMoves st line).archive = s.archive :=
  s.modStn_archive st _

@[simp] theorem State.encoderEdge_archive (line : EncLine) : (s.encoderEdge st line).archive = s.archive := by
  simp [State.encoderEdge, apply_ite State.archive]

@[simp] theorem State.riseScan_archive : (s.riseScan st).archive = s.archive := by
  simp [State.riseScan, apply_ite State.archive]

/-! Self-tests. -/

@[simp] theorem State.startSelftest_archive (g : TestedGuard) : (s.startSelftest g).archive = s.archive := by
  cases g <;> simp [State.startSelftest]

@[simp] theorem State.leaveSelftest_archive (passed : Bool) (g : TestedGuard) :
    (s.leaveSelftest passed g).archive = s.archive := by
  cases g <;> simp [State.leaveSelftest]

@[simp] theorem State.endSelftest_archive (g : TestedGuard) (tripAt : Option Nat) :
    (s.endSelftest g tripAt).archive = s.archive := by
  simp [State.endSelftest, apply_ite State.archive]

@[simp] theorem State.selfNext_archive (g : TestedGuard) (self : SelfTest) (r : Option Bool) :
    (s.selfNext g self r).archive = s.archive := by
  cases r <;> simp [State.selfNext]

@[simp] theorem State.selfLoad_archive : (s.selfLoad st).archive = s.archive := by
  unfold State.selfLoad
  split <;> simp

@[simp] theorem State.selfPressure_archive : s.selfPressure.archive = s.archive := by
  unfold State.selfPressure
  split <;> simp

@[simp] theorem State.selfTension_archive : s.selfTension.archive = s.archive := by
  unfold State.selfTension
  split <;> simp

/-! Guards, the winch and the manifold. -/

@[simp] theorem State.judgeMark_archive (code : Nat) (isOpen isOver : Flag) :
    (s.judgeMark code isOpen isOver).archive = s.archive := by
  unfold State.judgeMark
  split <;> simp

@[simp] theorem State.overloadTrip_archive : (s.overloadTrip st).archive = s.archive := by simp [State.overloadTrip]

@[simp] theorem State.overloadSample_archive : (s.overloadSample st).archive = s.archive := by
  unfold State.overloadSample
  dsimp only
  (repeat' split) <;> simp

@[simp] theorem State.loadSample_archive (code : Nat) (guardFirst : Bool) :
    (s.loadSample st code guardFirst).archive = s.archive := by
  simp [State.loadSample, apply_ite State.archive]

@[simp] theorem State.paySample_archive : s.paySample.archive = s.archive := by
  simp [State.paySample, apply_ite State.archive]

@[simp] theorem State.winchTrip_archive (r : RunEnd) : (s.winchTrip r).archive = s.archive := by
  simp [State.winchTrip, State.noteWinch_eq]

@[simp] theorem State.completeRun_archive : s.completeRun.archive = s.archive := by
  unfold State.completeRun
  split <;> simp

@[simp] theorem State.winchSample_archive : s.winchSample.archive = s.archive := by
  unfold State.winchSample
  dsimp only
  split <;> simp

@[simp] theorem State.tensionSample_archive (code : Nat) : (s.tensionSample code).archive = s.archive := by
  simp [State.tensionSample, State.formPaid, apply_ite State.archive]

@[simp] theorem State.refusalSample_archive : s.refusalSample.archive = s.archive := by
  unfold State.refusalSample
  dsimp only
  (repeat' split) <;> simp

@[simp] theorem State.overpressureTrip_archive : s.overpressureTrip.archive = s.archive := by
  simp [State.overpressureTrip]

@[simp] theorem State.overpressureSample_archive : s.overpressureSample.archive = s.archive := by
  simp [State.overpressureSample, apply_ite State.archive]

@[simp] theorem State.groutSample_archive (guardFirst : Bool) : (s.groutSample guardFirst).archive = s.archive := by
  simp [State.groutSample, apply_ite State.archive]

@[simp] theorem State.pressureSample_archive (code : Nat) (guardFirst : Bool) :
    (s.pressureSample code guardFirst).archive = s.archive := by
  simp [State.pressureSample, apply_ite State.archive]

@[simp] theorem State.strayPulse_archive : s.strayPulse.archive = s.archive := by
  simp [State.strayPulse, apply_ite State.archive]

@[simp] theorem State.wallScan_archive : s.wallScan.archive = s.archive := by
  simp [State.wallScan, apply_ite State.archive]

/-! The site minute, the Site Store and the link. -/

@[simp] theorem visitPost_archive (acc : State × List Nat) (id : Nat) : (visitPost acc id).1.archive = acc.1.archive := by
  unfold visitPost
  dsimp only
  (repeat' split) <;> simp

theorem foldl_visitPost_archive (ids : List Nat) (acc : State × List Nat) :
    (ids.foldl visitPost acc).1.archive = acc.1.archive := by
  induction ids generalizing acc with
  | nil => rfl
  | cons id rest ih => rw [List.foldl_cons, ih, visitPost_archive]

@[simp] theorem visitCure_archive (id : Nat) : (visitCure s id).archive = s.archive := by
  unfold visitCure
  (repeat' split) <;> simp

theorem foldl_visitCure_archive (ids : List Nat) (s : State) : (ids.foldl visitCure s).archive = s.archive := by
  induction ids generalizing s with
  | nil => rfl
  | cons id rest ih => rw [List.foldl_cons, ih, visitCure_archive]

@[simp] theorem State.judgeWaiting_archive (w : List Nat) : (s.judgeWaiting w).archive = s.archive := by
  cases w <;> simp [State.judgeWaiting, apply_ite State.archive]

@[simp] theorem State.siteMinute_archive : s.siteMinute.archive = s.archive := by
  simp [State.siteMinute, State.scheduler, foldl_visitPost_archive, foldl_visitCure_archive, apply_ite State.archive]

@[simp] theorem State.setTime_archive (time : Nat) : (s.setTime time).archive = s.archive := by
  simp [State.setTime, apply_ite State.archive]

@[simp] theorem State.writeSettings_archive (t : Settings) : (s.writeSettings t).archive = s.archive := by
  rw [s.writeSettings_eq]

@[simp] theorem State.drainSelector_archive (sel : Nat) : (s.drainSelector sel).archive = s.archive := by
  unfold State.drainSelector
  split <;> rfl

@[simp] theorem State.resumeLink_archive : s.resumeLink.archive = s.archive := by simp [State.resumeLink]

@[simp] theorem State.watchExpires_archive (window : Nat) : (s.watchExpires window).archive = s.archive := by
  simp [State.watchExpires]

@[simp] theorem State.restartWatch_archive : s.restartWatch.archive = s.archive := by rw [s.restartWatch_eq]

/-! Start-up. -/

@[simp] theorem State.clearByCause_archive : s.clearByCause.archive = s.archive := by
  simp [State.clearByCause, apply_ite State.archive]

@[simp] theorem State.loseClock_archive : s.loseClock.archive = s.archive := by simp [State.loseClock]

@[simp] theorem State.readLines_archive : s.readLines.archive = s.archive := by
  unfold State.readLines
  split <;> rfl

end

end Sys2Proof.Machine
end

section
namespace Sys2Proof.Machine

/-! ## The operations of the Archive (R163, R164, R174) -/

/-- R163, R164, R174: the Archive in its canonical form, its counters and its append in their ranges. -/
def Archive.Sound (a : Archive) : Prop :=
  slotsWf a.slots = true ∧ 1 ≤ a.nextSlot ∧ a.nextSlot ≤ Config.slotCount ∧ 1 ≤ a.nextNumber ∧
    a.nextNumber ≤ Config.wordEnd ∧ a.blocks.length = Config.blockCount ∧ a.activity.slotOk = true

theorem State.archiveSound_iff (s : State) : s.archiveSound ↔ s.archive.Sound := Iff.rfl

theorem State.archiveSound_of_eq {s t : State} (h : s.archiveSound) (ht : t.archive = s.archive) : t.archiveSound := by
  rw [State.archiveSound_iff, ht]
  exact h

section
variable {a : Archive}

theorem Archive.Sound.slots_wf (h : a.Sound) : slotsWf a.slots = true := And.left h

theorem Archive.Sound.slot_ok (h : a.Sound) : a.activity.slotOk = true := by
  obtain ⟨-, -, -, -, -, -, hact⟩ := h
  exact hact

theorem Archive.Sound.setBlock (h : a.Sound) (b : Nat) (x : BlockState) : (a.setBlock b x).Sound := by
  obtain ⟨hslots, hlo, hhi, hnum, hend, hblocks, hact⟩ := h
  exact ⟨hslots, hlo, hhi, hnum, hend, (List.length_set ..).trans hblocks, hact⟩

theorem Archive.Sound.withSlots (h : a.Sound) {l : List (Nat × Slot)} (hl : slotsWf l = true) :
    Archive.Sound { a with slots := l } := by
  obtain ⟨-, hrest⟩ := h
  exact ⟨hl, hrest⟩

theorem Archive.Sound.withActivity (h : a.Sound) {x : Activity} (hx : x.slotOk = true) :
    Archive.Sound { a with activity := x } := by
  obtain ⟨hslots, hlo, hhi, hnum, hend, hblocks, -⟩ := h
  exact ⟨hslots, hlo, hhi, hnum, hend, hblocks, hx⟩

/-- R164: an append starts where a record number is left; the next slot goes round the ring. -/
theorem Archive.Sound.startAppend (h : a.Sound) (hroom : a.nextNumber < Config.wordEnd) (r : Record) :
    (a.startAppend r).Sound := by
  have hblocks : (if isFirstSlot a.nextSlot then a.setBlock (blockOf a.nextSlot) .filling else a).Sound := by
    split
    · exact h.setBlock _ _
    · exact h
  obtain ⟨hslots, hlo, hhi, -⟩ := h
  obtain ⟨-, -, -, -, -, hlength, -⟩ := hblocks
  exact ⟨slotsWf_setSlot _ _ _ hslots hlo hhi, Nat.succ_pos _, Nat.mod_lt _ (by decide), Nat.succ_pos _, hroom, hlength,
    decide_eq_true ⟨hlo, hhi⟩⟩

/-- R167, R168: an append settles the slot it was started for, a slot of the ring. -/
theorem Archive.Sound.settle (h : a.Sound) {anchor number slot : Nat} (ha : a.activity = .appending anchor number slot)
    (x : Slot) : (a.settle slot x).Sound := by
  have hslot : 1 ≤ slot ∧ slot ≤ Config.slotCount := by
    have hact := h.slot_ok
    rw [ha] at hact
    exact of_decide_eq_true hact
  obtain ⟨hlo, hhi⟩ := hslot
  have hslots : slotsWf (setSlot a.slots slot x) = true := slotsWf_setSlot _ _ _ h.slots_wf hlo hhi
  unfold Archive.settle
  dsimp only
  split
  · exact ((h.setBlock _ _).withSlots hslots).withActivity rfl
  · exact (h.withSlots hslots).withActivity rfl

/-- R171: an erase ends. -/
theorem Archive.Sound.endErase (h : a.Sound) (b : Nat) (ok : Bool) : (a.endErase b ok).Sound := by
  unfold Archive.endErase
  split
  · exact ((h.setBlock _ _).withSlots (slotsWf_eraseBlock _ b h.slots_wf)).withActivity rfl
  · exact (h.setBlock _ _).withActivity rfl

/-- R174: the scan changes what slots hold, and the states of blocks. -/
theorem Archive.Sound.scan (h : a.Sound) : a.scan.Sound := by
  obtain ⟨hslots, hlo, hhi, hnum, hend, hblocks, hact⟩ := h
  rw [Archive.scan_eq hslots hblocks]
  exact ⟨slotsWf_map _ _ hslots, hlo, hhi, hnum, hend, by simp [Config.blockCount], hact⟩

end

/-! ## The events and requests that change the Archive -/

section
variable {s : State}

/-- R199: a reset ends the append or the erase. -/
theorem State.cut_archiveSound (h : s.archiveSound) : s.cut.archive.Sound := Archive.Sound.withActivity h rfl

theorem State.beginStartUp_archive (s : State) : s.beginStartUp.archive = s.archive.scan := by
  simp [State.beginStartUp, apply_ite State.archive]

theorem State.leaveReset_archiveSound (h : s.archive.Sound) : s.leaveReset.archiveSound := by
  unfold State.leaveReset
  split
  · exact h
  · rw [State.archiveSound_iff, State.beginStartUp_archive]
    exact h.scan

theorem State.finishErase_archiveSound (h : s.archiveSound) (ok : Bool) : (s.finishErase ok).archive.Sound := by
  unfold State.finishErase
  split
  · exact h
  · next b _ =>
    have hended : (s.archive.endErase b ok).Sound := Archive.Sound.endErase h b ok
    simpa [apply_ite State.archive] using hended

theorem State.endStartUp_archive (s : State) (ok : Bool) : (s.endStartUp ok).archive = (s.finishErase ok).archive := by
  simp [State.endStartUp, apply_ite State.archive]

theorem State.appendDone_archive (s : State) (anchor slot : Nat) (r : Record) :
    (s.appendDone anchor slot r).archive = s.archive.settle slot (.valid r) := by
  simp [State.appendDone]

theorem State.appendTorn_archive (s : State) (anchor number slot : Nat) :
    (s.appendTorn anchor number slot).archive = s.archive.settle slot (.torn number) := by
  simp [State.appendTorn]

theorem State.closeAnchor_archive (s : State) (e : Entry) :
    (s.closeAnchor e).archive =
      s.archive.startAppend (Record.of e s.archive.nextNumber s.archive.nextSlot s.site.clock) := by
  simp [State.closeAnchor, apply_ite State.archive]

/-- R166: a close is accepted only where a record number is left. -/
theorem actCloseAnchor_archiveSound (h : s.archiveSound) (anchor : Nat) : (actCloseAnchor anchor s).1.archiveSound := by
  cases he : s.entry anchor with
  | none =>
    rw [actCloseAnchor_unknown he]
    exact h
  | some e =>
    cases hr : s.closeRefusal e with
    | some r =>
      rw [actCloseAnchor_refuses he hr]
      exact h
    | none =>
      rw [actCloseAnchor_accepts he hr, State.archiveSound_iff, State.closeAnchor_archive]
      exact Archive.Sound.startAppend h (State.nextNumber_lt_of_closeRefusal hr) _

/-- R170: a block of the table changes its state. -/
theorem actMarkExported_archiveSound (h : s.archiveSound) (block : Nat) :
    (actMarkExported block s).1.archiveSound := by
  unfold actMarkExported
  split
  · exact h
  · split
    · exact h
    · exact Archive.Sound.setBlock h _ _
    · exact h

/-- R171: the oldest block changes its state, and the erase starts. -/
theorem actEraseOldest_archiveSound (h : s.archiveSound) : (actEraseOldest s).1.archiveSound := by
  unfold actEraseOldest
  split
  · exact h
  · split
    · exact h
    · split
      · exact (Archive.Sound.setBlock h _ _).withActivity rfl
      · exact h

end
end Sys2Proof.Machine
end

section
namespace Sys2Proof.Machine

/-! ## The Archive through the blocks of the requests -/

section
variable {s : State}

theorem withStation_archive (s : State) (station : Nat) {act : Stn → State × Answer}
    (hact : ∀ st, (act st).1.archive = s.archive) : (withStation station s act).1.archive = s.archive := by
  unfold withStation
  split
  · rfl
  · split
    · exact hact _
    · rfl

theorem actHoldTest_archive (s : State) (station : Nat) : (actHoldTest station s).1.archive = s.archive := by
  refine withStation_archive s station fun st => ?_
  split <;> simp

theorem actResumeTest_archive (s : State) (station rebase : Nat) :
    (actResumeTest station rebase s).1.archive = s.archive := by
  unfold actResumeTest
  split
  · rfl
  · refine withStation_archive s station fun st => ?_
    dsimp only
    (repeat' split) <;> simp

theorem actAbortTest_archive (s : State) (station : Nat) : (actAbortTest station s).1.archive = s.archive := by
  refine withStation_archive s station fun st => ?_
  (repeat' split) <;> simp

theorem actAdjustTest_archive (s : State) (station : Nat) (plo ext : RawOption) :
    (actAdjustTest station plo ext s).1.archive = s.archive := by
  unfold actAdjustTest
  (iterate 2 (split; · rfl))
  refine withStation_archive s station fun st => ?_
  dsimp only
  (iterate 6 (split; · rfl))
  exact s.modCtx_archive st _

theorem actSetCalibration_archive (s : State) (sel : Nat) (zero : Int) (span signed invert : Nat) :
    (actSetCalibration sel zero span signed invert s).1.archive = s.archive := by
  unfold actSetCalibration
  dsimp only
  (iterate 6 (split; · rfl))
  exact State.drainSelector_archive _ _

theorem actSetLimits_archive (s : State) (items : List (Nat × Nat)) :
    (actSetLimits items s).1.archive = s.archive := by
  unfold actSetLimits
  dsimp only
  (iterate 4 (split; · rfl))
  simp [State.applyMasks]

/-- The block of every request keeps the Archive sound: those of CLOSE_ANCHOR, MARK_EXPORTED and ERASE_OLDEST change it,
and the others leave it as it is. -/
theorem actOf_archiveSound (h : s.archiveSound) (i : Instr) : (actOf i s).1.archiveSound := by
  cases i with
  | closeAnchor _ anchor => exact actCloseAnchor_archiveSound h anchor
  | markExported _ block => exact actMarkExported_archiveSound h block
  | eraseOldest => exact actEraseOldest_archiveSound h
  | holdTest _ station => exact State.archiveSound_of_eq h (actHoldTest_archive s station)
  | resumeTest _ station rebase => exact State.archiveSound_of_eq h (actResumeTest_archive s station rebase)
  | abortTest _ station => exact State.archiveSound_of_eq h (actAbortTest_archive s station)
  | adjustTest _ station plo ext => exact State.archiveSound_of_eq h (actAdjustTest_archive s station plo ext)
  | setCalibration _ sel zero span signed invert =>
    exact State.archiveSound_of_eq h (actSetCalibration_archive s sel zero span signed invert)
  | setLimits _ items => exact State.archiveSound_of_eq h (actSetLimits_archive s items)
  | takeNotice | setNoticeLevel | declare | amend | void | loadPlan | startTest | setStations | clearFault | clearGroup
    | runSelftest | clearEmergency | winchRun | winchStop | assignPort | releasePort | groutRequest | groutCancel
    | groutStop | groutPause | groutResume | setPoint | baseline | setSettings | setTime | setTag | resumeLink =>
    refine State.archiveSound_of_eq h ?_
    dsimp only [actOf, actTakeNotice, actSetNoticeLevel, actDeclare, actAmend, actVoid, actLoadPlan, actStartTest,
      actSetStations, actClearFault, actClearGroup, actRunSelftest, actClearEmergency, actWinchRun, actWinchStop,
      actAssignPort, actReleasePort, actGroutRequest, actGroutCancel, actGroutStop, actGroutPause, actGroutResume,
      actSetPoint, actBaseline, actSetSettings, actSetTime, actSetTag, actResumeLink]
    (repeat' split) <;> simp [State.startRun, State.resumePass, State.clearCombined, State.setBaseline]
  | reset | lockLimits | unknownKind | byteReceived | receiverGap | replySent | linkWatchExpiry | powerReset
    | pinReset | startUpEnd | emergencyFallingEdge | sample | holdEnd | creepReading | rampTimeout
    | wholeSecond | releaseDutyEnd | seatPulseEnd | encoderEdge | drumPulse | flowPulse | noFlowTime | noFlow
    | siteMinute | scanComplete | jackOverloadTrip | groutRefusalTrip | groutOverpressureTrip | winchJamTrip
    | winchSlackTrip | neighbourRiseTrip | wallTiltTrip | selftestFail | brakeIntervalExpiry | arbiterServe
    | valveTravelEnd | pauseExpired | appendEnd | eraseEnd | emergencyLineRise | pwmPeriodStart
    | siteClockSecond | resetPinRelease => exact h
  | _ => exact State.archiveSound_of_eq h (congrArg State.archive (actOf_query rfl s))

/-! ## The Archive through the link -/

theorem State.answer_archiveSound {kind tag : Nat} {i : Instr} (h : s.archiveSound) :
    (s.answer kind tag (actOf i)).archiveSound := by
  unfold State.answer
  split
  · exact h
  · exact actOf_archiveSound h i

theorem takeFrame_archiveSound (h : s.archiveSound) (f : Frame) : (takeFrame f s).archiveSound := by
  unfold takeFrame
  split
  · exact h
  · split
    · exact State.answer_archiveSound h
    · exact h

theorem State.frameArrives_archiveSound {f : Frame} {take : State → State} (h : s.archiveSound)
    (ht : ∀ u : State, u.archiveSound → (take u).archiveSound) : (s.frameArrives f take).archiveSound := by
  unfold State.frameArrives
  split
  · exact h
  · extract_lets watched link joined
    have hw : watched.archiveSound := by
      simp only [watched]
      split
      · rw [s.restartWatch_eq]; exact h
      · exact h
    split
    · exact hw
    · split
      · exact ht joined hw
      · exact hw

theorem State.nextFrame_archiveSound (h : s.archiveSound) : s.nextFrame.archiveSound := by
  unfold State.nextFrame
  dsimp only
  split
  · exact h
  · exact takeFrame_archiveSound (s := { s with link := { s.link with queue := s.link.queue.tail, reply := none } }) h _

end

/-! ## The Archive through every command -/

section
variable {s t : State}

theorem State.archiveSound_of_next {u : State} (ht : (.next u : Host.Outcome State Fault Refusal) = .next t)
    (hu : u.archive.Sound) : t.archiveSound := by
  injection ht with ht
  exact ht ▸ hu

/-- Every command keeps the Archive sound: the requests, the resets, the end of start-up and the ends of an append and of
an erase may change it, and every other event leaves it as it is. -/
theorem exec_archiveSound (i : Instr) (h : s.archiveSound) (ht : exec i s = .next t) : t.archiveSound := by
  by_cases hi : i.isRequest = true
  · rw [exec_request hi] at ht
    exact State.archiveSound_of_next ht (State.frameArrives_archiveSound h fun _ hu => State.answer_archiveSound hu)
  cases i with
  | unknownKind kind tag body =>
    exact State.archiveSound_of_next ht (State.frameArrives_archiveSound h fun _ hu => takeFrame_archiveSound hu _)
  | byteReceived b stopError =>
    refine State.archiveSound_of_next ht ?_
    dsimp only
    split
    · split
      · exact h
      · split
        · exact h
        · exact State.frameArrives_archiveSound h fun _ hu => takeFrame_archiveSound hu _
    · exact h
  | replySent =>
    refine State.archiveSound_of_next ht ?_
    dsimp only
    (repeat' split)
    · exact h
    · exact State.leaveReset_archiveSound (State.cut_archiveSound h)
    · exact State.nextFrame_archiveSound h
    · exact h
  | powerReset up lost =>
    exact State.archiveSound_of_next ht (State.leaveReset_archiveSound (State.cut_archiveSound h))
  | pinReset => exact State.archiveSound_of_next ht (State.leaveReset_archiveSound (State.cut_archiveSound h))
  | resetPinRelease =>
    refine State.archiveSound_of_next ht ?_
    split
    · exact State.leaveReset_archiveSound h
    · exact h
  | startUpEnd ok =>
    refine State.archiveSound_of_next ht ?_
    split
    · rw [State.endStartUp_archive]
      exact State.finishErase_archiveSound h ok
    · exact h
  | appendEnd ok =>
    refine State.archiveSound_of_next ht ?_
    dsimp only
    split
    · split
      · next ha =>
        split
        · rw [State.appendDone_archive]
          exact Archive.Sound.settle h ha _
        · rw [State.appendTorn_archive]
          exact Archive.Sound.settle h ha _
      all_goals exact h
    · exact h
  | eraseEnd ok =>
    refine State.archiveSound_of_next ht ?_
    dsimp only
    split
    · split
      · next b _ =>
        have hended : (s.archive.endErase b ok).Sound := Archive.Sound.endErase h b ok
        simpa [apply_ite State.archive] using hended
      all_goals exact h
    · exact h
  | arbiterServe | encoderEdge | emergencyLineRise =>
    exact State.archiveSound_of_next ht (State.archiveSound_of_eq h (by simp [apply_ite State.archive]))
  | receiverGap | linkWatchExpiry | emergencyFallingEdge | sample | holdEnd | creepReading | rampTimeout | wholeSecond
    | releaseDutyEnd | seatPulseEnd | drumPulse | flowPulse | noFlowTime | noFlow | siteMinute
    | scanComplete | jackOverloadTrip | groutRefusalTrip | groutOverpressureTrip | winchJamTrip | winchSlackTrip
    | neighbourRiseTrip | wallTiltTrip | selftestFail | brakeIntervalExpiry | valveTravelEnd | pauseExpired
    | pwmPeriodStart | siteClockSecond =>
    refine State.archiveSound_of_next ht (State.archiveSound_of_eq h ?_)
    dsimp only
    (repeat' split) <;> simp [State.publishScan, State.enterPumping]
  | _ => exact absurd rfl hi

end

end Sys2Proof.Machine

open Sys2Proof.Machine in
/-- Settles O7: a step runs one command, and every command keeps the Archive sound. -/
theorem stepKeepsArchiveSound : Obligations.StepKeepsArchiveSound := by
  unfold Obligations.StepKeepsArchiveSound
  intro s t hs ht
  unfold step at ht
  split at ht
  · exact State.archiveSound_of_next ht hs
  · next c rest _ => exact exec_archiveSound c (s := { s with pending := rest }) hs ht
end

section
open Sys2Proof Sys2Proof.Machine in
/-- Settles O56: each request check by check, then the ends of an append and of an erase by what runs. -/
theorem archiveAppendsAndErases : Obligations.ArchiveAppendsAndErases := by
  unfold Obligations.ArchiveAppendsAndErases
  refine ⟨fun tag a s hs => ?_, fun s a n k ok hrun ha => ?_, fun tag b s hs => ?_, fun tag s hs => ?_,
    fun s b hrun ha => ?_, fun s ok hrun ha => ?_⟩
  · intro i k closable
    have hrefuses {e : Entry} (he : s.entry a = some e) {r : Resp × Nat} (hr : (s.taken i).closeRefusal e = some r) :
        Refuses i s r.1 r.2 :=
      Refuses.of_actOf rfl hs (actCloseAnchor_refuses (s := s.taken i) he hr)
    refine ⟨fun he => Refuses.of_actOf rfl hs (actCloseAnchor_unknown (s := s.taken i) he), fun e he =>
      ⟨fun hstage => ?_, fun hstage => ?_⟩⟩
    · exact hrefuses he (State.closeRefusal_stage (Bool.eq_false_iff.2 (mt e.stage.closable_iff.1 hstage)))
    replace hstage := e.stage.closable_iff.2 hstage
    refine ⟨fun hclock => hrefuses he (State.closeRefusal_clock hstage hclock), fun hclock =>
      ⟨fun hact => hrefuses he (State.closeRefusal_activity hstage hclock hact), fun hidle =>
        ⟨fun hnum => hrefuses he (State.closeRefusal_number hstage hclock hidle hnum), fun hnum =>
          ⟨fun hslot => ?_, fun hslot => ?_⟩⟩⟩⟩
    · exact hrefuses he (State.closeRefusal_slot hstage hclock hidle hnum (s.archive.isFull_iff.2 hslot))
    · intro record closing archive
      have hpass : (s.taken i).closeRefusal e = none :=
        State.closeRefusal_pass hstage hclock hidle hnum (s.archive.isFull_eq_false_iff.2 hslot)
      have harchive : s.archive.startAppend record = archive := s.archive.startAppend_eq record
      refine Serves.of_actOf rfl hs ((actCloseAnchor_accepts (s := s.taken i) he hpass).trans ?_)
      rw [State.closeAnchor_eq, ← harchive]
      rfl
  · intro settled gone back
    have hsettle (x : Slot) : s.archive.settle k x = settled x := s.archive.settle_eq k x
    refine ⟨fun r hok hr => ?_, fun hok => ?_, exec_eraseEnd_none hrun (by simp [ha])⟩
    · subst hok
      rw [exec_appendEnd_done hrun ha hr, State.appendDone, hsettle]
      rfl
    · subst hok
      rw [exec_appendEnd_torn hrun ha, State.appendTorn, hsettle]
      rfl
  · refine ⟨fun hb => Refuses.of_actOf rfl hs (actMarkExported_outOfRange hb), fun h1 h8 => ?_⟩
    have hrefuses {x : BlockState} (hfull : x ≠ .full) (hexp : x ≠ .exported) (hb : s.archive.blocks[b - 1]? = some x) :
        Refuses (.markExported tag b) s .wrongStage x.code :=
      Refuses.of_actOf rfl hs
        (actMarkExported_refuses (s := s.taken (.markExported tag b)) h1 h8 (Archive.block_of_getElem? hb) hfull hexp)
    refine ⟨fun hb => ?_, hrefuses nofun nofun, hrefuses nofun nofun, hrefuses nofun nofun, fun hb => ?_⟩
    · exact Serves.of_actOf rfl hs (actMarkExported_exported h1 h8 (Archive.block_of_getElem? hb))
    · exact Serves.of_actOf rfl hs (actMarkExported_full h1 h8 (Archive.block_of_getElem? hb))
  · intro i
    refine ⟨fun hact => Refuses.of_actOf rfl hs (actEraseOldest_busy hact), fun hidle =>
      ⟨fun ho => Refuses.of_actOf rfl hs (actEraseOldest_empty (s := s.taken i) hidle ho), fun b ho =>
        ⟨fun hb => ?_, fun hb => ?_⟩⟩⟩
    · exact Refuses.of_actOf rfl hs (actEraseOldest_unexported (s := s.taken i) hidle ho hb)
    · exact Serves.of_actOf rfl hs (actEraseOldest_accepts (s := s.taken i) hidle ho hb)
  · intro emptied
    refine ⟨?_, exec_eraseEnd_failed hrun ha, exec_appendEnd_none hrun (by simp [ha])⟩
    rw [exec_eraseEnd_erased hrun ha]
    simp only [Bool.and_eq_true, Bool.not_eq_true', Archive.isFull_iff, Archive.isFull_eq_false_iff]
    rfl
  · exact ⟨exec_appendEnd_none hrun (by simp [ha]), exec_eraseEnd_none hrun (by simp [ha])⟩
end

section
namespace Sys2Proof.Machine

/-! ## A raise, case by case (R176) -/

section
variable {u : NoticeUnit} {k : NoticeKind} {o : Origin} {a : Option Nat} {d : Nat} {t : Option Nat}

theorem Notice.same_iff {n : Notice} : n.same k o = true ↔ n.kind = k ∧ n.origin = o := by simp [Notice.same]

theorem NoticeUnit.raise_off (h : u.level k = .off) : u.raise k o a d t = u := if_pos h

section
variable (hlevel : u.level k ≠ .off)

include hlevel

theorem NoticeUnit.raise_known (hknown : u.entries.any (·.same k o) = true) :
    u.raise k o a d t =
      { u with entries := u.entries.map fun n => if n.same k o then { n with again := min 15 (n.again + 1) } else n } :=
  (if_neg hlevel).trans (if_pos hknown)

variable (hnew : ¬u.entries.any (·.same k o) = true)

include hnew

theorem NoticeUnit.raise_room (hroom : u.entries.length < Config.maxNotices) :
    u.raise k o a d t = { u with entries := u.entries ++ [⟨k, o, a, d, t, 0, false⟩] } :=
  (if_neg hlevel).trans ((if_neg hnew).trans (if_pos hroom))

variable (hfull : ¬u.entries.length < Config.maxNotices)

include hfull

theorem NoticeUnit.raise_higher (hrank : u.lowestRank < (u.level k).rank) :
    u.raise k o a d t =
      { u with entries :=
        u.entries.eraseP (fun n => (u.level n.kind).rank == u.lowestRank) ++ [⟨k, o, a, d, t, 0, false⟩] } :=
  (if_neg hlevel).trans ((if_neg hnew).trans ((if_neg hfull).trans (if_pos hrank)))

theorem NoticeUnit.raise_overflow (hrank : ¬u.lowestRank < (u.level k).rank) :
    u.raise k o a d t = { u with overflow := true } :=
  (if_neg hlevel).trans ((if_neg hnew).trans ((if_neg hfull).trans (if_neg hrank)))

end

/-! ## The pending set sound (R175, R176) -/

/-- R176: what no two entries share. -/
def Notice.key (n : Notice) : NoticeKind × Origin := (n.kind, n.origin)

/-- R175, R176: at most 32 notices, no kind twice from one origin. -/
def NoticeUnit.Sound (u : NoticeUnit) : Prop :=
  u.entries.length ≤ Config.maxNotices ∧ (u.entries.map Notice.key).Nodup

theorem State.noticesSound_iff (s : State) : s.noticesSound ↔ s.notices.Sound := Iff.rfl

/-- Entries leave the set; its levels and its overflow latch play no part. -/
theorem NoticeUnit.Sound.of_sublist {v : NoticeUnit} (h : u.Sound) (hsub : v.entries.Sublist u.entries) : v.Sound := by
  obtain ⟨hlength, hnodup⟩ := h
  exact ⟨hsub.length_le.trans hlength, hnodup.sublist (hsub.map _)⟩

/-- A change of entries that leaves their kinds and origins. -/
theorem NoticeUnit.Sound.of_keys {v : NoticeUnit} (h : u.Sound)
    (hkeys : v.entries.map Notice.key = u.entries.map Notice.key) : v.Sound := by
  obtain ⟨hlength, hnodup⟩ := h
  have hsame : v.entries.length = u.entries.length := by simpa using congrArg List.length hkeys
  exact ⟨hsame.trans_le hlength, hkeys ▸ hnodup⟩

/-- R176: a new entry is of another kind or origin than those it joins. -/
theorem nodup_keys_join {l : List Notice} {n : Notice} (hl : (l.map Notice.key).Nodup)
    (hnew : ¬l.any (·.same n.kind n.origin) = true) : ((l ++ [n]).map Notice.key).Nodup := by
  have hout : n.key ∉ l.map Notice.key := by
    simpa [Notice.same_iff, Notice.key] using hnew
  simpa using hl.concat hout

/-- R176: a raise counts an entry again, joins a new one, with or without one given up, or leaves the entries alone. -/
@[simp] theorem NoticeUnit.Sound.raise (h : u.Sound) : (u.raise k o a d t).Sound := by
  by_cases hlevel : u.level k = .off
  · rwa [NoticeUnit.raise_off hlevel]
  by_cases hknown : u.entries.any (·.same k o) = true
  · rw [NoticeUnit.raise_known hlevel hknown]
    refine h.of_keys ?_
    rw [List.map_map]
    refine List.map_congr_left fun n _ => ?_
    dsimp only [Function.comp]
    split <;> rfl
  obtain ⟨hsize, hnodup⟩ := h
  have hlength := u.raise_length k o a d t hsize
  by_cases hroom : u.entries.length < Config.maxNotices
  · rw [NoticeUnit.raise_room hlevel hknown hroom] at hlength ⊢
    exact ⟨hlength, nodup_keys_join hnodup hknown⟩
  by_cases hrank : u.lowestRank < (u.level k).rank
  · rw [NoticeUnit.raise_higher hlevel hknown hroom hrank] at hlength ⊢
    refine ⟨hlength, nodup_keys_join (hnodup.sublist (List.eraseP_sublist.map _)) fun hany => hknown ?_⟩
    rw [List.any_eq_true] at hany ⊢
    exact hany.imp fun n hn => hn.imp_left fun hm => List.eraseP_sublist.subset hm
  · rw [NoticeUnit.raise_overflow hlevel hknown hroom hrank]
    exact ⟨hsize, hnodup⟩

end
end Sys2Proof.Machine
end

section
namespace Sys2Proof.Machine

/-! ## Operations that leave the notices as they are -/

section
variable (s : State) (st : Stn)

@[simp] theorem State.applyForces_notices : s.applyForces.notices = s.notices := by
  obtain ⟨a, b, g, h⟩ := s.applyForces_shape
  rw [h]

@[simp] theorem State.thawCauses_notices : (s.thawCauses st).notices = s.notices := s.modCtx_notices st _

@[simp] theorem State.takeDecision_notices (d : Decision) : (s.takeDecision st d).notices = s.notices :=
  s.modStn_notices st _

@[simp] theorem State.endRun_notices (r : RunEnd) (c : Option HaltCause) : (s.endRun r c).notices = s.notices := by
  obtain ⟨w, h⟩ := s.endRun_shape r c
  rw [h]

@[simp] theorem State.addPassCause_notices (c : Cause) : (s.addPassCause c).notices = s.notices := by
  obtain ⟨g, h⟩ := s.addPassCause_shape c
  rw [h]

@[simp] theorem State.dropCause_notices (c : Cause) : (s.dropCause c).notices = s.notices := by
  obtain ⟨a, b, g, h⟩ := s.dropCause_shape c
  rw [h]

@[simp] theorem State.beginStep_notices : (s.beginStep st).notices = s.notices := by
  unfold State.beginStep
  split
  · rfl
  · dsimp only
    split <;> simp

@[simp] theorem State.restartStep_notices : (s.restartStep st).notices = s.notices := by
  unfold State.restartStep
  split
  · rfl
  · split <;> simp

@[simp] theorem State.seatEvent_notices : (s.seatEvent st).notices = s.notices := by
  unfold State.seatEvent
  split
  · rfl
  · dsimp only
    split
    · simp
    · split <;> simp

@[simp] theorem State.startTest_notices (e : Entry) (slot : Nat) (p : Plan) :
    (s.startTest st e slot p).notices = s.notices := by
  unfold State.startTest
  dsimp only
  split <;> simp

@[simp] theorem State.rebase_notices : (s.rebase st).notices = s.notices := by
  unfold State.rebase
  split <;> simp

@[simp] theorem State.encoderMoves_notices (line : EncLine) : (s.encoderMoves st line).notices = s.notices :=
  s.modStn_notices st _

@[simp] theorem State.startSelftest_notices (g : TestedGuard) : (s.startSelftest g).notices = s.notices := by
  cases g <;> simp [State.startSelftest]

@[simp] theorem State.leaveSelftest_notices (passed : Bool) (g : TestedGuard) :
    (s.leaveSelftest passed g).notices = s.notices := by
  cases g <;> simp [State.leaveSelftest]

@[simp] theorem State.paySample_notices : s.paySample.notices = s.notices := by
  unfold State.paySample
  dsimp only
  split
  · simp
  · split
    · simp
    · split <;> simp

@[simp] theorem State.winchTrip_notices (r : RunEnd) : (s.winchTrip r).notices = s.notices := by
  simp [State.winchTrip, State.noteWinch_eq]

@[simp] theorem State.writeSettings_notices (t : Settings) : (s.writeSettings t).notices = s.notices := by
  rw [s.writeSettings_eq]

@[simp] theorem State.drainSelector_notices (sel : Nat) : (s.drainSelector sel).notices = s.notices := by
  unfold State.drainSelector
  split <;> rfl

@[simp] theorem State.clearByCause_notices : s.clearByCause.notices = s.notices := by
  rw [s.clearByCause_eq]

end

/-! ## Operations that may raise a notice, or end a condition -/

section
variable {s : State} {st : Stn}

@[simp] theorem State.notice_noticesSound {k : NoticeKind} {o : Origin} {a : Option Nat} {d : Nat} (h : s.notices.Sound) :
    (s.notice k o a d).notices.Sound := h.raise

@[simp] theorem State.endCondition_noticesSound {k : NoticeKind} {o : Origin} (h : s.notices.Sound) :
    (s.endCondition k o).notices.Sound := h.of_sublist List.filter_sublist

@[simp] theorem State.hold_noticesSound (h : s.notices.Sound) : (s.hold st).notices.Sound := by
  unfold State.hold
  dsimp only
  split
  · simpa using h
  · exact State.notice_noticesSound (by simpa using h)

@[simp] theorem State.addCause_noticesSound {c : Cause} (h : s.notices.Sound) : (s.addCause c st).notices.Sound := by
  unfold State.addCause
  dsimp only
  split <;> simp [h]

@[simp] theorem State.handCause_noticesSound {c : Cause} {k : HaltCause} (h : s.notices.Sound) :
    (s.handCause c k).notices.Sound := by
  simp [State.handCause, State.haltRun, h]

/-- R135: a served request hands PASS_STARTED. -/
@[simp] theorem State.arbiter_noticesSound (h : s.notices.Sound) : s.arbiter.notices.Sound := by
  unfold State.arbiter
  split
  · split
    · exact h
    · split
      · exact State.notice_noticesSound (by simpa using h)
      · exact h
  · exact h

@[simp] theorem State.completePass_noticesSound (h : s.notices.Sound) : s.completePass.notices.Sound := by
  unfold State.completePass
  split
  · exact h
  · split
    · exact h
    · exact State.arbiter_noticesSound (State.notice_noticesSound h)

@[simp] theorem State.endPass_noticesSound {e : PassEnd} (h : s.notices.Sound) : (s.endPass e).notices.Sound := by
  unfold State.endPass
  split
  · exact h
  · split
    · dsimp only
      split
      · exact State.completePass_noticesSound h
      · exact h
    · exact h

@[simp] theorem State.judgeTrip_noticesSound (h : s.notices.Sound) : s.judgeTrip.notices.Sound := by
  unfold State.judgeTrip State.assertTrip State.deassertTrip
  split
  · exact h
  · split
    · exact h
    · split <;> simp [h]

@[simp] theorem State.raise_noticesSound {f : Flag} (h : s.notices.Sound) : (s.raise f).notices.Sound := by
  unfold State.raise
  split
  · refine State.judgeTrip_noticesSound ?_
    dsimp only
    split <;> simp [h]
  · exact h

@[simp] theorem State.clearCombined_noticesSound {group : Nat} (h : s.notices.Sound) :
    (s.clearCombined group).notices.Sound := by
  simp [State.clearCombined, h]

@[simp] theorem State.applyMasks_noticesSound (h : s.notices.Sound) : s.applyMasks.notices.Sound :=
  State.judgeTrip_noticesSound h

@[simp] theorem State.setEmergency_noticesSound {line : EmLine} (h : s.notices.Sound) :
    (s.setEmergency line).notices.Sound := by
  unfold State.setEmergency
  dsimp only
  split <;> simp [h]

@[simp] theorem State.clearEmergency_noticesSound (h : s.notices.Sound) : s.clearEmergency.notices.Sound := by
  simp [State.clearEmergency, h]

@[simp] theorem State.setStations_noticesSound {e : Enables} (h : s.notices.Sound) :
    (s.setStations e).notices.Sound := by
  unfold State.setStations
  extract_lets was site written s1Off s2Off wOff gOff judged
  have hoff : gOff.notices = s.notices := by
    simp [gOff, wOff, s2Off, s1Off, written, apply_ite State.notices]
  have hjudged : judged.notices.Sound := State.judgeTrip_noticesSound (hoff ▸ h)
  split
  · exact State.arbiter_noticesSound hjudged
  · exact hjudged

/-! The stressing stations. -/

@[simp] theorem State.completeStep_noticesSound (h : s.notices.Sound) : (s.completeStep st).notices.Sound := by
  unfold State.completeStep
  split
  · exact h
  · dsimp only
    split <;> simp [h]

@[simp] theorem State.releaseDone_noticesSound (h : s.notices.Sound) : (s.releaseDone st).notices.Sound := by
  unfold State.releaseDone
  dsimp only
  split
  · simp [h]
  · split
    · split <;> simp [h]
    · simp [h]

@[simp] theorem State.endTest_noticesSound (h : s.notices.Sound) : (s.endTest st).notices.Sound := by
  unfold State.endTest
  dsimp only
  split
  · exact h
  · split <;> simp [h]

@[simp] theorem State.holdEnd_noticesSound (h : s.notices.Sound) : (s.holdEnd st).notices.Sound := by
  unfold State.holdEnd
  dsimp only
  split
  · simp [h]
  · split
    · simp [h]
    · simp [h]
    · split <;> simp [h]
    all_goals simp [h]

@[simp] theorem State.creepReading_noticesSound (h : s.notices.Sound) : (s.creepReading st).notices.Sound := by
  unfold State.creepReading
  dsimp only
  split
  · exact h
  · split <;> simp [h]

@[simp] theorem State.holdSample_noticesSound (h : s.notices.Sound) : (s.holdSample st).notices.Sound := by
  unfold State.holdSample
  split
  · exact h
  · dsimp only
    split
    · split <;> split <;> simp [h]
    · split <;> simp [h]
    · split <;> simp [h]
    · exact h

@[simp] theorem State.targetReached_noticesSound (h : s.notices.Sound) : (s.targetReached st).notices.Sound := by
  simp [State.targetReached, h]

@[simp] theorem State.rampSample_noticesSound {c : TestCtx} {m : Motion} (h : s.notices.Sound) :
    (s.rampSample st c m).notices.Sound := by
  unfold State.rampSample
  dsimp only
  split <;> split
  any_goals split
  all_goals simp [h]

@[simp] theorem State.releaseSample_noticesSound {c : TestCtx} (h : s.notices.Sound) :
    (s.releaseSample st c).notices.Sound := by
  unfold State.releaseSample
  dsimp only
  split
  · split <;> simp [h]
  · split <;> simp [h]

@[simp] theorem State.endStroke_noticesSound (h : s.notices.Sound) : (s.endStroke st).notices.Sound := by
  unfold State.endStroke
  dsimp only
  split <;> simp [h]

@[simp] theorem State.stationSample_noticesSound (h : s.notices.Sound) : (s.stationSample st).notices.Sound := by
  unfold State.stationSample
  dsimp only
  split
  · exact h
  · split
    · simp [h]
    · split <;> simp [h]

@[simp] theorem State.encoderEdge_noticesSound {line : EncLine} (h : s.notices.Sound) :
    (s.encoderEdge st line).notices.Sound := by
  unfold State.encoderEdge
  extract_lets enc moved invert n
  have hmoved : moved.notices.Sound := by simpa [moved] using h
  split
  · split
    · exact State.raise_noticesSound hmoved
    · simpa using hmoved
  · exact hmoved

@[simp] theorem State.riseScan_noticesSound (h : s.notices.Sound) : (s.riseScan st).notices.Sound := by
  unfold State.riseScan
  dsimp only
  split <;> simp [h]

/-! Self-tests. -/

/-- R111: a self-test that ends hands SELFTEST_DONE. -/
@[simp] theorem State.endSelftest_noticesSound {g : TestedGuard} {tripAt : Option Nat} (h : s.notices.Sound) :
    (s.endSelftest g tripAt).notices.Sound := by
  unfold State.endSelftest
  extract_lets passed record faults recorded left told judged
  have htold : told.notices.Sound := State.notice_noticesSound (by simpa [left, recorded] using h)
  have hjudged : judged.notices.Sound := by
    simp only [judged]
    split
    · exact htold
    · exact State.raise_noticesSound htold
  split
  · exact State.arbiter_noticesSound hjudged
  · exact hjudged

@[simp] theorem State.selfNext_noticesSound {g : TestedGuard} {self : SelfTest} {r : Option Bool}
    (h : s.notices.Sound) : (s.selfNext g self r).notices.Sound := by
  cases r with
  | none => exact h
  | some _ => exact State.endSelftest_noticesSound h

@[simp] theorem State.selfLoad_noticesSound (h : s.notices.Sound) : (s.selfLoad st).notices.Sound := by
  unfold State.selfLoad
  split <;> simp [h]

@[simp] theorem State.selfPressure_noticesSound (h : s.notices.Sound) : s.selfPressure.notices.Sound := by
  unfold State.selfPressure
  split <;> simp [h]

@[simp] theorem State.selfTension_noticesSound (h : s.notices.Sound) : s.selfTension.notices.Sound := by
  unfold State.selfTension
  split <;> simp [h]

/-! Guards, the winch and the manifold. -/

@[simp] theorem State.judgeMark_noticesSound {code : Nat} {isOpen isOver : Flag} (h : s.notices.Sound) :
    (s.judgeMark code isOpen isOver).notices.Sound := by
  unfold State.judgeMark
  split <;> simp [h]

@[simp] theorem State.overloadTrip_noticesSound (h : s.notices.Sound) : (s.overloadTrip st).notices.Sound := by
  simp [State.overloadTrip, h]

@[simp] theorem State.overloadSample_noticesSound (h : s.notices.Sound) : (s.overloadSample st).notices.Sound := by
  unfold State.overloadSample
  dsimp only
  split
  · exact h
  · split <;> simp [h]

@[simp] theorem State.loadSample_noticesSound {code : Nat} {guardFirst : Bool} (h : s.notices.Sound) :
    (s.loadSample st code guardFirst).notices.Sound := by
  have hmarked : ((s.modStn st fun x => x.publish (s.cal st.code) code).judgeMark code (.loadOpen st)
      (.loadOver st)).notices.Sound := State.judgeMark_noticesSound (by simpa using h)
  unfold State.loadSample
  dsimp only
  split
  · split
    · exact State.selfLoad_noticesSound hmarked
    · split
      · exact State.stationSample_noticesSound (State.overloadSample_noticesSound hmarked)
      · exact State.overloadSample_noticesSound (State.stationSample_noticesSound hmarked)
  · exact h

/-- R125: a run that completes hands RUN_ENDED. -/
@[simp] theorem State.completeRun_noticesSound (h : s.notices.Sound) : s.completeRun.notices.Sound := by
  unfold State.completeRun
  split <;> simp [h]

@[simp] theorem State.winchSample_noticesSound (h : s.notices.Sound) : s.winchSample.notices.Sound := by
  unfold State.winchSample
  dsimp only
  split <;> simp [h]

@[simp] theorem State.tensionSample_noticesSound {code : Nat} (h : s.notices.Sound) :
    (s.tensionSample code).notices.Sound := by
  unfold State.tensionSample
  split <;> simp [State.formPaid, h]

@[simp] theorem State.refusalSample_noticesSound (h : s.notices.Sound) : s.refusalSample.notices.Sound := by
  unfold State.refusalSample
  split
  · dsimp only
    split <;> simp [h]
  · exact h

@[simp] theorem State.overpressureTrip_noticesSound (h : s.notices.Sound) : s.overpressureTrip.notices.Sound := by
  simp [State.overpressureTrip, h]

@[simp] theorem State.overpressureSample_noticesSound (h : s.notices.Sound) : s.overpressureSample.notices.Sound := by
  unfold State.overpressureSample
  dsimp only
  split
  · split <;> simp [h]
  · exact h

@[simp] theorem State.groutSample_noticesSound {guardFirst : Bool} (h : s.notices.Sound) :
    (s.groutSample guardFirst).notices.Sound := by
  unfold State.groutSample
  dsimp only
  split
  · simp [h]
  · split <;> simp [h]

@[simp] theorem State.pressureSample_noticesSound {code : Nat} {guardFirst : Bool} (h : s.notices.Sound) :
    (s.pressureSample code guardFirst).notices.Sound := by
  unfold State.pressureSample
  split <;> simp [h]

@[simp] theorem State.strayPulse_noticesSound (h : s.notices.Sound) : s.strayPulse.notices.Sound := by
  unfold State.strayPulse
  dsimp only
  split <;> simp [h]

@[simp] theorem State.wallScan_noticesSound (h : s.notices.Sound) : s.wallScan.notices.Sound := by
  unfold State.wallScan
  dsimp only
  split <;> split <;> simp [h]

/-! The Archive. -/

@[simp] theorem State.closeAnchor_noticesSound {e : Entry} (h : s.notices.Sound) : (s.closeAnchor e).notices.Sound := by
  unfold State.closeAnchor
  dsimp only
  split <;> simp [h]

@[simp] theorem State.appendDone_noticesSound {anchor slot : Nat} {r : Record} (h : s.notices.Sound) :
    (s.appendDone anchor slot r).notices.Sound := by
  simp [State.appendDone, h]

@[simp] theorem State.appendTorn_noticesSound {anchor number slot : Nat} (h : s.notices.Sound) :
    (s.appendTorn anchor number slot).notices.Sound :=
  State.notice_noticesSound (State.raise_noticesSound h)

/-! The site minute and the link. -/

@[simp] theorem visitPost_noticesSound {acc : State × List Nat} {id : Nat} (h : acc.1.notices.Sound) :
    (visitPost acc id).1.notices.Sound := by
  unfold visitPost
  dsimp only
  split
  · exact h
  · split
    · exact h
    · split
      · exact h
      · split
        · exact h
        · exact State.arbiter_noticesSound h

theorem foldl_visitPost_noticesSound (ids : List Nat) {acc : State × List Nat} (h : acc.1.notices.Sound) :
    (ids.foldl visitPost acc).1.notices.Sound := by
  induction ids generalizing acc with
  | nil => exact h
  | cons id rest ih => exact ih (visitPost_noticesSound h)

@[simp] theorem visitCure_noticesSound {id : Nat} (h : s.notices.Sound) : (visitCure s id).notices.Sound := by
  unfold visitCure
  split
  · exact h
  · split <;> simp [h]

theorem foldl_visitCure_noticesSound (ids : List Nat) (h : s.notices.Sound) :
    (ids.foldl visitCure s).notices.Sound := by
  induction ids generalizing s with
  | nil => exact h
  | cons id rest ih => exact ih (visitCure_noticesSound h)

/-- R147: POSTGROUT_DUE is ended where no anchor waits, and handed where the first one does. -/
@[simp] theorem State.judgeWaiting_noticesSound {w : List Nat} (h : s.notices.Sound) :
    (s.judgeWaiting w).notices.Sound := by
  unfold State.judgeWaiting
  cases w with
  | nil => simp [h]
  | cons id rest => dsimp only; split <;> simp [h]

@[simp] theorem State.siteMinute_noticesSound (h : s.notices.Sound) : s.siteMinute.notices.Sound := by
  unfold State.siteMinute State.scheduler
  dsimp only
  split
  · exact State.judgeWaiting_noticesSound (foldl_visitCure_noticesSound _ (foldl_visitPost_noticesSound _ h))
  · exact h

@[simp] theorem State.setTime_noticesSound {time : Nat} (h : s.notices.Sound) : (s.setTime time).notices.Sound := by
  unfold State.setTime
  dsimp only
  split <;> simp [h]

@[simp] theorem State.resumeLink_noticesSound (h : s.notices.Sound) : s.resumeLink.notices.Sound := by
  simp [State.resumeLink, h]

@[simp] theorem State.watchExpires_noticesSound {window : Nat} (h : s.notices.Sound) :
    (s.watchExpires window).notices.Sound :=
  State.handCause_noticesSound (State.notice_noticesSound (State.raise_noticesSound h))

/-! Resets and start-up. -/

/-- R182: start-up begins with an empty set, and hands RESET_DONE and, with a lost clock, CLOCK_LOST. -/
theorem State.beginStartUp_noticesSound (s : State) : s.beginStartUp.notices.Sound := by
  have hempty (levels : List Level) (floor : Level) : NoticeUnit.Sound ⟨[], levels, floor, false⟩ :=
    ⟨Nat.zero_le _, List.nodup_nil⟩
  unfold State.beginStartUp
  extract_lets gathered started cleared cut emptied told clocked
  have htold : told.notices.Sound := State.notice_noticesSound (hempty _ _)
  show clocked.notices.Sound
  simp only [clocked]
  split
  · simp [State.loseClock, htold]
  · exact htold

theorem State.leaveReset_noticesSound (h : s.notices.Sound) : s.leaveReset.notices.Sound := by
  unfold State.leaveReset
  split
  · exact h
  · exact s.beginStartUp_noticesSound

theorem State.readLines_noticesSound (h : s.notices.Sound) : s.readLines.notices.Sound := by
  unfold State.readLines
  split <;> simp [h]

theorem State.finishErase_noticesSound {ok : Bool} (h : s.notices.Sound) : (s.finishErase ok).notices.Sound := by
  unfold State.finishErase
  split
  · exact h
  · dsimp only
    split <;> simp [h]

theorem State.endStartUp_noticesSound {ok : Bool} (h : s.notices.Sound) : (s.endStartUp ok).notices.Sound := by
  have hread := State.readLines_noticesSound (State.finishErase_noticesSound (ok := ok) h)
  unfold State.endStartUp
  dsimp only
  split <;> simp [hread]

end
end Sys2Proof.Machine
end

section
namespace Sys2Proof.Machine

/-! ## The pending set through the blocks of the requests -/

section
variable {s : State}

/-- R180: the entry taken leaves the set, or keeps its kind and its origin. -/
theorem takeEntry_sound {u : NoticeUnit} {i : Nat} {n : Notice} {o : Bool} (h : u.Sound) (hn : u.entries[i]? = some n) :
    NoticeUnit.Sound { u with entries := takeEntry u.entries i n, overflow := o } := by
  unfold takeEntry
  split
  · obtain ⟨hi, rfl⟩ := List.getElem?_eq_some_iff.1 hn
    have hkey : Notice.key { u.entries[i] with acked := true } = (u.entries.map Notice.key)[i]'(by simpa) := by
      simp [Notice.key]
    refine h.of_keys (List.map_set.trans ?_)
    rw [hkey]
    exact List.set_getElem_self _
  · exact h.of_sublist (List.eraseIdx_sublist ..)

theorem actTakeNotice_noticesSound (h : s.notices.Sound) : (actTakeNotice s).1.notices.Sound := by
  unfold actTakeNotice
  split
  · exact h
  · next i n hchosen =>
    refine takeEntry_sound h ?_
    simp only [Option.bind_eq_some_iff, Option.map_eq_some_iff, Prod.mk.injEq] at hchosen
    obtain ⟨_, -, _, hn, rfl, rfl⟩ := hchosen
    exact hn

/-- R178: a kind set to OFF loses its entries. -/
theorem actSetNoticeLevel_noticesSound (h : s.notices.Sound) (selector level : Nat) :
    (actSetNoticeLevel selector level s).1.notices.Sound := by
  have hlevel (l : Level) : (s.notices.setLevel selector l).Sound := by
    refine h.of_sublist ?_
    unfold NoticeUnit.setLevel
    dsimp only
    split
    · exact List.filter_sublist
    · exact .refl _
  unfold actSetNoticeLevel
  split
  · exact h
  · split
    · exact h
    · split
      · exact h
      · split
        · exact h
        · exact hlevel _

theorem withStation_noticesSound {station : Nat} {act : Stn → State × Answer} (h : s.notices.Sound)
    (hact : ∀ st, (act st).1.notices.Sound) : (withStation station s act).1.notices.Sound := by
  unfold withStation
  split
  · exact h
  · split
    · exact hact _
    · exact h

theorem actHoldTest_noticesSound (h : s.notices.Sound) (station : Nat) :
    (actHoldTest station s).1.notices.Sound := by
  refine withStation_noticesSound h fun st => ?_
  split <;> simp [h]

theorem actResumeTest_noticesSound (h : s.notices.Sound) (station rebase : Nat) :
    (actResumeTest station rebase s).1.notices.Sound := by
  unfold actResumeTest
  split
  · exact h
  · refine withStation_noticesSound h fun st => ?_
    dsimp only
    (repeat' split) <;> simp [h]

theorem actAbortTest_noticesSound (h : s.notices.Sound) (station : Nat) :
    (actAbortTest station s).1.notices.Sound := by
  refine withStation_noticesSound h fun st => ?_
  (repeat' split) <;> simp [h]

theorem actAdjustTest_noticesSound (h : s.notices.Sound) (station : Nat) (plo ext : RawOption) :
    (actAdjustTest station plo ext s).1.notices.Sound := by
  unfold actAdjustTest
  (iterate 2 (split; · exact h))
  refine withStation_noticesSound h fun st => ?_
  dsimp only
  (iterate 6 (split; · exact h))
  simpa using h

theorem actSetCalibration_noticesSound (h : s.notices.Sound) (sel : Nat) (zero : Int) (span signed invert : Nat) :
    (actSetCalibration sel zero span signed invert s).1.notices.Sound := by
  unfold actSetCalibration
  dsimp only
  (iterate 6 (split; · exact h))
  simpa using h

theorem actClearGroup_noticesSound (h : s.notices.Sound) (group : Nat) :
    (actClearGroup group s).1.notices.Sound := by
  unfold actClearGroup
  (iterate 3 (split; · exact h))
  dsimp only
  split <;> simp [h]

theorem actSetLimits_noticesSound (h : s.notices.Sound) (items : List (Nat × Nat)) :
    (actSetLimits items s).1.notices.Sound := by
  unfold actSetLimits
  dsimp only
  (iterate 4 (split; · exact h))
  exact State.applyMasks_noticesSound h

/-- The block of every request keeps the pending set sound. -/
theorem actOf_noticesSound (h : s.notices.Sound) (i : Instr) : (actOf i s).1.notices.Sound := by
  cases i with
  | takeNotice => exact actTakeNotice_noticesSound h
  | setNoticeLevel _ k l => exact actSetNoticeLevel_noticesSound h k l
  | holdTest _ station => exact actHoldTest_noticesSound h station
  | resumeTest _ station rebase => exact actResumeTest_noticesSound h station rebase
  | abortTest _ station => exact actAbortTest_noticesSound h station
  | adjustTest _ station plo ext => exact actAdjustTest_noticesSound h station plo ext
  | setCalibration _ sel zero span signed invert =>
    exact actSetCalibration_noticesSound h sel zero span signed invert
  | clearGroup _ g => exact actClearGroup_noticesSound h g
  | setLimits _ items => exact actSetLimits_noticesSound h items
  | startTest | setStations | runSelftest | clearEmergency | winchStop | assignPort | groutRequest | groutStop | groutPause
    | groutResume | closeAnchor | setSettings | setTime | resumeLink =>
    dsimp only [actOf, actStartTest, actSetStations, actRunSelftest, actClearEmergency, actWinchStop, actAssignPort,
      actGroutRequest, actGroutStop, actGroutPause, actGroutResume, actCloseAnchor, actSetSettings, actSetTime,
      actResumeLink]
    (repeat' split) <;> simp [State.setPort, State.joinQueue, State.resumePass, h]
  | declare | amend | void | loadPlan | clearFault | winchRun | releasePort | groutCancel | setPoint
    | baseline | markExported | eraseOldest | setTag =>
    dsimp only [actOf, actDeclare, actAmend, actVoid, actLoadPlan, actClearFault, actWinchRun,
      actReleasePort, actGroutCancel, actSetPoint, actBaseline, actMarkExported, actEraseOldest, actSetTag]
    (repeat' split) <;> exact h
  | reset | lockLimits | unknownKind | byteReceived | receiverGap | replySent | linkWatchExpiry | powerReset
    | pinReset | startUpEnd | emergencyFallingEdge | sample | holdEnd | creepReading | rampTimeout
    | wholeSecond | releaseDutyEnd | seatPulseEnd | encoderEdge | drumPulse | flowPulse | noFlowTime | noFlow
    | siteMinute | scanComplete | jackOverloadTrip | groutRefusalTrip | groutOverpressureTrip | winchJamTrip
    | winchSlackTrip | neighbourRiseTrip | wallTiltTrip | selftestFail | brakeIntervalExpiry | arbiterServe
    | valveTravelEnd | pauseExpired | appendEnd | eraseEnd | emergencyLineRise | pwmPeriodStart
    | siteClockSecond | resetPinRelease => exact h
  | _ =>
    rw [actOf_query rfl s]
    exact h

/-! ## The pending set through the link -/

theorem State.answer_noticesSound {kind tag : Nat} {i : Instr} (h : s.notices.Sound) :
    (s.answer kind tag (actOf i)).notices.Sound := by
  unfold State.answer
  split
  · exact h
  · exact actOf_noticesSound h i

theorem takeFrame_noticesSound (h : s.notices.Sound) (f : Frame) : (takeFrame f s).notices.Sound := by
  unfold takeFrame
  split
  · exact h
  · split
    · exact State.answer_noticesSound h
    · exact h

theorem State.frameArrives_noticesSound {f : Frame} {take : State → State} (h : s.notices.Sound)
    (ht : ∀ u : State, u.notices.Sound → (take u).notices.Sound) : (s.frameArrives f take).notices.Sound := by
  unfold State.frameArrives
  split
  · exact h
  · extract_lets watched link joined
    have hw : watched.notices.Sound := by
      simp only [watched]
      split
      · rw [s.restartWatch_eq]; exact h
      · exact h
    split
    · exact hw
    · split
      · exact ht joined hw
      · exact hw

theorem State.nextFrame_noticesSound (h : s.notices.Sound) : s.nextFrame.notices.Sound := by
  unfold State.nextFrame
  dsimp only
  split
  · exact h
  · exact takeFrame_noticesSound (s := { s with link := { s.link with queue := s.link.queue.tail, reply := none } }) h _

end

/-! ## The pending set through every command -/

section
variable {s t : State}

theorem State.noticesSound_of_next {u : State} (ht : (.next u : Host.Outcome State Fault Refusal) = .next t)
    (hu : u.notices.Sound) : t.notices.Sound := by
  injection ht with ht
  exact ht ▸ hu

/-- Every command keeps the pending set sound. -/
theorem exec_noticesSound (i : Instr) (h : s.notices.Sound) (ht : exec i s = .next t) : t.notices.Sound := by
  by_cases hi : i.isRequest = true
  · rw [exec_request hi] at ht
    exact State.noticesSound_of_next ht (State.frameArrives_noticesSound h fun _ hu => State.answer_noticesSound hu)
  cases i with
  | unknownKind kind tag body =>
    exact State.noticesSound_of_next ht (State.frameArrives_noticesSound h fun _ hu => takeFrame_noticesSound hu _)
  | byteReceived b stopError =>
    refine State.noticesSound_of_next ht ?_
    dsimp only
    split
    · split
      · exact h
      · split
        · exact h
        · exact State.frameArrives_noticesSound h fun _ hu => takeFrame_noticesSound hu _
    · exact h
  | replySent =>
    refine State.noticesSound_of_next ht ?_
    dsimp only
    (repeat' split)
    · exact h
    · exact State.leaveReset_noticesSound h
    · exact State.nextFrame_noticesSound h
    · exact h
  | powerReset up lost => exact State.noticesSound_of_next ht (State.leaveReset_noticesSound h)
  | pinReset => exact State.noticesSound_of_next ht (State.leaveReset_noticesSound h)
  | resetPinRelease =>
    refine State.noticesSound_of_next ht ?_
    split
    · exact State.leaveReset_noticesSound h
    · exact h
  | startUpEnd ok =>
    refine State.noticesSound_of_next ht ?_
    split
    · exact State.endStartUp_noticesSound h
    · exact h
  | sample chan code guardFirst =>
    refine State.noticesSound_of_next ht ?_
    split
    · cases chan <;> simp [h]
    · exact h
  | encoderEdge st line =>
    refine State.noticesSound_of_next ht ?_
    split <;> simp [h]
  | emergencyLineRise line => exact State.noticesSound_of_next ht (by simpa using h)
  | arbiterServe =>
    refine State.noticesSound_of_next ht ?_
    split <;> simp [h]
  | scanComplete codes wallFirst =>
    have hp : (s.publishScan codes).notices.Sound := h
    refine State.noticesSound_of_next ht ?_
    dsimp only
    split
    · split
      · exact State.riseScan_noticesSound (State.riseScan_noticesSound (State.wallScan_noticesSound hp))
      · exact State.wallScan_noticesSound (State.riseScan_noticesSound (State.riseScan_noticesSound hp))
    · exact h
  | valveTravelEnd port =>
    refine State.noticesSound_of_next ht ?_
    dsimp only
    (repeat' split)
    any_goals exact h
    exact State.completePass_noticesSound h
  | receiverGap | linkWatchExpiry | emergencyFallingEdge | holdEnd | creepReading | rampTimeout | wholeSecond
    | releaseDutyEnd | seatPulseEnd | drumPulse | flowPulse | noFlowTime | noFlow | siteMinute
    | jackOverloadTrip | groutRefusalTrip | groutOverpressureTrip | winchJamTrip | winchSlackTrip
    | neighbourRiseTrip | wallTiltTrip | selftestFail | brakeIntervalExpiry | pauseExpired
    | appendEnd | eraseEnd | pwmPeriodStart | siteClockSecond =>
    refine State.noticesSound_of_next ht ?_
    dsimp only
    (repeat' split) <;> simp [h]
  | _ => exact absurd rfl hi

end

end Sys2Proof.Machine

open Sys2Proof.Machine in
/-- Settles O6: a step runs one command, and every command raises into the set, takes out of it, or empties it. -/
theorem stepKeepsNoticesSound : Obligations.StepKeepsNoticesSound := by
  unfold Obligations.StepKeepsNoticesSound
  intro s t hs ht
  rw [State.noticesSound_iff] at hs ⊢
  unfold step at ht
  split at ht
  · exact State.noticesSound_of_next ht hs
  · next c rest _ => exact exec_noticesSound c (s := { s with pending := rest }) hs ht
end

section
namespace Sys2Proof.Machine

/-! ## Minima and maxima over a list of notices -/

section
variable {l : List Notice} {f : Notice → Nat}

theorem le_foldl_min_iff {a b : Nat} : b ≤ l.foldl (fun m n => min m (f n)) a ↔ b ≤ a ∧ ∀ n ∈ l, b ≤ f n := by
  induction l generalizing a with
  | nil => simp
  | cons x xs ih => simp [ih, and_assoc]

theorem foldl_max_le_iff {a b : Nat} : l.foldl (fun m n => max m (f n)) a ≤ b ↔ a ≤ b ∧ ∀ n ∈ l, f n ≤ b := by
  induction l generalizing a with
  | nil => simp
  | cons x xs ih => simp [ih, and_assoc]

end

theorem Level.rank_le (l : Level) : l.rank ≤ 3 := by cases l <;> decide

theorem Level.ofCode_rank (l : Level) : Level.ofCode l.rank = some l := by cases l <;> rfl

theorem Level.ofCode_high {n : Nat} (h : 3 < n) : Level.ofCode n = none :=
  match n, h with
  | _ + 4, _ => rfl

theorem Level.exists_rank {n : Nat} (h : n ≤ 3) : ∃ l : Level, l.rank = n :=
  match n, h with
  | 0, _ => ⟨.off, rfl⟩
  | 1, _ => ⟨.low, rfl⟩
  | 2, _ => ⟨.mid, rfl⟩
  | 3, _ => ⟨.high, rfl⟩

theorem Level.rank_eq_iff {l m : Level} : l.rank = m.rank ↔ l = m :=
  ⟨fun h => Option.some.inj (by rw [← l.ofCode_rank, ← m.ofCode_rank, h]), congrArg _⟩

/-! ## The entry a full set gives up (R176 step 4) -/

section
variable {u : NoticeUnit} {front back : List Notice} {n : Notice}

/-- R176: the lowest level present is that of an entry no other is below. -/
theorem NoticeUnit.lowestRank_eq (hn : n ∈ u.entries)
    (hmin : ∀ m ∈ u.entries, (u.level n.kind).rank ≤ (u.level m.kind).rank) :
    u.lowestRank = (u.level n.kind).rank := by
  obtain ⟨-, hle⟩ := le_foldl_min_iff.1 (le_refl u.lowestRank)
  exact le_antisymm (hle n hn) (le_foldl_min_iff.2 ⟨Level.rank_le _, hmin⟩)

/-- R176: the oldest entry of the lowest level is given up. -/
theorem NoticeUnit.eraseP_lowest (hu : u.entries = front ++ n :: back) (hlow : u.lowestRank = (u.level n.kind).rank)
    (hfront : ∀ m ∈ front, (u.level n.kind).rank < (u.level m.kind).rank) :
    u.entries.eraseP (fun m => (u.level m.kind).rank == u.lowestRank) = front ++ back := by
  have hpast : ∀ m ∈ front, ¬((u.level m.kind).rank == u.lowestRank) = true := fun m hm => by
    have := hfront m hm
    simp only [hlow, beq_iff_eq]
    omega
  rw [hu, List.eraseP_append_right _ hpast, List.eraseP_cons_of_pos (by simp [hlow])]

end

/-! ## The entry TAKE_NOTICE chooses (R180) -/

section
variable {s : State} {front back : List Notice} {n : Notice}

theorem State.takeable_iff (s : State) (n : Notice) :
    s.takeable n = true ↔ n.acked = false ∧ ¬(s.link.lost = true ∧ n.kind = .linkLost) := by
  cases hlost : s.link.lost <;> simp [State.takeable, hlost]

theorem State.chosen_none (h : ∀ n ∈ s.notices.entries, ¬s.takeable n = true) : s.chosen = none := by
  refine List.findIdx?_eq_none_iff.2 fun n hn => ?_
  simp [h n hn]

/-- R180: the greatest level is that of an entry that can be chosen and that no other such entry is above. -/
theorem State.bestRank_eq (hn : n ∈ s.notices.entries) (hfree : s.takeable n = true)
    (hmax : ∀ m ∈ s.notices.entries, s.takeable m = true → s.rankOf m ≤ s.rankOf n) : s.bestRank = s.rankOf n := by
  obtain ⟨-, hle⟩ := foldl_max_le_iff.1 (le_refl s.bestRank)
  refine le_antisymm (foldl_max_le_iff.2 ⟨Nat.zero_le _, fun m hm => ?_⟩) (hle n (List.mem_filter.2 ⟨hn, hfree⟩))
  obtain ⟨hm, hmf⟩ := List.mem_filter.1 hm
  exact hmax m hm hmf

/-- R180: the oldest entry of that level is chosen. -/
theorem State.chosen_some (hs : s.notices.entries = front ++ n :: back) (hfree : s.takeable n = true)
    (hbest : s.bestRank = s.rankOf n) (hfront : ∀ m ∈ front, s.takeable m = true → s.rankOf m < s.rankOf n) :
    s.chosen = some front.length := by
  have hpast : front.findIdx? (fun m => s.takeable m && s.rankOf m == s.bestRank) = none := by
    refine List.findIdx?_eq_none_iff.2 fun m hm => ?_
    cases hmf : s.takeable m with
    | false => rfl
    | true => simpa [hbest] using (hfront m hm hmf).ne
  unfold State.chosen
  rw [hs, List.findIdx?_append, hpast, List.findIdx?_cons]
  simp [hfree, hbest]

/-- R180: what is left of the set after a take. -/
theorem takeEntry_eq (front : List Notice) (n : Notice) (back : List Notice) :
    takeEntry (front ++ n :: back) front.length n =
      if n.kind.isCondition then front ++ { n with acked := true } :: back else front ++ back := by
  unfold takeEntry
  split
  · simp
  · rw [List.eraseIdx_append_of_length_le (le_refl _)]
    simp

theorem actTakeNotice_empty (h : s.chosen = none) :
    actTakeNotice s = ({ s with notices := s.notices.settle }, .reply [.u8 0]) := by
  simp [actTakeNotice, h]

theorem actTakeNotice_takes {i : Nat} (h : s.chosen = some i) (hn : s.notices.entries[i]? = some n) :
    actTakeNotice s =
      ({ s with notices := NoticeUnit.settle { s.notices with entries := takeEntry s.notices.entries i n } },
        .reply (.u8 1 :: noticeFields (s.notices.level n.kind) n)) := by
  simp [actTakeNotice, h, hn]

end

/-! ## SET_NOTICE_LEVEL (R178) -/

section
variable {s : State} {k l : Nat}

theorem actSetNoticeLevel_selector (h : 16 < k) : actSetNoticeLevel k l s = (s, .plain .outOfRange 1) := if_pos h

variable (hk : k ≤ 16)

include hk

theorem actSetNoticeLevel_level (h : 3 < l) : actSetNoticeLevel k l s = (s, .plain .outOfRange 2) := by
  simp [actSetNoticeLevel, Nat.not_lt.2 hk, Level.ofCode_high h]

variable {level : Level}

/-- R178: the floor takes no OFF, and EMERGENCY and LINK_LOST take HIGH alone. -/
theorem actSetNoticeLevel_reserved (h : (k = 0 ∧ level = .off) ∨ ((k = 10 ∨ k = 11) ∧ level ≠ .high)) :
    actSetNoticeLevel k level.rank s = (s, .plain .outOfRange 2) := by
  simp only [actSetNoticeLevel, if_neg (Nat.not_lt.2 hk), Level.ofCode_rank, if_pos h, refuse_eq]

theorem actSetNoticeLevel_writes (h : ¬((k = 0 ∧ level = .off) ∨ ((k = 10 ∨ k = 11) ∧ level ≠ .high))) :
    actSetNoticeLevel k level.rank s =
      if k = 0 then ({ s with notices := { s.notices with floor := level } }, .plain .ok)
      else ({ s with notices := s.notices.setLevel k level }, .plain .ok) := by
  simp only [actSetNoticeLevel, if_neg (Nat.not_lt.2 hk), Level.ofCode_rank, if_neg h, accept_eq]

end

theorem NoticeUnit.setLevel_eq (u : NoticeUnit) (k : Nat) (level : Level) :
    u.setLevel k level =
      { u with
        levels := u.levels.set (k - 1) level
        entries := if level.rank = 0 then u.entries.filter (fun n => n.kind.code != k) else u.entries } := by
  have hoff : level.rank = 0 ↔ level = .off := Level.rank_eq_iff (m := .off)
  simp only [NoticeUnit.setLevel, hoff]

/-! ## The end of a condition (R177) -/

theorem State.endCondition_eq (s : State) (k : NoticeKind) (o : Origin) :
    s.endCondition k o =
      { s with notices := { s.notices with
        entries := s.notices.entries.filter fun n => decide (n.kind ≠ k ∨ n.origin ≠ o) } } := by
  have hother (n : Notice) : (!n.same k o) = decide (n.kind ≠ k ∨ n.origin ≠ o) := by
    rw [Bool.eq_iff_iff, Bool.not_eq_true', Bool.eq_false_iff, ne_eq, Notice.same_iff, decide_eq_true_iff]
    tauto
  simp only [State.endCondition, hother]

/-! ## The attention line (R179) -/

theorem State.attn_iff (s : State) :
    s.attn = true ↔ s.phase = .running ∧
      ∃ n ∈ s.notices.entries, n.acked = false ∧ s.notices.floor.rank ≤ (s.notices.level n.kind).rank := by
  simp [State.attn]

end Sys2Proof.Machine

open Sys2Proof Sys2Proof.Machine in
/-- Settles O57: a raise case by case, the two requests check by check, then the end of a condition and the line. -/
theorem noticesAreRaisedTakenAndLevelled : Obligations.NoticesAreRaisedTakenAndLevelled := by
  unfold Obligations.NoticesAreRaisedTakenAndLevelled
  refine ⟨fun s k o a d => rfl, ⟨fun k => by cases k <;> decide, by decide, by decide, by decide, by decide,
    fun u k h1 hk => ?_⟩, fun u k o a d t => ?_, fun tag s hs => ?_, fun tag k l s hs => ?_, fun s k o => ?_,
    fun s => ?_⟩
  · rw [NoticeUnit.level, List.getD_eq_getElem?_getD, List.getElem?_eq_getElem (by omega)]
    rfl
  · intro fresh known
    have hknown : u.entries.any (·.same k o) = true ↔ known := by simp only [List.any_eq_true, Notice.same_iff, known]
    refine ⟨NoticeUnit.raise_off, fun hlevel hk => ?_, fun hlevel hk hroom => ?_,
      fun front n back hlevel hk hfull hu hmin hfront => ?_⟩
    · simp only [NoticeUnit.raise_known hlevel (hknown.2 hk), Notice.same_iff]
    · exact NoticeUnit.raise_room hlevel (mt hknown.1 hk) hroom
    · have hlow : u.lowestRank = (u.level n.kind).rank := NoticeUnit.lowestRank_eq (by simp [hu]) hmin
      have hnew := mt hknown.1 hk
      refine ⟨fun hrank => ?_, fun hrank => ?_⟩
      · rw [NoticeUnit.raise_higher hlevel hnew (Nat.not_lt.2 hfull) (hlow.trans_lt hrank),
          NoticeUnit.eraseP_lowest hu hlow hfront]
      · exact NoticeUnit.raise_overflow hlevel hnew (Nat.not_lt.2 hfull) (Nat.not_lt.2 (hlow ▸ hrank))
  · intro free rank
    have hfree (n : Notice) : (s.taken (.takeNotice tag)).takeable n = true ↔ free n := State.takeable_iff _ n
    refine ⟨fun hnone => ?_, fun front n back hu hn hmax hfront => ?_⟩
    · exact Serves.of_actOf rfl hs (actTakeNotice_empty (s := s.taken (.takeNotice tag))
        (State.chosen_none fun n hmem => mt (hfree n).1 (hnone n hmem)))
    · intro rest
      have hbest : (s.taken (.takeNotice tag)).bestRank = rank n :=
        State.bestRank_eq (s := s.taken (.takeNotice tag)) (by simp [hu]) ((hfree n).2 hn)
          fun m hm hmf => hmax m hm ((hfree m).1 hmf)
      have hchosen : (s.taken (.takeNotice tag)).chosen = some front.length :=
        State.chosen_some (s := s.taken (.takeNotice tag)) hu ((hfree n).2 hn) hbest
          fun m hm hmf => hfront m hm ((hfree m).1 hmf)
      have hrest : takeEntry s.notices.entries front.length n = rest := by rw [hu, takeEntry_eq]
      refine Serves.of_actOf rfl hs
        ((actTakeNotice_takes (s := s.taken (.takeNotice tag)) hchosen (n := n) (by simp [hu])).trans ?_)
      rw [State.taken_notices, hrest]
      rfl
  · intro i
    refine ⟨fun hk => Refuses.of_actOf rfl hs (actSetNoticeLevel_selector hk),
      fun hk hl => Refuses.of_actOf rfl hs (actSetNoticeLevel_level hk hl), ?_, ?_, ?_⟩
    · rintro rfl rfl
      exact Refuses.of_actOf rfl hs (actSetNoticeLevel_reserved (level := .off) (by decide) (.inl ⟨rfl, rfl⟩))
    · intro hk hl
      have hk16 : k ≤ 16 := by omega
      rcases Nat.lt_or_ge 3 l with h3 | h3
      · exact Refuses.of_actOf rfl hs (actSetNoticeLevel_level hk16 h3)
      · obtain ⟨level, rfl⟩ := Level.exists_rank h3
        exact Refuses.of_actOf rfl hs (actSetNoticeLevel_reserved hk16 (.inr ⟨hk, mt (congrArg Level.rank) hl⟩))
    · rintro level rfl hk
      refine ⟨fun h0 hl => ?_, fun h1 hl => ?_⟩
      · have hlevel : level ≠ .off := fun h => by simp [h, Level.rank] at hl
        refine Serves.of_actOf rfl hs ((actSetNoticeLevel_writes (s := s.taken i) hk ?_).trans (if_pos h0))
        rintro (⟨-, hoff⟩ | ⟨h10, -⟩)
        · exact hlevel hoff
        · omega
      · have hpass : ¬((k = 0 ∧ level = .off) ∨ ((k = 10 ∨ k = 11) ∧ level ≠ .high)) := by
          rintro (⟨h0, -⟩ | ⟨h10, hhigh⟩)
          · omega
          · rcases hl with ⟨hn10, hn11⟩ | hl
            · exact h10.elim hn10 hn11
            · exact hhigh (Level.rank_eq_iff.1 hl)
        refine Serves.of_actOf rfl hs
          ((actSetNoticeLevel_writes (s := s.taken i) hk hpass).trans ((if_neg (by omega)).trans ?_))
        rw [NoticeUnit.setLevel_eq]
  · intro other
    have hkeep {l : List Notice} (hl : ∀ m ∈ l, m.kind ≠ k ∨ m.origin ≠ o) : l.filter other = l :=
      List.filter_eq_self.2 fun m hm => decide_eq_true (hl m hm)
    refine ⟨s.endCondition_eq k o, fun front n back hu hkind horigin hothers => ?_, fun hothers => ?_⟩
    · obtain ⟨hfront, hback⟩ := List.forall_mem_append.1 hothers
      have hgone : other n = false := by simp [other, hkind, horigin]
      calc (s.endCondition k o).notices.entries
        _ = (front ++ n :: back).filter other := by rw [s.endCondition_eq, ← hu]
        _ = front ++ back := by simp [hgone, hkeep hfront, hkeep hback]
    · rw [s.endCondition_eq, hkeep hothers]
  · exact s.attn_iff
end

section
namespace Sys2Proof.Machine

/-! ## A frame that is not taken at once (R184, R185, R189, R192) -/

section
variable {s : State} {f : Frame} {take : State → State}

/-- R184, R189: a frame that completes has restarted the watch where its kind is listed. -/
def State.watched (s : State) (f : Frame) : State := if knownKind f.kind then s.restartWatch else s

theorem State.watched_unlisted (hk : knownKind f.kind = false) : s.watched f = s := by
  rw [State.watched, hk]
  rfl

theorem State.watched_listed (hk : knownKind f.kind = true) : s.watched f = s.restartWatch := if_pos hk

@[simp] theorem State.watched_queue : (s.watched f).link.queue = s.link.queue := by
  unfold State.watched
  split
  · rw [s.restartWatch_eq]
  · rfl

@[simp] theorem State.watched_linkFree : (s.watched f).linkFree = s.linkFree := by
  unfold State.watched
  split
  · rw [s.restartWatch_eq]
    rfl
  · rfl

/-- R185: a frame that completes while a reply is being sent, or another frame waits, joins the end of the queue. -/
theorem State.frameArrives_joins (hp : s.phase = .running) (hroom : s.link.queue.length < 2)
    (hbusy : s.link.reply ≠ none ∨ s.link.queue ≠ []) :
    s.frameArrives f take =
      { s.watched f with link := { (s.watched f).link with queue := s.link.queue ++ [f] } } := by
  have hqueue : ¬Config.inputFrames ≤ (s.watched f).link.queue.length := by
    rw [State.watched_queue]
    exact not_le.2 hroom
  have hfree : ¬(s.watched f).linkFree = true := by
    rw [State.watched_linkFree, State.linkFree_iff]
    tauto
  rw [← State.watched_queue (f := f)]
  exact (if_neg (not_not.2 hp)).trans ((if_neg hqueue).trans (if_neg hfree))

/-- R185: a third frame sets the overrun latch. -/
theorem State.frameArrives_overrun (hp : s.phase = .running) (hfull : 2 ≤ s.link.queue.length) :
    s.frameArrives f take = { s.watched f with link := { (s.watched f).link with overrun := true } } := by
  have hqueue : Config.inputFrames ≤ (s.watched f).link.queue.length := by
    rw [State.watched_queue]
    exact hfull
  exact (if_neg (not_not.2 hp)).trans (if_pos hqueue)

end

theorem knownKind_eq_false {k : Nat} (h : rowOf k = none) : knownKind k = false := by simp [knownKind, h]

end Sys2Proof.Machine
end

section
open Sys2Proof Sys2Proof.Machine in
/-- Settles O1: a step is by definition the front command, or nothing. -/
theorem stepRunsTheFrontCommand : Obligations.StepRunsTheFrontCommand := by
  unfold Obligations.StepRunsTheFrontCommand
  refine ⟨fun c rest s h => ?_, fun s h => ?_⟩
  · rw [step, h]
  · rw [step, h]
end

section
open Sys2Proof Sys2Proof.Machine in
/-- Settles O14: a frame is lost, joins the queue or overruns it; the watch restarts at a listed kind alone. -/
theorem inputQueueHoldsTwoFrames : Obligations.InputQueueHoldsTwoFrames := by
  unfold Obligations.InputQueueHoldsTwoFrames
  refine ⟨?_, ?_⟩
  · intro i s hi watch
    have hwatched : s.watched (frameOf i) = { s with link := { s.link with watch := watch } } :=
      (State.watched_listed (request_known hi)).trans s.restartWatch_eq
    rw [exec_request hi, State.request]
    refine ⟨fun hp => ?_, fun hp hroom hbusy => ?_, fun hp hfull => ?_⟩
    · rw [State.frameArrives_stopped hp]
    · rw [State.frameArrives_joins hp hroom hbusy, hwatched]
    · rw [State.frameArrives_overrun hp hfull, hwatched]
  · intro k tag body s hk i
    have hwatched : s.watched ⟨k, tag, body⟩ = s := State.watched_unlisted (knownKind_eq_false hk)
    have hexec : exec i s = .next (s.frameArrives ⟨k, tag, body⟩ (takeFrame ⟨k, tag, body⟩)) := rfl
    rw [hexec]
    refine ⟨fun hp => ?_, fun hp hroom hbusy => ?_, fun hp hfull => ?_⟩
    · rw [State.frameArrives_stopped hp]
    · rw [State.frameArrives_joins hp hroom hbusy, hwatched]
    · rw [State.frameArrives_overrun hp hfull, hwatched]
end

section
open Sys2Proof Sys2Proof.Machine in
/-- Settles O19: the block of a query changes nothing, so the reply alone is left of the request. -/
theorem queriesChangeOnlyTheLink : Obligations.QueriesChangeOnlyTheLink := by
  unfold Obligations.QueriesChangeOnlyTheLink
  intro i s hi hquery hs
  rw [exec_request hi, State.request_accepts hs (request_known hi), actOf_query hquery]
  exact ⟨_, rfl⟩
end

section
namespace Sys2Proof.Machine

/-! ## The receiver and the link watch, while the part runs (R183, R184, R189) -/

section
variable {s : State} {b : Byte} (hrun : s.phase = .running)

include hrun

theorem exec_receiverGap : exec .receiverGap s = .next (s.setRx .waiting) := by
  simp only [exec, execReceiverGap, State.event_running hrun]

/-- R183: a stop-bit error gives up the partial frame. -/
theorem exec_byteReceived_error : exec (.byteReceived b true) s = .next (s.setRx .waiting) := by
  simp only [exec, execByteReceived, State.event_running hrun, if_true]

/-- R183: a byte that completes no good frame moves the receiver alone. -/
theorem exec_byteReceived_kept {rx : Rx} (h : s.link.rx.step b = (rx, none)) :
    exec (.byteReceived b false) s = .next (s.setRx rx) := by
  simp [exec, execByteReceived, State.event_running hrun, h]

/-- R184: the byte that completes a good frame hands it on. -/
theorem exec_byteReceived_completes {rx : Rx} {f : Frame} (h : s.link.rx.step b = (rx, some f)) :
    exec (.byteReceived b false) s = .next ((s.setRx rx).frameArrives f (takeFrame f)) := by
  simp [exec, execByteReceived, State.event_running hrun, h]

theorem exec_linkWatchExpiry_stopped (hw : s.link.watch = .stopped) : exec .linkWatchExpiry s = .next s := by
  simp only [exec, execLinkWatchExpiry, State.event_running hrun, hw]

theorem exec_linkWatchExpiry_running {w : Nat} (hw : s.link.watch = .running w) :
    exec .linkWatchExpiry s = .next (s.watchExpires w) := by
  simp only [exec, execLinkWatchExpiry, State.event_running hrun, hw]

end

/-- R192: through start-up and in reset nothing is received. -/
theorem exec_byteReceived_stopped {s : State} (hstop : s.phase ≠ .running) (b : Byte) (e : Bool) :
    exec (.byteReceived b e) s = .next s := by
  simp only [exec, execByteReceived, State.event_stopped hstop]

theorem exec_receiverGap_stopped {s : State} (hstop : s.phase ≠ .running) : exec .receiverGap s = .next s := by
  simp only [exec, execReceiverGap, State.event_stopped hstop]

/-- R184: the CRC of the characters 1 to 9. -/
theorem crc_checkValue :
    crc [0x31#8, 0x32#8, 0x33#8, 0x34#8, 0x35#8, 0x36#8, 0x37#8, 0x38#8, 0x39#8] = 0x29B1#16 := by decide +kernel

/-! ## A byte at each state of the receiver (R183, R184) -/

theorem goodLen_iff (b : Byte) : goodLen b = true ↔ 2 ≤ b.toNat ∧ b.toNat ≤ 242 := decide_eq_true_iff

theorem Rx.step_length (b : Byte) :
    Rx.length.step b = (if 2 ≤ b.toNat ∧ b.toNat ≤ 242 then .header b none else .waiting, none) := by
  simp only [Rx.step, goodLen_iff]

theorem Rx.step_body (len kind tag : Byte) (data : List Byte) (b : Byte) :
    (Rx.body len kind tag data).step b =
      (if data.length + 3 < len.toNat then .body len kind tag (data ++ [b])
        else .check len kind tag (data ++ [b]) none, none) := by
  rw [Rx.step]
  rcases Nat.lt_or_ge (data.length + 3) len.toNat with h | h
  · rw [if_pos h, if_neg (not_le.2 h)]
  · rw [if_neg (not_lt.2 h), if_pos h]

end Sys2Proof.Machine
end

section
open Sys2Proof Sys2Proof.Machine in
/-- Settles O13: the check value by computation, then the receiver state by state. -/
theorem receiverFollowsTheFrame : Obligations.ReceiverFollowsTheFrame := by
  unfold Obligations.ReceiverFollowsTheFrame
  refine ⟨⟨crc_checkValue, (congrArg crcLow crc_checkValue).trans rfl, (congrArg crcHigh crc_checkValue).trans rfl⟩,
    fun s b => ⟨fun hstop e => ?_, fun hrun => ?_⟩⟩
  · exact ⟨exec_byteReceived_stopped hstop b e, exec_receiverGap_stopped hstop⟩
  have hkept {rx rx' : Rx} (hrx : s.link.rx = rx) (h : rx.step b = (rx', none)) :
      exec (.byteReceived b false) s = .next (s.setRx rx') := exec_byteReceived_kept hrun (hrx ▸ h)
  refine ⟨exec_byteReceived_error hrun, exec_receiverGap hrun, fun hrx => hkept hrx rfl,
    fun hrx => hkept hrx (Rx.step_length b), fun len hrx => hkept hrx rfl, fun len kind hrx => hkept hrx rfl,
    fun len kind tag data hrx => hkept hrx (Rx.step_body ..), fun len kind tag data hrx => hkept hrx rfl, ?_⟩
  intro len kind tag data low hrx c f
  split
  · next hcrc => exact exec_byteReceived_completes hrun (by rw [hrx, Rx.step, if_pos hcrc])
  · next hcrc => exact hkept hrx (by rw [Rx.step, if_neg hcrc])
end

section
open Sys2Proof Sys2Proof.Machine in
/-- Settles O18: the expiry by the watch, and RESUME_LINK by the state it finds. -/
theorem linkLostIsSetAndCleared : Obligations.LinkLostIsSetAndCleared := by
  unfold Obligations.LinkLostIsSetAndCleared
  refine ⟨fun s hrun => ⟨exec_linkWatchExpiry_stopped hrun, fun w => exec_linkWatchExpiry_running hrun⟩,
    fun tag s hs => ⟨fun hl => ?_, fun hl => ?_⟩, fun s => ?_⟩
  · exact Serves.of_actOf rfl hs (by simp [actOf, actResumeLink, hl])
  · exact Serves.of_actOf rfl hs (by simp [actOf, actResumeLink, State.resumeLink, hl])
  · unfold State.watchFromSettings
    exact match s.site.settings.linkWindow with
      | 0 | 1 | 2 | 3 | 4 | _ + 5 => rfl
end

section
namespace Sys2Proof.Machine

/-! ## What TAKE_NOTICE leaves of the set (R180) -/

section
variable {s : State} {n : Notice}

/-- R180: the entry chosen can be chosen. -/
theorem State.takeable_of_chosen {i : Nat} (h : s.chosen = some i) (hn : s.notices.entries[i]? = some n) :
    s.takeable n = true := by
  obtain ⟨hi, hfree, -⟩ := List.findIdx?_eq_some_iff_getElem.1 h
  obtain ⟨-, rfl⟩ := List.getElem?_eq_some_iff.1 hn
  exact (Bool.and_eq_true_iff.1 hfree).1

/-- R180: a take touches one entry alone. -/
theorem mem_takeEntry {l : List Notice} {i : Nat} {m : Notice} (hi : l[i]? = some m) (hn : n ∈ l) (hne : n ≠ m) :
    n ∈ takeEntry l i m := by
  obtain ⟨j, hj, rfl⟩ := List.mem_iff_getElem.1 hn
  obtain ⟨hlt, rfl⟩ := List.getElem?_eq_some_iff.1 hi
  have hij : i ≠ j := fun h => hne (by simp only [h])
  unfold takeEntry
  split
  · exact List.mem_iff_getElem.2 ⟨j, by simpa using hj, by simp [hij]⟩
  · exact List.mem_eraseIdx_iff_getElem.2 ⟨j, hj, hij.symm, rfl⟩

/-- R180: an entry that cannot be chosen stays in the set as it is. -/
theorem actTakeNotice_keeps (hn : n ∈ s.notices.entries) (hfree : s.takeable n = false) :
    n ∈ (actTakeNotice s).1.notices.entries := by
  cases hc : s.chosen with
  | none =>
    rw [actTakeNotice_empty hc]
    exact hn
  | some i =>
    obtain ⟨hi, -⟩ := List.findIdx?_eq_some_iff_getElem.1 hc
    have hget := List.getElem?_eq_getElem hi
    rw [actTakeNotice_takes hc hget]
    refine mem_takeEntry hget hn fun h => ?_
    rw [h, State.takeable_of_chosen hc hget] at hfree
    exact Bool.noConfusion hfree

end

end Sys2Proof.Machine
end

section
open Sys2Proof Sys2Proof.Machine in
/-- Settles O15: a request held back, the kinds that are not, and what TAKE_NOTICE passes over. -/
theorem linkLostGateHoldsRequestsBack : Obligations.LinkLostGateHoldsRequestsBack := by
  unfold Obligations.LinkLostGateHoldsRequestsBack
  refine ⟨fun i s hi hrun hr hq hl hquery h3 h4 => ?_, fun i s hi hrun hr hq hl => ?_, fun tag s hs hl => ?_⟩
  · have hunserved : servedWhenLost (frameOf i).kind = false := by
      rw [← Bool.not_eq_true, servedWhenLost_iff hi]
      simp [hquery, h3, h4]
    exact (exec_request hi s).trans (State.request_lost hrun hr hq hl hunserved (request_known hi) _)
  · rw [← servedWhenLost_iff hi]
    exact ⟨fun ⟨_, _, _, h⟩ => h hl, fun h => ⟨hrun, hr, hq, fun _ => h⟩⟩
  · refine ⟨_, (exec_request rfl s).trans (State.request_accepts hs rfl _), fun n hn hk => ?_⟩
    have hheld : (s.taken (.takeNotice tag)).takeable n = false := by simp [State.takeable, hl, hk]
    exact actTakeNotice_keeps (s := s.taken (.takeNotice tag)) hn hheld
end

section
namespace Sys2Proof.Machine

/-! ## Pages (R188) -/

/-- R188: the bytes of a list of fields. -/
def fieldBytes (l : List WField) : Nat := (l.map WField.width).sum

@[simp] theorem fieldBytes_nil : fieldBytes [] = 0 := rfl

@[simp] theorem fieldBytes_cons (f : WField) (l : List WField) : fieldBytes (f :: l) = f.width + fieldBytes l := by
  simp [fieldBytes]

@[simp] theorem fieldBytes_append (l m : List WField) : fieldBytes (l ++ m) = fieldBytes l + fieldBytes m := by
  simp [fieldBytes]

theorem WField.width_le (f : WField) : f.width ≤ 4 := by cases f <;> simp [WField.width]

section
variable {f : WField} {fs cur : List WField} {room : Nat}

theorem paginate_fits (h : f.width ≤ room) : paginate (f :: fs) cur room = paginate fs (cur ++ [f]) (room - f.width) :=
  if_pos h

theorem paginate_turns (h : room < f.width) : paginate (f :: fs) cur room = cur :: paginate fs [f] (230 - f.width) :=
  if_neg (not_le.2 h)

/-- R188: the pages hold what stood on the page and then every field, in order. -/
theorem paginate_flatten (fs cur : List WField) (room : Nat) : (paginate fs cur room).flatten = cur ++ fs := by
  induction fs generalizing cur room with
  | nil => simp [paginate]
  | cons f fs ih =>
    rcases Nat.lt_or_ge room f.width with h | h
    · simp [paginate_turns h, ih]
    · simp [paginate_fits h, ih]

/-- R188: while the page and its room make up no more than a full page, no page is above 230 bytes. -/
theorem paginate_bytes_le (hcur : fieldBytes cur + room ≤ 230) : ∀ p ∈ paginate fs cur room, fieldBytes p ≤ 230 := by
  induction fs generalizing cur room with
  | nil =>
    rw [paginate, List.forall_mem_singleton]
    omega
  | cons f fs ih =>
    rcases Nat.lt_or_ge room f.width with h | h
    · rw [paginate_turns h, List.forall_mem_cons]
      have hf := f.width_le
      exact ⟨by omega, ih (by simp only [fieldBytes_cons, fieldBytes_nil]; omega)⟩
    · rw [paginate_fits h]
      exact ih (by simp only [fieldBytes_append, fieldBytes_cons, fieldBytes_nil]; omega)

/-- R188: fields that fit the page stay on it. -/
theorem paginate_one (h : fieldBytes fs ≤ room) : paginate fs cur room = [cur ++ fs] := by
  induction fs generalizing cur room with
  | nil => simp [paginate]
  | cons f fs ih =>
    rw [fieldBytes_cons] at h
    rw [paginate_fits (by omega), ih (by omega), List.append_assoc]
    rfl

/-- The first page begins with what stood on it. -/
theorem paginate_head (fs cur : List WField) (room : Nat) : ∃ more rest, paginate fs cur room = (cur ++ more) :: rest := by
  induction fs generalizing cur room with
  | nil => exact ⟨[], [], by simp [paginate]⟩
  | cons f fs ih =>
    rcases Nat.lt_or_ge room f.width with h | h
    · exact ⟨[], _, by rw [paginate_turns h, List.append_nil]⟩
    · obtain ⟨more, rest, hp⟩ := ih (cur ++ [f]) (room - f.width)
      exact ⟨f :: more, rest, by rw [paginate_fits h, hp, List.append_assoc]; rfl⟩

/-- R188: a page ends only where the next field, the first of the next page, would not fit. -/
theorem paginate_ends {k : Nat} {p q : List WField} (hcur : fieldBytes cur + room = 230)
    (hp : (paginate fs cur room)[k]? = some p) (hq : (paginate fs cur room)[k + 1]? = some q) :
    ∃ f rest, q = f :: rest ∧ 230 < fieldBytes p + f.width := by
  induction fs generalizing cur room k with
  | nil => simp [paginate] at hq
  | cons f fs ih =>
    rcases Nat.lt_or_ge room f.width with h | h
    · rw [paginate_turns h] at hp hq
      have hf := f.width_le
      cases k with
      | zero =>
        obtain ⟨more, rest, hnext⟩ := paginate_head fs [f] (230 - f.width)
        rw [hnext] at hq
        obtain rfl : cur = p := by simpa using hp
        obtain rfl : f :: more = q := by simpa using hq
        exact ⟨f, more, rfl, by omega⟩
      | succ k =>
        have hnext : fieldBytes [f] + (230 - f.width) = 230 := by
          simp only [fieldBytes_cons, fieldBytes_nil]
          omega
        exact ih hnext hp hq
    · rw [paginate_fits h] at hp hq
      exact ih (by simp only [fieldBytes_append, fieldBytes_cons, fieldBytes_nil]; omega) hp hq

end

end Sys2Proof.Machine
end

section
open Sys2Proof Sys2Proof.Machine in
/-- Settles O20: the pages by induction over the fields; the answer by whether the page is one of them. -/
theorem pagesHoldTheWholeSnapshot : Obligations.PagesHoldTheWholeSnapshot := by
  unfold Obligations.PagesHoldTheWholeSnapshot
  intro fields pages bytes
  refine ⟨paginate_flatten fields [] 230, paginate_bytes_le (by simp), fun h => paginate_one h,
    fun k p q hp hq => paginate_ends (by simp) hp hq, fun p fs hp => ?_, fun p hp => ?_, rfl⟩
  · have hpage : (paginate fields [] Config.pageBytes)[(some p).getD 0]? = some fs := hp
    simp only [paged, hpage]
    rfl
  · have hpage : (paginate fields [] Config.pageBytes)[(some p).getD 0]? = none := List.getElem?_eq_none hp
    simp only [paged, hpage]
end

section
namespace Sys2Proof.Machine

/-! ## Numbers written and read back (R193) -/

theorem fits_iff {b n : Nat} : fits b n = true ↔ n < 256 ^ b := decide_eq_true_iff

@[simp] theorem leBytes_length (w n : Nat) : (leBytes w n).length = w := by
  induction w generalizing n with
  | zero => rfl
  | succ w ih => simp [leBytes, ih]

@[simp] theorem leSigned_length (w : Nat) (z : Int) : (leSigned w z).length = w := leBytes_length w _

section
variable {a l : List Byte} {i : Nat} (h : a.length ≤ i)

include h

/-- A field further on is read from the bytes after the ones before it. -/
theorem u8At_append_right : u8At (a ++ l) i = u8At l (i - a.length) := by
  simp only [u8At, List.getD_append_right _ _ _ _ h]

theorem u16At_append_right : u16At (a ++ l) i = u16At l (i - a.length) := by
  rw [u16At, u8At_append_right h, u8At_append_right (by omega), u16At, Nat.sub_add_comm h]

theorem u32At_append_right : u32At (a ++ l) i = u32At l (i - a.length) := by
  rw [u32At, u16At_append_right h, u16At_append_right (by omega), u32At, Nat.sub_add_comm h]

theorem i16At_append_right : i16At (a ++ l) i = i16At l (i - a.length) := by
  simp only [i16At, u16At_append_right h]

end

section
variable {n : Nat} (l : List Byte)

theorem u8At_leBytes (h : fits 1 n = true) : u8At (leBytes 1 n ++ l) 0 = n := by
  simpa [u8At, leBytes] using fits_iff.1 h

theorem u16At_leBytes (h : fits 2 n = true) : u16At (leBytes 2 n ++ l) 0 = n := by
  have hbytes : u16At (leBytes 2 n ++ l) 0 = n % 256 + 256 * (n / 256 % 256) := by simp [u16At, u8At, leBytes]
  rw [fits_iff] at h
  omega

theorem u32At_leBytes (h : fits 4 n = true) : u32At (leBytes 4 n ++ l) 0 = n := by
  have hbytes : u32At (leBytes 4 n ++ l) 0 = n % 256 + 256 * (n / 256 % 256) +
      65536 * (n / 256 / 256 % 256 + 256 * (n / 256 / 256 / 256 % 256)) := by simp [u32At, u16At, u8At, leBytes]
  rw [fits_iff] at h
  omega

/-- Two's complement: a signed number of two bytes. -/
theorem i16At_leSigned {z : Int} (hlo : -32768 ≤ z) (hhi : z < 32768) : i16At (leSigned 2 z ++ l) 0 = z := by
  have h : u16At (leSigned 2 z ++ l) 0 = (z % 65536).toNat := u16At_leBytes l (fits_iff.2 (by omega))
  rw [i16At, h]
  split <;> omega

/-! The last field of a BODY, with no bytes after it. -/

theorem u8At_leBytes_last (h : fits 1 n = true) : u8At (leBytes 1 n) 0 = n := by simpa using u8At_leBytes [] h

theorem u16At_leBytes_last (h : fits 2 n = true) : u16At (leBytes 2 n) 0 = n := by simpa using u16At_leBytes [] h

theorem u32At_leBytes_last (h : fits 4 n = true) : u32At (leBytes 4 n) 0 = n := by simpa using u32At_leBytes [] h

end

theorem pageOf_pageBytes {p : Option Nat} (h : pageFits p = true) : pageOf (pageBytes p) = p := by
  cases p with
  | none => rfl
  | some n => exact congrArg some (u8At_leBytes_last h)

/-! ## Lists written and read back (R186) -/

/-- R5, R186: a neighbour list read back. -/
theorem nbrBytes_read {c : Nat} {ids : List Nat} (h : idPlaces c ids = true) (l : List Byte) :
    u8At (nbrBytes c ids ++ l) 0 = c ∧
      [u16At (nbrBytes c ids ++ l) 1, u16At (nbrBytes c ids ++ l) 3, u16At (nbrBytes c ids ++ l) 5,
        u16At (nbrBytes c ids ++ l) 7] = ids := by
  simp only [idPlaces, Bool.and_eq_true, beq_iff_eq] at h
  obtain ⟨⟨hc, hlen⟩, hids⟩ := h
  obtain ⟨w, x, y, z, rfl⟩ := List.length_eq_four.1 hlen
  simp only [List.all_cons, Bool.and_eq_true] at hids
  simp [nbrBytes, u8At_leBytes, u16At_append_right, u16At_leBytes, hc, hids]

theorem nbrBytes_length {c : Nat} {ids : List Nat} (h : idPlaces c ids = true) : (nbrBytes c ids).length = 9 := by
  simp only [idPlaces, Bool.and_eq_true, beq_iff_eq] at h
  obtain ⟨⟨-, hlen⟩, -⟩ := h
  simp [nbrBytes, hlen]

theorem amendItems_value {i n : Nat} {rest : List Byte} (h : fits 1 i = true) (h18 : i ≠ 18) (hlen : 4 ≤ rest.length) :
    amendItems (n + 1) (leBytes 1 i ++ rest) =
      (amendItems n (rest.drop 4)).map fun l => .value i (u32At rest 0) :: l := by
  have hi : i % 256 = i := Nat.mod_eq_of_lt (fits_iff.1 h)
  simp [leBytes, amendItems, hi, h18, hlen]

theorem amendItems_neighbours {n : Nat} {rest : List Byte} (hlen : 9 ≤ rest.length) :
    amendItems (n + 1) (leBytes 1 18 ++ rest) =
      (amendItems n (rest.drop 9)).map fun l =>
        .neighbours (u8At rest 0) [u16At rest 1, u16At rest 3, u16At rest 5, u16At rest 7] :: l := by
  simp [leBytes, amendItems, hlen]

/-- R186: the items of an AMEND body read back. -/
theorem amendItems_read {items : List AmendItem} (h : items.all AmendItem.wf = true) :
    amendItems items.length (items.flatMap amendItemBytes) = some items := by
  induction items with
  | nil => rfl
  | cons x xs ih =>
    rw [List.all_cons, Bool.and_eq_true] at h
    obtain ⟨hx, hxs⟩ := h
    cases x with
    | value i v =>
      simp only [AmendItem.wf, Bool.and_eq_true, bne_iff_ne, ne_eq] at hx
      obtain ⟨⟨hi, h18⟩, hv⟩ := hx
      rw [List.flatMap_cons, amendItemBytes, List.append_assoc, List.length_cons,
        amendItems_value hi h18 (by simp), List.drop_left' (leBytes_length ..), ih hxs, u32At_leBytes _ hv]
      rfl
    | neighbours c ids =>
      obtain ⟨hcount, hids⟩ := nbrBytes_read hx (xs.flatMap amendItemBytes)
      have hlen : (nbrBytes c ids).length = 9 := nbrBytes_length hx
      rw [List.flatMap_cons, amendItemBytes, List.append_assoc, List.length_cons,
        amendItems_neighbours (by simp [hlen]), List.drop_left' hlen, ih hxs, hcount, hids]
      rfl

/-- R186: the steps of a LOAD_PLAN body read back. -/
theorem planSteps_read {steps : List RawStep} (h : steps.all RawStep.wf = true) :
    planSteps steps.length (steps.flatMap rawStepBytes) = steps := by
  induction steps with
  | nil => rfl
  | cons x xs ih =>
    simp only [List.all_cons, Bool.and_eq_true, RawStep.wf] at h
    obtain ⟨hx, hxs⟩ := h
    have hlen : (rawStepBytes x).length = 6 := rfl
    rw [List.flatMap_cons, List.length_cons, planSteps, List.drop_left' hlen, ih hxs]
    simp [rawStepBytes, u8At_append_right, u16At_append_right, u8At_leBytes, u16At_leBytes, hx]

theorem itemsWf_count {items : List (Nat × Nat)} (h : itemsWf items = true) : fits 1 items.length = true := by
  simp only [itemsWf, Bool.and_eq_true, decide_eq_true_eq] at h
  exact fits_iff.2 (by omega)

/-- R186: the items of SET_LIMITS and SET_SETTINGS read back. -/
theorem limitItems_read {items : List (Nat × Nat)} (h : itemsWf items = true) :
    limitItems items.length (items.flatMap fun p => leBytes 1 p.1 ++ leBytes 4 p.2) = items := by
  rw [itemsWf, Bool.and_eq_true] at h
  obtain ⟨-, h⟩ := h
  induction items with
  | nil => rfl
  | cons x xs ih =>
    simp only [List.all_cons, Bool.and_eq_true] at h
    obtain ⟨⟨hi, hv⟩, hxs⟩ := h
    have hlen : (leBytes 1 x.1 ++ leBytes 4 x.2).length = 5 := rfl
    rw [List.flatMap_cons, List.length_cons, limitItems, List.drop_left' hlen, ih hxs]
    simp [u32At_append_right, u8At_leBytes _ hi, u32At_leBytes _ hv]

/-! The bytes that lists take. -/

theorem length_flatMap_rawStepBytes (steps : List RawStep) : (steps.flatMap rawStepBytes).length = 6 * steps.length := by
  induction steps with
  | nil => rfl
  | cons x xs ih =>
    have hx : (rawStepBytes x).length = 6 := rfl
    rw [List.flatMap_cons, List.length_append, hx, ih, List.length_cons]
    omega

theorem itemBytes_length (items : List (Nat × Nat)) : (itemBytes items).length = 1 + 5 * items.length := by
  have hitem (p : Nat × Nat) : (leBytes 1 p.1 ++ leBytes 4 p.2).length = 5 := rfl
  rw [itemBytes, List.length_append, leBytes_length, List.length_flatMap]
  simp only [hitem, List.map_const', List.sum_replicate, smul_eq_mul, Nat.mul_comm]

/-- R186: an AMEND item takes two bytes at least. -/
theorem le_length_flatMap_amendItemBytes (items : List AmendItem) :
    2 * items.length ≤ (items.flatMap amendItemBytes).length := by
  induction items with
  | nil => exact Nat.zero_le _
  | cons x xs ih =>
    have hx : 2 ≤ (amendItemBytes x).length := by
      cases x with
      | value i v => simp [amendItemBytes]
      | neighbours c ids =>
        simp [amendItemBytes, nbrBytes]
        omega
    rw [List.flatMap_cons, List.length_append, List.length_cons]
    omega

theorem amendItems_count {items : List AmendItem} (h : 3 + (items.flatMap amendItemBytes).length ≤ 240) :
    fits 1 items.length = true := by
  have := le_length_flatMap_amendItemBytes items
  exact fits_iff.2 (by omega)

theorem declareBytes_length {d : DeclareBody} (h : idPlaces d.nbrCount d.nbrIds = true) : (declareBytes d).length = 46 := by
  simp only [declareBytes, List.length_append, leBytes_length, nbrBytes_length h]

/-- R3, R193: a DECLARE body read back, field by field. -/
theorem declareOf_declareBytes {d : DeclareBody} (h : d.wf = true) : declareOf (declareBytes d) = d := by
  simp only [DeclareBody.wf, Bool.and_eq_true] at h
  obtain ⟨hfields, hnbr⟩ := h
  obtain ⟨hcount, hids⟩ := nbrBytes_read hnbr []
  rw [List.append_nil] at hcount hids
  simp [declareOf, declareBytes, u8At_append_right, u16At_append_right, u32At_append_right, u8At_leBytes, u16At_leBytes,
    u32At_leBytes, hfields, hcount, hids]

/-! ## Requests written and read back -/

/-- R186, R193: the frame of a well-formed request reads back as that request. -/
theorem requestOf_frameOf {i : Instr} (h : i.wf = true) (hi : i.isRequest = true) : requestOf (frameOf i) = i := by
  cases i with
  | identify | reset | resumeLink | takeNotice | clearEmergency | winchStop | groutStop | groutPause | groutResume
    | eraseOldest | lockLimits => rfl
  | getNotices t p | getInputs t p | getOutputs t p | getScan t p | getGuards t p | getFaults t p | getWinch t p
    | getGrout t p | getPoints t p | getRows t p | getArchive t p | getLimits t p | getSettings t p | getTime t p
    | getTags t p =>
    rw [Instr.wf, Bool.and_eq_true] at h
    simp only [frameOf, requestOf, pageOf_pageBytes h.2]
  | declare t d =>
    rw [Instr.wf, Bool.and_eq_true] at h
    simp only [frameOf, requestOf, declareOf_declareBytes h.2]
  | amend t id items =>
    simp only [Instr.wf, Bool.and_eq_true, decide_eq_true_eq] at h
    obtain ⟨⟨⟨ht, hid⟩, hitems⟩, hlen⟩ := h
    have hcount : fits 1 items.length = true := amendItems_count hlen
    have hdrop : (leBytes 2 id ++ leBytes 1 items.length).length = 3 := by simp
    simp only [frameOf, requestOf]
    rw [List.drop_left' hdrop]
    simp [u8At_append_right, u16At_leBytes, u8At_leBytes, amendItems_read hitems, hid, hcount]
  | loadPlan t n steps =>
    simp only [Instr.wf, Bool.and_eq_true, decide_eq_true_eq] at h
    obtain ⟨⟨⟨ht, hn⟩, hlen⟩, hsteps⟩ := h
    have hcount : fits 1 steps.length = true := fits_iff.2 (by omega)
    have hdrop : (leBytes 1 n ++ leBytes 1 steps.length).length = 2 := by simp
    simp only [frameOf, requestOf]
    rw [List.drop_left' hdrop]
    simp [u8At_append_right, u8At_leBytes, planSteps_read hsteps, hn, hcount]
  | setLimits t items | setSettings t items =>
    rw [Instr.wf, Bool.and_eq_true] at h
    obtain ⟨ht, hitems⟩ := h
    simp only [frameOf, requestOf, itemBytes]
    rw [List.drop_left' (leBytes_length ..), u8At_leBytes _ (itemsWf_count hitems), limitItems_read hitems]
  | setCalibration t sel z sp sg inv =>
    simp only [Instr.wf, Bool.and_eq_true, decide_eq_true_eq] at h
    simp [frameOf, requestOf, u8At_append_right, u16At_append_right, i16At_append_right, u8At_leBytes, u8At_leBytes_last,
      u16At_leBytes, i16At_leSigned, h]
  | setNoticeLevel | resumeTest | clearFault | baseline | listAnchors | getPlan | holdTest | abortTest | getStation
    | getCalibration | clearGroup | runSelftest | releasePort | markExported | void | winchRun | groutRequest
    | groutCancel | closeAnchor | getAnchor | startTest | adjustTest | setStations | assignPort | setPoint | readArchive
    | readReadings | setTime | setTag =>
    simp only [Instr.wf, Bool.and_eq_true] at h
    simp [frameOf, requestOf, u8At_append_right, u16At_append_right, u32At_append_right, u8At_leBytes, u16At_leBytes,
      u32At_leBytes, u8At_leBytes_last, u16At_leBytes_last, u32At_leBytes_last, h]
  | _ => exact absurd hi Bool.false_ne_true

section
variable {b : List Byte}

theorem lengthOk_amend :
    lengthOk .amend b = true ↔ 3 ≤ b.length ∧ (amendItems (u8At b 2) (b.drop 3)).isSome = true := by
  simp [lengthOk]

theorem lengthOk_plan : lengthOk .plan b = true ↔ 2 ≤ b.length ∧ b.length = 2 + 6 * u8At b 1 := by simp [lengthOk]

theorem lengthOk_items : lengthOk .items b = true ↔ 1 ≤ b.length ∧ b.length = 1 + 5 * u8At b 0 := by simp [lengthOk]

end

/-- R186: the BODY of a well-formed request passes the length check of its row. -/
theorem frameOf_lengthOk {i : Instr} (h : i.wf = true) (hi : i.isRequest = true) :
    ∃ r, rowOf (frameOf i).kind = some r ∧ lengthOk r.length (frameOf i).body = true := by
  cases i with
  | getNotices t p | getInputs t p | getOutputs t p | getScan t p | getGuards t p | getFaults t p | getWinch t p
    | getGrout t p | getPoints t p | getRows t p | getArchive t p | getLimits t p | getSettings t p | getTime t p
    | getTags t p => exact ⟨_, rfl, by cases p <;> rfl⟩
  | declare t d =>
    simp only [Instr.wf, DeclareBody.wf, Bool.and_eq_true] at h
    obtain ⟨ht, hfields, hnbr⟩ := h
    exact ⟨_, rfl, beq_iff_eq.2 (declareBytes_length hnbr)⟩
  | amend t id items =>
    simp only [Instr.wf, Bool.and_eq_true, decide_eq_true_eq] at h
    obtain ⟨⟨⟨ht, hid⟩, hitems⟩, hlen⟩ := h
    have hcount : fits 1 items.length = true := amendItems_count hlen
    have hdrop : (leBytes 2 id ++ leBytes 1 items.length).length = 3 := by simp
    refine ⟨_, rfl, lengthOk_amend.2 ?_⟩
    simp only [frameOf]
    rw [List.drop_left' hdrop, List.length_append, hdrop]
    simp [u8At_append_right, u8At_leBytes, amendItems_read hitems, hcount]
  | loadPlan t n steps =>
    simp only [Instr.wf, Bool.and_eq_true, decide_eq_true_eq] at h
    obtain ⟨⟨⟨ht, hn⟩, hlen⟩, hsteps⟩ := h
    have hcount : fits 1 steps.length = true := fits_iff.2 (by omega)
    have hhead : (leBytes 1 n ++ leBytes 1 steps.length).length = 2 := by simp
    refine ⟨_, rfl, lengthOk_plan.2 ?_⟩
    simp only [frameOf]
    rw [List.length_append, hhead, length_flatMap_rawStepBytes]
    simp [u8At_append_right, u8At_leBytes, hcount]
  | setLimits t items | setSettings t items =>
    rw [Instr.wf, Bool.and_eq_true] at h
    obtain ⟨ht, hitems⟩ := h
    have hcount : u8At (itemBytes items) 0 = items.length := u8At_leBytes _ (itemsWf_count hitems)
    exact ⟨_, rfl, lengthOk_items.2 (by simp [frameOf, hcount, itemBytes_length])⟩
  | identify | reset | resumeLink | takeNotice | clearEmergency | winchStop | groutStop | groutPause | groutResume
    | eraseOldest | lockLimits | setNoticeLevel | resumeTest | clearFault | baseline | listAnchors | getPlan | holdTest
    | abortTest | getStation | getCalibration | clearGroup | runSelftest | releasePort | markExported | void | winchRun
    | groutRequest | groutCancel | closeAnchor | getAnchor | startTest | adjustTest | setStations | assignPort | setPoint
    | readArchive | readReadings | setTime | setTag | setCalibration => exact ⟨_, rfl, rfl⟩
  | _ => exact absurd hi Bool.false_ne_true

/-- R183: LEN can carry the BODY of a well-formed request. -/
theorem frameOf_body_le {i : Instr} (h : i.wf = true) (hi : i.isRequest = true) : (frameOf i).body.length ≤ 240 := by
  cases i with
  | amend t id items =>
    simp only [Instr.wf, Bool.and_eq_true, decide_eq_true_eq] at h
    obtain ⟨-, hlen⟩ := h
    simp only [frameOf, List.length_append, leBytes_length]
    omega
  | loadPlan t n steps =>
    simp only [Instr.wf, Bool.and_eq_true, decide_eq_true_eq] at h
    obtain ⟨⟨-, hlen⟩, -⟩ := h
    simp only [frameOf, List.length_append, leBytes_length, length_flatMap_rawStepBytes]
    omega
  | setLimits t items | setSettings t items =>
    simp only [Instr.wf, itemsWf, Bool.and_eq_true, decide_eq_true_eq] at h
    obtain ⟨-, hlen, -⟩ := h
    simp only [frameOf, itemBytes_length]
    omega
  | unknownKind => exact absurd hi Bool.false_ne_true
  | _ =>
    obtain ⟨r, hr, hlen⟩ := frameOf_lengthOk h hi
    cases hr <;> first
      | exact (beq_iff_eq.1 hlen).trans_le (by decide)
      | exact (of_decide_eq_true hlen).trans (by decide)

end Sys2Proof.Machine
end

section
open Sys2Proof Sys2Proof.Machine in
/-- Settles O11: the request read back, the length of its BODY, and its kind, constructor by constructor. -/
theorem requestFrameReadsBack : Obligations.RequestFrameReadsBack := by
  unfold Obligations.RequestFrameReadsBack
  intro i h hi
  refine ⟨requestOf_frameOf h hi, frameOf_body_le h hi, frameOf_lengthOk h hi, ?_⟩
  cases i with
  | unknownKind => exact absurd hi Bool.false_ne_true
  | _ => rfl
end

section
namespace Sys2Proof.Machine

/-! ## A request as the frame it travels in (R184 to R186) -/

section
variable {i : Instr} (h : i.wf = true) (hi : i.isRequest = true)

include h

theorem frameOf_tag_fits : fits 1 (frameOf i).tag = true := by
  cases i <;> first
    | rfl
    | (simp only [Instr.wf, Bool.and_eq_true] at h; simp only [frameOf, h])

include hi

/-- R186: the frame of a well-formed request is taken with the act of its block. -/
theorem takeFrame_frameOf (s : State) :
    takeFrame (frameOf i) s = s.answer (frameOf i).kind (frameOf i).tag (actOf i) := by
  obtain ⟨r, hr, hlen⟩ := frameOf_lengthOk h hi
  simp only [takeFrame, hr, hlen, if_true, requestOf_frameOf h hi]

theorem exec_wellFormed (s : State) : exec i s = .next (s.frameArrives (frameOf i) (takeFrame (frameOf i))) := by
  rw [exec_request hi, State.request, funext (takeFrame_frameOf h hi)]

end

theorem exec_unknownKind (k tag : Nat) (body : List Byte) (s : State) :
    exec (.unknownKind k tag body) s = .next (s.frameArrives ⟨k, tag, body⟩ (takeFrame ⟨k, tag, body⟩)) := rfl

/-- Section 11.4: every listed kind is a byte. -/
theorem kind_fits_of_known {k : Nat} (h : knownKind k = true) : fits 1 k = true := by
  have hall : ∀ r ∈ catalogue, fits 1 r.kind = true := by decide
  obtain ⟨r, hr⟩ := Option.isSome_iff_exists.1 h
  have hk : r.kind = k := by simpa using List.find?_some (p := fun r : CatalogueRow => r.kind == k) hr
  exact hk ▸ hall r (List.mem_of_find?_eq_some hr)

/-! ## A frame received byte by byte (R183, R184) -/

theorem State.setRx_self {s : State} {rx : Rx} (h : s.link.rx = rx) : s.setRx rx = s := by
  subst h
  rfl

section
variable {s : State} (hrun : s.phase = .running)

include hrun

theorem deliver_kept {rx rx' : Rx} {b : Byte} (bs : List Byte) (h : rx.step b = (rx', none)) :
    deliver (b :: bs) (s.setRx rx) = deliver bs (s.setRx rx') := by
  rw [deliver, exec_byteReceived_kept (s := s.setRx rx) hrun h]
  rfl

theorem deliver_completes {rx rx' : Rx} {b : Byte} {f : Frame} (h : rx.step b = (rx', some f)) :
    deliver [b] (s.setRx rx) = .next ((s.setRx rx').frameArrives f (takeFrame f)) := by
  rw [deliver, exec_byteReceived_completes (s := s.setRx rx) hrun h]
  rfl

/-- R183: the bytes of a BODY are kept until there are as many as LEN says. -/
theorem deliver_body {len kind tag : Byte} {data rest : List Byte} (more : List Byte)
    (hlen : len.toNat = data.length + rest.length + 2) (hrest : rest ≠ []) :
    deliver (rest ++ more) (s.setRx (.body len kind tag data)) =
      deliver more (s.setRx (.check len kind tag (data ++ rest) none)) := by
  induction rest generalizing data with
  | nil => exact absurd rfl hrest
  | cons b bs ih =>
    rw [List.cons_append, deliver_kept hrun _ (Rx.step_body ..)]
    rw [List.length_cons] at hlen
    cases bs with
    | nil =>
      rw [List.length_nil] at hlen
      rw [if_neg (by omega), List.nil_append]
    | cons c cs =>
      rw [List.length_cons] at hlen
      have hlen' : len.toNat = (data ++ [b]).length + (c :: cs).length + 2 := by
        simp only [List.length_append, List.length_cons, List.length_nil]
        omega
      rw [if_pos (by omega), ih hlen' (List.cons_ne_nil _ _), List.append_assoc]
      rfl

/-- R183, R184: after TAG, the BODY and then the CRC. -/
theorem deliver_afterTag {len kind tag : Byte} {body : List Byte} (more : List Byte)
    (hlen : len.toNat = body.length + 2) :
    deliver (tag :: (body ++ more)) (s.setRx (.header len (some kind))) =
      deliver more (s.setRx (.check len kind tag body none)) := by
  rw [deliver_kept hrun _ rfl]
  cases body with
  | nil =>
    have hempty : len.toNat = 2 := hlen
    rw [if_pos hempty, List.nil_append]
  | cons b bs =>
    have hlen' : len.toNat = ([] : List Byte).length + (b :: bs).length + 2 := by
      rw [hlen, List.length_nil, Nat.zero_add]
    have hmore : len.toNat ≠ 2 := by
      rw [hlen, List.length_cons]
      omega
    rw [if_neg hmore, deliver_body hrun _ hlen' (List.cons_ne_nil _ _), List.nil_append]

/-- R183, R184: the bytes of a frame hand that frame on. -/
theorem deliver_lineBytes {f : Frame} (hkind : fits 1 f.kind = true) (htag : fits 1 f.tag = true)
    (hbody : f.body.length ≤ 240) :
    deliver f.lineBytes (s.setRx .waiting) = .next ((s.setRx .waiting).frameArrives f (takeFrame f)) := by
  have hlen : (BitVec.ofNat 8 (f.body.length + 2)).toNat = f.body.length + 2 := by
    rw [BitVec.toNat_ofNat]
    omega
  have hk : (BitVec.ofNat 8 f.kind).toNat = f.kind := Nat.mod_eq_of_lt (fits_iff.1 hkind)
  have ht : (BitVec.ofNat 8 f.tag).toNat = f.tag := Nat.mod_eq_of_lt (fits_iff.1 htag)
  have hgood : 2 ≤ (BitVec.ofNat 8 (f.body.length + 2)).toNat ∧ (BitVec.ofNat 8 (f.body.length + 2)).toNat ≤ 242 := by
    omega
  simp only [Frame.lineBytes, lineBytes, coveredBytes, List.cons_append]
  rw [deliver_kept (rx' := .length) hrun _ rfl, deliver_kept hrun _ (Rx.step_length _), if_pos hgood,
    deliver_kept hrun _ rfl, deliver_afterTag hrun _ hlen, deliver_kept hrun _ rfl]
  refine deliver_completes hrun ?_
  simp [Rx.step, hk, ht]

end

/-! ## The reply sent, and a frame taken (R185, R186, R199) -/

section
variable {s : State}

/-- R185: a frame that completes on a free link is taken at once. -/
theorem State.frameArrives_free {f : Frame} {take : State → State} (hrun : s.phase = .running)
    (hr : s.link.reply = none) (hq : s.link.queue = []) :
    s.frameArrives f take = take { s.watched f with link := { (s.watched f).link with queue := [f] } } := by
  have hqueue : (s.watched f).link.queue = [] := State.watched_queue.trans hq
  have hroom : ¬Config.inputFrames ≤ (s.watched f).link.queue.length := by
    rw [hqueue]
    decide
  have hfree : (s.watched f).linkFree = true := State.watched_linkFree.trans ((State.linkFree_iff s).2 ⟨hr, hq⟩)
  refine (if_neg (not_not.2 hrun)).trans ((if_neg hroom).trans ((if_pos hfree).trans ?_))
  show take { s.watched f with link := { (s.watched f).link with queue := (s.watched f).link.queue ++ [f] } } = _
  rw [hqueue, List.nil_append]

theorem takeFrame_unlisted {f : Frame} (h : rowOf f.kind = none) :
    takeFrame f s = s.formReply 0xFF f.tag (.plain .unknownKind f.kind) := by
  simp only [takeFrame, h]

theorem takeFrame_badLength {f : Frame} {r : CatalogueRow} (h : rowOf f.kind = some r)
    (hlen : lengthOk r.length f.body = false) :
    takeFrame f s = s.formReply (f.kind + 0x80) f.tag (.plain .badLength f.body.length) := by
  simp [takeFrame, h, hlen]

variable (hrun : s.phase = .running)

include hrun

theorem exec_replySent_none (hr : s.link.reply = none) : exec .replySent s = .next s := by
  simp [exec, execReplySent, State.event_running hrun, hr]

theorem exec_replySent_reset (hr : s.link.reply ≠ none) (hreset : s.link.resetAfterReply = true) :
    exec .replySent s = .next s.commandReset := by
  simp [exec, execReplySent, State.event_running hrun, hr, hreset]

theorem exec_replySent_next (hr : s.link.reply ≠ none) (hreset : s.link.resetAfterReply = false) :
    exec .replySent s = .next s.nextFrame := by
  simp [exec, execReplySent, State.event_running hrun, hr, hreset]

end

end Sys2Proof.Machine
end

section
open Sys2Proof Sys2Proof.Machine in
/-- Settles O12: the bytes hand the frame on, and the frame is taken as the command says. -/
theorem lineBytesDeliverTheRequest : Obligations.LineBytesDeliverTheRequest := by
  unfold Obligations.LineBytesDeliverTheRequest
  intro i s hwf hi hrun hrx
  have hline {f : Frame} (hk : fits 1 f.kind = true) (ht : fits 1 f.tag = true) (hb : f.body.length ≤ 240) :
      deliver f.lineBytes s = .next (s.frameArrives f (takeFrame f)) := by
    have := deliver_lineBytes hrun hk ht hb
    rwa [State.setRx_self hrx] at this
  rcases hi with hi | ⟨k, t, b, rfl⟩
  · rw [exec_wellFormed hwf hi]
    exact hline (kind_fits_of_known (request_known hi)) (frameOf_tag_fits hwf) (frameOf_body_le hwf hi)
  · simp only [Instr.wf, Bool.and_eq_true, decide_eq_true_eq] at hwf
    obtain ⟨⟨⟨hk, -⟩, ht⟩, hb⟩ := hwf
    exact hline hk ht hb
end

section
open Sys2Proof Sys2Proof.Machine in
/-- Settles O17: the end of a reply by what waits, then an unlisted kind, a wrong length, and a well-formed request. -/
theorem queuedFramesAreTakenInOrder : Obligations.QueuedFramesAreTakenInOrder := by
  unfold Obligations.QueuedFramesAreTakenInOrder
  refine ⟨fun s hrun => ⟨exec_replySent_none hrun, fun hr hreset => ?_, exec_replySent_reset hrun⟩,
    fun k tag body s hk hrun hr hq => ?_, fun f r s => takeFrame_badLength, fun i s hwf hi hrun hr hq => ?_⟩
  · rw [exec_replySent_next hrun hr hreset]
    exact ⟨fun f hq => by simp [State.nextFrame, hq], fun f g hq => by simp [State.nextFrame, hq]⟩
  · rw [exec_unknownKind, State.frameArrives_free hrun hr hq, State.watched_unlisted (knownKind_eq_false hk),
      takeFrame_unlisted hk]
  · rw [exec_wellFormed hwf hi, State.frameArrives_taken hrun hr hq (request_known hi)]
end

section
namespace Sys2Proof.Machine

/-! ## What waits: the commands, and the frames of the input queue (R185) -/

/-- The commands and the frames that wait, with the latch of a frame that found no room: what no block and no event but
those of the Link Port and the resets reaches. -/
def State.waits (s : State) : List Instr × List Frame × Bool := (s.pending, s.link.queue, s.link.overrun)

section
variable (s : State) (st : Stn)

@[simp] theorem State.waits_fold : (s.pending, s.link.queue, s.link.overrun) = s.waits := rfl

@[simp] theorem State.waits_mk (phase : Phase) (resets : Resets) (estop wallTrip : Bool) (reg : List Entry)
    (plans : List (Option Plan)) (s1 s2 : Station) (winch : Winch) (grout : Grout) (fe : FrontEnd) (faults : Faults)
    (wall : Wall) (rows : List Row) (archive : Archive) (notices : NoticeUnit) (link : Link) (site : Site) (draws : Nat)
    (pending : List Instr) :
    State.waits ⟨phase, resets, estop, wallTrip, reg, plans, s1, s2, winch, grout, fe, faults, wall, rows, archive,
      notices, link, site, draws, pending⟩ = (pending, link.queue, link.overrun) := rfl

@[simp] theorem State.setStn_waits (x : Station) : (s.setStn st x).waits = s.waits := by cases st <;> rfl

@[simp] theorem State.modStn_waits (f : Station → Station) : (s.modStn st f).waits = s.waits := s.setStn_waits st _

@[simp] theorem State.modCtx_waits (f : TestCtx → TestCtx) : (s.modCtx st f).waits = s.waits := s.modStn_waits st _

@[simp] theorem State.modEntry_waits (id : Nat) (f : Entry → Entry) : (s.modEntry id f).waits = s.waits := rfl

@[simp] theorem State.modRow_waits (r : Nat) (f : Row → Row) : (s.modRow r f).waits = s.waits := rfl

@[simp] theorem State.modGrout_waits (f : Grout → Grout) : (s.modGrout f).waits = s.waits := rfl

@[simp] theorem State.notice_waits (k : NoticeKind) (o : Origin) (a : Option Nat) (d : Nat) :
    (s.notice k o a d).waits = s.waits := rfl

@[simp] theorem State.endCondition_waits (k : NoticeKind) (o : Origin) : (s.endCondition k o).waits = s.waits := rfl

@[simp] theorem State.clearFlag_waits (f : Flag) : (s.clearFlag f).waits = s.waits := rfl

@[simp] theorem State.clearGroupFlags_waits (g : Nat) : (s.clearGroupFlags g).waits = s.waits := rfl

@[simp] theorem State.setPlan_waits (n : Nat) (p : Option Plan) : (s.setPlan n p).waits = s.waits := rfl

@[simp] theorem State.setPort_waits (n : Nat) (a : Option Nat) : (s.setPort n a).waits = s.waits := rfl

@[simp] theorem State.joinQueue_waits (a : Nat) (k : PassKind) : (s.joinQueue a k).waits = s.waits := rfl

@[simp] theorem State.setWallPoint_waits (n : Nat) (p : Point) : (s.setWallPoint n p).waits = s.waits := rfl

@[simp] theorem State.zeroTilt_waits (n : Nat) : (s.zeroTilt n).waits = s.waits := rfl

@[simp] theorem State.setRx_waits (rx : Rx) : (s.setRx rx).waits = s.waits := rfl

@[simp] theorem State.setLine_waits (line : EmLine) (high : Bool) : (s.setLine line high).waits = s.waits := by
  cases line <;> rfl

@[simp] theorem State.removePassCause_waits (c : Cause) : (s.removePassCause c).waits = s.waits := rfl

@[simp] theorem State.removeEntry_waits (id : Nat) : (s.removeEntry id).waits = s.waits := rfl

end

/-! ## Operations that leave what waits as it is -/

section
variable (s : State) (st : Stn)

@[simp] theorem State.applyForces_waits : s.applyForces.waits = s.waits := by
  obtain ⟨a, b, g, h⟩ := s.applyForces_shape
  rw [h]
  rfl

@[simp] theorem State.hold_waits : (s.hold st).waits = s.waits := by
  obtain ⟨a, b, n, h⟩ := s.hold_shape st
  rw [h]
  rfl

@[simp] theorem State.addCause_waits (c : Cause) : (s.addCause c st).waits = s.waits := by
  obtain ⟨a, b, n, h⟩ := s.addCause_shape c st
  rw [h]
  rfl

@[simp] theorem State.thawCauses_waits : (s.thawCauses st).waits = s.waits := s.modCtx_waits st _

@[simp] theorem State.takeDecision_waits (d : Decision) : (s.takeDecision st d).waits = s.waits :=
  s.modStn_waits st _

@[simp] theorem State.endRun_waits (r : RunEnd) (c : Option HaltCause) : (s.endRun r c).waits = s.waits := by
  obtain ⟨w, h⟩ := s.endRun_shape r c
  rw [h]
  rfl

@[simp] theorem State.handCause_waits (c : Cause) (k : HaltCause) : (s.handCause c k).waits = s.waits := by
  obtain ⟨a, b, w, g, n, h⟩ := s.handCause_shape c k
  rw [h]
  rfl

@[simp] theorem State.addPassCause_waits (c : Cause) : (s.addPassCause c).waits = s.waits := by
  obtain ⟨g, h⟩ := s.addPassCause_shape c
  rw [h]
  rfl

@[simp] theorem State.dropCause_waits (c : Cause) : (s.dropCause c).waits = s.waits := by
  obtain ⟨a, b, g, h⟩ := s.dropCause_shape c
  rw [h]
  rfl

@[simp] theorem State.arbiter_waits : s.arbiter.waits = s.waits := by
  obtain ⟨r, g, n, h⟩ := s.arbiter_shape
  rw [h]
  rfl

@[simp] theorem State.completePass_waits : s.completePass.waits = s.waits := by
  obtain ⟨r, g, n, h⟩ := s.completePass_shape
  rw [h]
  rfl

@[simp] theorem State.endPass_waits (e : PassEnd) : (s.endPass e).waits = s.waits := by
  obtain ⟨r, g, n, h⟩ := s.endPass_shape e
  rw [h]
  rfl

@[simp] theorem State.judgeTrip_waits : s.judgeTrip.waits = s.waits := by
  obtain ⟨t, a, b, w, g, r, n, h⟩ := s.judgeTrip_shape
  rw [h]
  rfl

@[simp] theorem State.raise_waits (f : Flag) : (s.raise f).waits = s.waits := by
  obtain ⟨d, c, t, a, b, w, g, r, n, h⟩ := s.raise_shape f
  rw [h]
  rfl

@[simp] theorem State.setEmergency_waits (line : EmLine) : (s.setEmergency line).waits = s.waits := by
  simp [State.setEmergency, apply_ite State.waits]

@[simp] theorem State.clearEmergency_waits : s.clearEmergency.waits = s.waits := by simp [State.clearEmergency]

@[simp] theorem State.setStations_waits (e : Enables) : (s.setStations e).waits = s.waits := by
  simp [State.setStations, apply_ite State.waits]

/-! The stressing stations. -/

@[simp] theorem State.beginStep_waits : (s.beginStep st).waits = s.waits := by
  unfold State.beginStep
  dsimp only
  (repeat' split) <;> simp

@[simp] theorem State.restartStep_waits : (s.restartStep st).waits = s.waits := by
  unfold State.restartStep
  (repeat' split) <;> simp

@[simp] theorem State.completeStep_waits : (s.completeStep st).waits = s.waits := by
  unfold State.completeStep
  dsimp only
  (repeat' split) <;> simp

@[simp] theorem State.releaseDone_waits : (s.releaseDone st).waits = s.waits := by
  unfold State.releaseDone
  dsimp only
  (repeat' split) <;> simp

@[simp] theorem State.endTest_waits : (s.endTest st).waits = s.waits := by
  unfold State.endTest
  dsimp only
  (repeat' split) <;> simp

@[simp] theorem State.seatEvent_waits : (s.seatEvent st).waits = s.waits := by
  unfold State.seatEvent
  dsimp only
  (repeat' split) <;> simp

@[simp] theorem State.holdEnd_waits : (s.holdEnd st).waits = s.waits := by
  unfold State.holdEnd
  dsimp only
  (repeat' split) <;> simp

@[simp] theorem State.creepReading_waits : (s.creepReading st).waits = s.waits := by
  unfold State.creepReading
  dsimp only
  (repeat' split) <;> simp

@[simp] theorem State.holdSample_waits : (s.holdSample st).waits = s.waits := by
  unfold State.holdSample
  dsimp only
  (repeat' split) <;> simp

@[simp] theorem State.targetReached_waits : (s.targetReached st).waits = s.waits := by simp [State.targetReached]

@[simp] theorem State.rampSample_waits (c : TestCtx) (m : Motion) : (s.rampSample st c m).waits = s.waits := by
  unfold State.rampSample
  dsimp only
  (repeat' split) <;> simp

@[simp] theorem State.releaseSample_waits (c : TestCtx) : (s.releaseSample st c).waits = s.waits := by
  unfold State.releaseSample
  dsimp only
  (repeat' split) <;> simp

@[simp] theorem State.endStroke_waits : (s.endStroke st).waits = s.waits := by
  unfold State.endStroke
  dsimp only
  (repeat' split) <;> simp

@[simp] theorem State.stationSample_waits : (s.stationSample st).waits = s.waits := by
  unfold State.stationSample
  dsimp only
  (repeat' split) <;> simp

@[simp] theorem State.startTest_waits (e : Entry) (slot : Nat) (p : Plan) :
    (s.startTest st e slot p).waits = s.waits := by
  simp [State.startTest, apply_ite State.waits]

@[simp] theorem State.rebase_waits : (s.rebase st).waits = s.waits := by
  unfold State.rebase
  split <;> simp

@[simp] theorem State.encoderMoves_waits (line : EncLine) : (s.encoderMoves st line).waits = s.waits :=
  s.modStn_waits st _

@[simp] theorem State.encoderEdge_waits (line : EncLine) : (s.encoderEdge st line).waits = s.waits := by
  simp [State.encoderEdge, apply_ite State.waits]

@[simp] theorem State.riseScan_waits : (s.riseScan st).waits = s.waits := by
  simp [State.riseScan, apply_ite State.waits]

/-! Self-tests. -/

@[simp] theorem State.startSelftest_waits (g : TestedGuard) : (s.startSelftest g).waits = s.waits := by
  cases g <;> simp [State.startSelftest]

@[simp] theorem State.leaveSelftest_waits (passed : Bool) (g : TestedGuard) :
    (s.leaveSelftest passed g).waits = s.waits := by
  cases g <;> simp [State.leaveSelftest]

@[simp] theorem State.endSelftest_waits (g : TestedGuard) (tripAt : Option Nat) :
    (s.endSelftest g tripAt).waits = s.waits := by
  simp [State.endSelftest, apply_ite State.waits]

@[simp] theorem State.selfNext_waits (g : TestedGuard) (self : SelfTest) (r : Option Bool) :
    (s.selfNext g self r).waits = s.waits := by
  cases r <;> simp [State.selfNext]

@[simp] theorem State.selfLoad_waits : (s.selfLoad st).waits = s.waits := by
  unfold State.selfLoad
  split <;> simp

@[simp] theorem State.selfPressure_waits : s.selfPressure.waits = s.waits := by
  unfold State.selfPressure
  split <;> simp

@[simp] theorem State.selfTension_waits : s.selfTension.waits = s.waits := by
  unfold State.selfTension
  split <;> simp

/-! Guards, the winch and the manifold. -/

@[simp] theorem State.judgeMark_waits (code : Nat) (isOpen isOver : Flag) :
    (s.judgeMark code isOpen isOver).waits = s.waits := by
  unfold State.judgeMark
  split <;> simp

@[simp] theorem State.overloadTrip_waits : (s.overloadTrip st).waits = s.waits := by simp [State.overloadTrip]

@[simp] theorem State.overloadSample_waits : (s.overloadSample st).waits = s.waits := by
  unfold State.overloadSample
  dsimp only
  (repeat' split) <;> simp

@[simp] theorem State.loadSample_waits (code : Nat) (guardFirst : Bool) :
    (s.loadSample st code guardFirst).waits = s.waits := by
  simp [State.loadSample, apply_ite State.waits]

@[simp] theorem State.paySample_waits : s.paySample.waits = s.waits := by
  simp [State.paySample, apply_ite State.waits]

@[simp] theorem State.winchTrip_waits (r : RunEnd) : (s.winchTrip r).waits = s.waits := by
  simp [State.winchTrip, State.noteWinch_eq]

@[simp] theorem State.completeRun_waits : s.completeRun.waits = s.waits := by
  unfold State.completeRun
  split <;> simp

@[simp] theorem State.winchSample_waits : s.winchSample.waits = s.waits := by
  unfold State.winchSample
  dsimp only
  split <;> simp

@[simp] theorem State.tensionSample_waits (code : Nat) : (s.tensionSample code).waits = s.waits := by
  simp [State.tensionSample, State.formPaid, apply_ite State.waits]

@[simp] theorem State.refusalSample_waits : s.refusalSample.waits = s.waits := by
  unfold State.refusalSample
  dsimp only
  (repeat' split) <;> simp

@[simp] theorem State.overpressureTrip_waits : s.overpressureTrip.waits = s.waits := by
  simp [State.overpressureTrip]

@[simp] theorem State.overpressureSample_waits : s.overpressureSample.waits = s.waits := by
  simp [State.overpressureSample, apply_ite State.waits]

@[simp] theorem State.groutSample_waits (guardFirst : Bool) : (s.groutSample guardFirst).waits = s.waits := by
  simp [State.groutSample, apply_ite State.waits]

@[simp] theorem State.pressureSample_waits (code : Nat) (guardFirst : Bool) :
    (s.pressureSample code guardFirst).waits = s.waits := by
  simp [State.pressureSample, apply_ite State.waits]

@[simp] theorem State.strayPulse_waits : s.strayPulse.waits = s.waits := by
  simp [State.strayPulse, apply_ite State.waits]

@[simp] theorem State.wallScan_waits : s.wallScan.waits = s.waits := by
  simp [State.wallScan, apply_ite State.waits]

/-! The site minute, the Site Store and the link. -/

@[simp] theorem visitPost_waits (acc : State × List Nat) (id : Nat) : (visitPost acc id).1.waits = acc.1.waits := by
  unfold visitPost
  dsimp only
  (repeat' split) <;> simp

theorem foldl_visitPost_waits (ids : List Nat) (acc : State × List Nat) :
    (ids.foldl visitPost acc).1.waits = acc.1.waits := by
  induction ids generalizing acc with
  | nil => rfl
  | cons id rest ih => rw [List.foldl_cons, ih, visitPost_waits]

@[simp] theorem visitCure_waits (id : Nat) : (visitCure s id).waits = s.waits := by
  unfold visitCure
  (repeat' split) <;> simp

theorem foldl_visitCure_waits (ids : List Nat) (s : State) : (ids.foldl visitCure s).waits = s.waits := by
  induction ids generalizing s with
  | nil => rfl
  | cons id rest ih => rw [List.foldl_cons, ih, visitCure_waits]

@[simp] theorem State.judgeWaiting_waits (w : List Nat) : (s.judgeWaiting w).waits = s.waits := by
  cases w <;> simp [State.judgeWaiting, apply_ite State.waits]

@[simp] theorem State.siteMinute_waits : s.siteMinute.waits = s.waits := by
  simp [State.siteMinute, State.scheduler, foldl_visitPost_waits, foldl_visitCure_waits, apply_ite State.waits]

@[simp] theorem State.setTime_waits (time : Nat) : (s.setTime time).waits = s.waits := by
  simp [State.setTime, apply_ite State.waits]

@[simp] theorem State.writeSettings_waits (t : Settings) : (s.writeSettings t).waits = s.waits := by
  unfold State.writeSettings
  dsimp only
  split <;> rfl

@[simp] theorem State.drainSelector_waits (sel : Nat) : (s.drainSelector sel).waits = s.waits := by
  unfold State.drainSelector
  split <;> rfl

@[simp] theorem State.resumeLink_waits : s.resumeLink.waits = s.waits := by simp [State.resumeLink]

@[simp] theorem State.watchExpires_waits (window : Nat) : (s.watchExpires window).waits = s.waits := by
  simp [State.watchExpires]

@[simp] theorem State.restartWatch_waits : s.restartWatch.waits = s.waits := by
  rw [s.restartWatch_eq]
  rfl

/-! Start-up. -/

@[simp] theorem State.clearByCause_waits : s.clearByCause.waits = s.waits := by
  simp [State.clearByCause, apply_ite State.waits]

@[simp] theorem State.loseClock_waits : s.loseClock.waits = s.waits := by simp [State.loseClock]

@[simp] theorem State.readLines_waits : s.readLines.waits = s.waits := by
  unfold State.readLines
  split <;> rfl

/-! The Archive. -/

@[simp] theorem State.closeAnchor_waits (e : Entry) : (s.closeAnchor e).waits = s.waits := by
  simp [State.closeAnchor, apply_ite State.waits]

@[simp] theorem State.appendDone_waits (anchor slot : Nat) (r : Record) : (s.appendDone anchor slot r).waits = s.waits := by
  simp [State.appendDone]

@[simp] theorem State.appendTorn_waits (anchor number slot : Nat) : (s.appendTorn anchor number slot).waits = s.waits := by
  simp [State.appendTorn]

@[simp] theorem State.finishErase_waits (ok : Bool) : (s.finishErase ok).waits = s.waits := by
  unfold State.finishErase
  split
  · rfl
  · simp [apply_ite State.waits]

end

/-! ## What waits, through the blocks of the requests -/

section
variable (s : State)

theorem withStation_waits (station : Nat) {act : Stn → State × Answer} (hact : ∀ st, (act st).1.waits = s.waits) :
    (withStation station s act).1.waits = s.waits := by
  unfold withStation
  split
  · rfl
  · split
    · exact hact _
    · rfl

theorem actHoldTest_waits (station : Nat) : (actHoldTest station s).1.waits = s.waits := by
  refine withStation_waits s station fun st => ?_
  split <;> simp

theorem actResumeTest_waits (station rebase : Nat) : (actResumeTest station rebase s).1.waits = s.waits := by
  unfold actResumeTest
  split
  · rfl
  · refine withStation_waits s station fun st => ?_
    dsimp only
    (repeat' split) <;> simp

theorem actAbortTest_waits (station : Nat) : (actAbortTest station s).1.waits = s.waits := by
  refine withStation_waits s station fun st => ?_
  (repeat' split) <;> simp

theorem actAdjustTest_waits (station : Nat) (plo ext : RawOption) :
    (actAdjustTest station plo ext s).1.waits = s.waits := by
  unfold actAdjustTest
  (iterate 2 (split; · rfl))
  refine withStation_waits s station fun st => ?_
  dsimp only
  (iterate 6 (split; · rfl))
  exact s.modCtx_waits st _

theorem actSetCalibration_waits (sel : Nat) (zero : Int) (span signed invert : Nat) :
    (actSetCalibration sel zero span signed invert s).1.waits = s.waits := by
  unfold actSetCalibration
  dsimp only
  (iterate 6 (split; · rfl))
  simp

theorem actSetLimits_waits (items : List (Nat × Nat)) : (actSetLimits items s).1.waits = s.waits := by
  unfold actSetLimits
  dsimp only
  (iterate 4 (split; · rfl))
  simp [State.applyMasks]

/-- The block of a request leaves the waiting commands, the input queue and the overrun latch as they are. -/
theorem actOf_waits (i : Instr) : (actOf i s).1.waits = s.waits := by
  cases i with
  | holdTest _ station => exact actHoldTest_waits s station
  | resumeTest _ station rebase => exact actResumeTest_waits s station rebase
  | abortTest _ station => exact actAbortTest_waits s station
  | adjustTest _ station plo ext => exact actAdjustTest_waits s station plo ext
  | setCalibration _ sel zero span signed invert => exact actSetCalibration_waits s sel zero span signed invert
  | setLimits _ items => exact actSetLimits_waits s items
  | takeNotice | setNoticeLevel | declare | amend | void | loadPlan | startTest | setStations | clearFault | clearGroup
    | runSelftest | clearEmergency | winchRun | winchStop | assignPort | releasePort | groutRequest | groutCancel
    | groutStop | groutPause | groutResume | setPoint | baseline | setSettings | setTime | setTag | resumeLink
    | closeAnchor | markExported | eraseOldest =>
    dsimp only [actOf, actTakeNotice, actSetNoticeLevel, actDeclare, actAmend, actVoid, actLoadPlan, actStartTest,
      actSetStations, actClearFault, actClearGroup, actRunSelftest, actClearEmergency, actWinchRun, actWinchStop,
      actAssignPort, actReleasePort, actGroutRequest, actGroutCancel, actGroutStop, actGroutPause, actGroutResume,
      actSetPoint, actBaseline, actSetSettings, actSetTime, actSetTag, actResumeLink, actCloseAnchor, actMarkExported,
      actEraseOldest]
    (repeat' split) <;> simp [State.startRun, State.resumePass, State.clearCombined, State.setBaseline]
  | reset | lockLimits | unknownKind | byteReceived | receiverGap | replySent | linkWatchExpiry | powerReset
    | pinReset | startUpEnd | emergencyFallingEdge | sample | holdEnd | creepReading | rampTimeout
    | wholeSecond | releaseDutyEnd | seatPulseEnd | encoderEdge | drumPulse | flowPulse | noFlowTime | noFlow
    | siteMinute | scanComplete | jackOverloadTrip | groutRefusalTrip | groutOverpressureTrip | winchJamTrip
    | winchSlackTrip | neighbourRiseTrip | wallTiltTrip | selftestFail | brakeIntervalExpiry | arbiterServe
    | valveTravelEnd | pauseExpired | appendEnd | eraseEnd | emergencyLineRise | pwmPeriodStart
    | siteClockSecond | resetPinRelease => rfl
  | _ => exact congrArg State.waits (actOf_query rfl s)

/-! ## The waiting commands, through every command -/

theorem State.pending_of_waits {s t : State} (h : t.waits = s.waits) : t.pending = s.pending := congrArg Prod.fst h

@[simp] theorem State.answer_pending (kind tag : Nat) (i : Instr) : (s.answer kind tag (actOf i)).pending = s.pending := by
  unfold State.answer
  split
  · rfl
  · have h := State.pending_of_waits (actOf_waits s i)
    exact h

@[simp] theorem takeFrame_pending (f : Frame) : (takeFrame f s).pending = s.pending := by
  unfold takeFrame
  split
  · rfl
  · split
    · exact s.answer_pending ..
    · rfl

@[simp] theorem State.watched_pending (f : Frame) : (s.watched f).pending = s.pending := by
  unfold State.watched
  split
  · rw [s.restartWatch_eq]
  · rfl

theorem State.frameArrives_pending {f : Frame} {take : State → State} (ht : ∀ u : State, (take u).pending = u.pending) :
    (s.frameArrives f take).pending = s.pending := by
  unfold State.frameArrives
  split
  · rfl
  · extract_lets watched joined
    have hw : watched.pending = s.pending := s.watched_pending f
    split
    · exact hw
    · split
      · exact (ht _).trans hw
      · exact hw

@[simp] theorem State.nextFrame_pending : s.nextFrame.pending = s.pending := by
  unfold State.nextFrame
  dsimp only
  split <;> simp

@[simp] theorem State.beginStartUp_pending : s.beginStartUp.pending = s.pending := by
  refine State.pending_of_waits ?_
  simp [State.beginStartUp, apply_ite State.waits]

@[simp] theorem State.leaveReset_pending : s.leaveReset.pending = s.pending := by
  unfold State.leaveReset
  split <;> simp

@[simp] theorem State.endStartUp_pending (ok : Bool) : (s.endStartUp ok).pending = s.pending := by
  unfold State.endStartUp
  extract_lets erased read told
  have htold : told.waits = s.waits := by simp [told, read, erased, apply_ite State.waits]
  have hpending := State.pending_of_waits htold
  exact hpending

@[simp] theorem State.cut_pending : s.cut.pending = s.pending := rfl

@[simp] theorem State.commandReset_pending : s.commandReset.pending = s.pending := State.leaveReset_pending _

/-- Every command answers a next state and leaves the waiting commands alone. -/
theorem exec_next (i : Instr) : ∃ t, exec i s = .next t ∧ t.pending = s.pending := by
  by_cases hi : i.isRequest = true
  · exact ⟨_, exec_request hi s, s.frameArrives_pending fun u => u.answer_pending ..⟩
  cases i with
  | unknownKind k tag body => exact ⟨_, rfl, s.frameArrives_pending fun u => takeFrame_pending u _⟩
  | byteReceived b stopError =>
    refine ⟨_, rfl, ?_⟩
    dsimp only
    (repeat' split)
    · rfl
    · rfl
    · exact State.frameArrives_pending _ fun u => takeFrame_pending u _
    · rfl
  | replySent =>
    refine ⟨_, rfl, ?_⟩
    dsimp only
    (repeat' split) <;> simp
  | powerReset | pinReset | startUpEnd | resetPinRelease =>
    refine ⟨_, rfl, ?_⟩
    (repeat' split) <;> simp
  | arbiterServe | encoderEdge | emergencyLineRise =>
    exact ⟨_, rfl, State.pending_of_waits (by simp [apply_ite State.waits])⟩
  | receiverGap | linkWatchExpiry | emergencyFallingEdge | sample | holdEnd | creepReading | rampTimeout | wholeSecond
    | releaseDutyEnd | seatPulseEnd | drumPulse | flowPulse | noFlowTime | noFlow | siteMinute | scanComplete
    | jackOverloadTrip | groutRefusalTrip | groutOverpressureTrip | winchJamTrip | winchSlackTrip
    | neighbourRiseTrip | wallTiltTrip | selftestFail | brakeIntervalExpiry | valveTravelEnd | pauseExpired
    | appendEnd | eraseEnd | pwmPeriodStart | siteClockSecond =>
    refine ⟨_, rfl, State.pending_of_waits ?_⟩
    dsimp only
    (repeat' split) <;> simp [State.publishScan, State.enterPumping]
  | _ => exact absurd rfl hi

end

/-! ## Commands while the part is not running (R192, R199, R200) -/

/-- R192, R199, R200: outside running, a command that is no reset, no line and no clock leaves the part as it is. -/
theorem exec_stopped {i : Instr} {s : State} (hstop : s.phase ≠ .running) (hpower : ∀ up lost, i ≠ .powerReset up lost)
    (hpin : i ≠ .pinReset) (hrelease : i ≠ .resetPinRelease) (hend : ∀ ok, i ≠ .startUpEnd ok)
    (hfall : ∀ line, i ≠ .emergencyFallingEdge line) (hrise : ∀ line, i ≠ .emergencyLineRise line)
    (hclock : i ≠ .siteClockSecond) (hedge : ∀ st line, i ≠ .encoderEdge st line) : exec i s = .next s := by
  by_cases hi : i.isRequest = true
  · rw [exec_request hi, State.request, State.frameArrives_stopped hstop]
  cases i with
  | unknownKind k tag body => exact congrArg _ (State.frameArrives_stopped hstop _ _)
  | powerReset up lost => exact absurd rfl (hpower up lost)
  | pinReset => exact absurd rfl hpin
  | resetPinRelease => exact absurd rfl hrelease
  | startUpEnd ok => exact absurd rfl (hend ok)
  | emergencyFallingEdge line => exact absurd rfl (hfall line)
  | emergencyLineRise line => exact absurd rfl (hrise line)
  | siteClockSecond => exact absurd rfl hclock
  | encoderEdge st line => exact absurd rfl (hedge st line)
  | byteReceived | receiverGap | linkWatchExpiry | sample | holdEnd | creepReading | rampTimeout | wholeSecond
    | releaseDutyEnd | seatPulseEnd | drumPulse | flowPulse | noFlowTime | noFlow | siteMinute | replySent
    | scanComplete | jackOverloadTrip | groutRefusalTrip | groutOverpressureTrip | winchJamTrip | winchSlackTrip
    | neighbourRiseTrip | wallTiltTrip | selftestFail | brakeIntervalExpiry | arbiterServe | valveTravelEnd | pauseExpired
    | appendEnd | eraseEnd | pwmPeriodStart => exact congrArg _ (if_neg hstop)
  | _ => exact absurd rfl hi

end Sys2Proof.Machine
end

section
open Sys2Proof Sys2Proof.Machine in
/-- Settles O2: every command's next state, and the commands that do nothing outside running. -/
theorem everyCommandCompletes : Obligations.EveryCommandCompletes := by
  unfold Obligations.EveryCommandCompletes
  exact ⟨fun i s => exec_next s i, fun i s hstop hpower hpin hrelease hend hfall hrise hclock hedge =>
    exec_stopped hstop hpower hpin hrelease hend hfall hrise hclock hedge⟩
end

section
namespace Sys2Proof.Machine

/-! ## The bytes of a reply (R183, R184, R187, R193) -/

theorem leBytes_two (n : Nat) : leBytes 2 n = [BitVec.ofNat 8 n, BitVec.ofNat 8 (n / 256)] := rfl

theorem leBytes_four (n : Nat) :
    leBytes 4 n =
      [BitVec.ofNat 8 n, BitVec.ofNat 8 (n / 256), BitVec.ofNat 8 (n / 65536), BitVec.ofNat 8 (n / 16777216)] := by
  simp [leBytes, Nat.div_div_eq_div_mul]

/-- R187: the byte of eight bits, the first the lowest. -/
def Status.flags (b : Status) : Nat :=
  Nat.bit b.emergency <| Nat.bit b.linkLost <| Nat.bit b.limitsLocked <| Nat.bit b.trip <|
    Nat.bit b.attn <| Nat.bit b.overflow <| Nat.bit b.overrun <| Nat.bit b.clockValid 0

theorem Status.flags_eq (b : Status) :
    b.flags = b.emergency.toNat + 2 * b.linkLost.toNat + 4 * b.limitsLocked.toNat + 8 * b.trip.toNat +
      16 * b.attn.toNat + 32 * b.overflow.toNat + 64 * b.overrun.toNat + 128 * b.clockValid.toNat := by
  simp only [Status.flags, Nat.bit_val]
  omega

theorem Status.flags_bits (b : Status) :
    (List.range 8).map (BitVec.ofNat 8 b.flags).getLsbD =
      [b.emergency, b.linkLost, b.limitsLocked, b.trip, b.attn, b.overflow, b.overrun, b.clockValid] := by
  have hbits : (List.range 8).map (BitVec.ofNat 8 b.flags).getLsbD = (List.range 8).map b.flags.testBit :=
    List.map_congr_left fun i hi => by
      rw [BitVec.getLsbD_ofNat, decide_eq_true (List.mem_range.1 hi), Bool.true_and]
  rw [hbits]
  simp [List.range_succ, Status.flags, Nat.testBit_bit_succ]

theorem Status.bytes_eq (b : Status) :
    b.bytes =
      [BitVec.ofNat 8 b.code.code, b.comb.setWidth 8, BitVec.ofNat 8 b.flags, BitVec.ofNat 8 (b.s1 + 16 * b.s2),
       BitVec.ofNat 8 (b.w + 16 * b.g), BitVec.ofNat 8 b.pendingCount, BitVec.ofNat 8 b.detail,
       BitVec.ofNat 8 (b.detail / 256)] := by
  rw [Status.bytes, ← b.flags_eq, ← BitVec.ofNat_toNat]
  rfl

/-- Two's complement of a number that fits so many bytes. -/
theorem leSigned_eq (w : Nat) {z : Int} (hlo : -(256 ^ w : Nat) ≤ z) (hhi : z < (256 ^ w : Nat)) :
    leSigned w z = leBytes w (if z < 0 then z + (256 ^ w : Nat) else z).toNat := by
  rw [leSigned]
  congr 2
  split
  · next hneg => rw [← Int.add_emod_right, Int.emod_eq_of_lt (by omega) (by omega)]
  · next hpos => exact Int.emod_eq_of_lt (by omega) hhi

theorem Reply.lineBytes_eq (r : Reply) :
    let body := r.status.bytes ++ r.fields.flatMap WField.bytes
    let covered := [BitVec.ofNat 8 (2 + body.length), BitVec.ofNat 8 r.kind, BitVec.ofNat 8 r.tag] ++ body
    r.lineBytes = [0x5A#8] ++ covered ++ [(crc covered).setWidth 8, (crc covered >>> 8).setWidth 8] := by
  intro body covered
  have hcovered : covered = coveredBytes r.kind r.tag body := by
    simp only [covered, Nat.add_comm 2]
    rfl
  rw [hcovered]
  rfl

/-- R184: the polynomial is taken when the bit that leaves differs from the data bit. -/
theorem crcBit_eq (reg : BitVec 16) (bit : Bool) :
    crcBit reg bit = if reg.msb = bit then reg <<< 1 else (reg <<< 1) ^^^ 0x1021#16 := by
  unfold crcBit
  by_cases h : reg.msb = bit <;> simp [h]

theorem crc_concat (l : List Byte) (b : Byte) : crc (l ++ [b]) = crcByte (crc l) b := by
  rw [crc, List.foldl_concat, ← crc]

/-! ## A request taken at once (R185, R186) -/

section
variable (i : Instr) (s : State)

theorem actOf_queue : (actOf i s).1.link.queue = s.link.queue := congrArg (·.2.1) (actOf_waits s i)

theorem actOf_overrun : (actOf i s).1.link.overrun = s.link.overrun := congrArg (·.2.2) (actOf_waits s i)

end

end Sys2Proof.Machine
end

section
open Sys2Proof Sys2Proof.Machine in
/-- Settles O16: the reply of a request that is taken, then the bytes of a status block, of a field and of a reply. -/
theorem everyTakenRequestIsAnswered : Obligations.EveryTakenRequestIsAnswered := by
  unfold Obligations.EveryTakenRequestIsAnswered
  refine ⟨fun i s hi hs => ?_, fun b => ⟨_, b.bytes_eq, b.flags_bits⟩, rfl, rfl, rfl, rfl, rfl,
    fun n => ⟨rfl, leBytes_two n, leBytes_four n⟩, fun z => ⟨fun hlo hhi => ?_, fun hlo hhi => ?_⟩,
    Reply.lineBytes_eq, rfl, fun l b => ?_⟩
  · refine ⟨_, _, (exec_request hi s).trans (State.request_accepts hs (request_known hi) _), rfl, rfl, rfl, rfl, rfl, rfl,
      rfl, rfl, rfl, rfl, rfl, rfl, rfl, rfl, rfl, rfl, ?_, rfl, ?_⟩
    · exact actOf_overrun i (s.taken i)
    · exact actOf_queue i (s.taken i)
  · exact leSigned_eq 2 (by omega) (by omega)
  · exact leSigned_eq 4 (by omega) (by omega)
  · intro fed
    have hfed : (fun r i => crcBit r (b.getLsbD i)) = fed := funext fun r => funext fun i => crcBit_eq r _
    rw [crc_concat, crcByte, hfed]
end
